-- ==== Sys2Proof/Word.lean ====
section
/-! DEFINITION. The widths of the link and of the profile store: characters of 8 bits, words of 16 bits
(R151, R162), and the 12-bit result of the converter (R22). -/

namespace Sys2Proof

/-- One character of the Cab Air Link (R151). -/
abbrev Byte := BitVec 8

/-- One word of the profile store (R162). -/
abbrev Word := BitVec 16

/-- A raw reading, 0 to 4095 (R22). -/
abbrev RawReading := BitVec 12

end Sys2Proof
end

