-- ==== Sys2Proof/Syntax.lean ====
section
/-! DEFINITION. The commands of the unit: one constructor per row of spec/opcode_table.json, with the
operands its rule gives it, and the identifiers the operands are made of. -/

namespace Sys2Proof

/-- An analog channel, 0 to 7 (R21). -/
abbrev Channel := Fin 8

/-- A circuit identifier, 0 to 14 (R1). -/
abbrev CircuitId := Fin 15

/-- A valve output; the valve number of R10 is one more. -/
abbrev ValveId := Fin 22

/-- A tyre position; Tn is `n - 1`, its circuit `n + 2` (00_scope.md). -/
abbrev TyreId := Fin 12

/-- The two sides of the trailer. -/
inductive Side where
  | left
  | right
deriving DecidableEq, Repr

/-- The two positions of the isolation valve (R16, R39). -/
inductive Position where
  | connected
  | isolated
deriving DecidableEq, Repr

/-- The verdict of an electrical check (R12). -/
inductive CoilVerdict where
  | healthy
  | faulty
deriving DecidableEq, Repr

/-- The commands. A request row is the whole handling (R153) of a valid telegram of that kind, and its
first operand is the TAG; a row that names a moment of internal time is that moment. -/
inductive Instr where
  /-- POWER_ON_RESET (R148). -/
  | powerOnReset
  /-- RESTART (R148): the last character of the CONTROL RESTART reply has been sent. -/
  | restart
  /-- TELEGRAM_RECEIVED (R152, R153): a complete telegram, from SYNC to the second CHECK character. -/
  | telegramReceived (chars : List Byte)
  /-- FRAMER_GAP (R151). -/
  | framerGap
  /-- TELEGRAM_SENT (R157): the last character of the oldest queued telegram has been sent. -/
  | telegramSent
  /-- LINK_LOST (R160). -/
  | linkLost
  /-- SUMMARY (R159). -/
  | summary
  /-- STATUS (R156). -/
  | status (tag : Byte)
  /-- READ_CIRCUIT (R2). -/
  | readCircuit (tag id : Byte)
  /-- READ_SIDE (R59). -/
  | readSide (tag side : Byte)
  /-- READ_SENSORS (R41). -/
  | readSensors (tag : Byte)
  /-- SET_MODE (R106): a body of 1, or of 3 when a height is given. -/
  | setMode (tag mode : Byte) (height : Option Word)
  /-- STEP_HEIGHT (R107): the step is signed. -/
  | stepHeight (tag step : Byte)
  /-- LIFT with action RAISE (R117). -/
  | liftRaise (tag : Byte)
  /-- LIFT with action LOWER (R117). -/
  | liftLower (tag : Byte)
  /-- LIFT with action AUTO (R117). -/
  | liftAuto (tag : Byte)
  /-- LIFT with action MANUAL (R117). -/
  | liftManual (tag : Byte)
  /-- CIRCUIT with action RESUME (R9, R136). -/
  | circuitResume (tag id : Byte)
  /-- CIRCUIT with action ISOLATE (R135). -/
  | circuitIsolate (tag id : Byte)
  /-- CIRCUIT with action PROBE (R137). -/
  | circuitProbe (tag id : Byte)
  /-- SURVEY (R138). -/
  | survey (tag : Byte)
  /-- SPEED (R109). -/
  | speed (tag kmh : Byte)
  /-- GET_PARAM (R161): the channel is given for P96. -/
  | getParam (tag number : Byte) (channel : Option Byte)
  /-- SET_PARAM (R161, R170): the bytes after the parameter number. -/
  | setParam (tag number : Byte) (value : List Byte)
  /-- EVENTS (R165). -/
  | events (tag : Byte)
  /-- CLEAR (R156). -/
  | clear (tag : Byte)
  /-- TIME (R163). -/
  | time (tag : Byte) (value : BitVec 32)
  /-- CONTROL with action RUN (R147). -/
  | controlRun (tag : Byte)
  /-- CONTROL with action HOLD (R147). -/
  | controlHold (tag : Byte)
  /-- CONTROL with action RESTART (R147). -/
  | controlRestart (tag : Byte)
  /-- LAMP_TEST (R168). -/
  | lampTest (tag : Byte)
  /-- LAMP_TEST_END (R168). -/
  | lampTestEnd
  /-- PROFILE_BEGIN (R172). -/
  | profileBegin (tag : Byte)
  /-- PROFILE_PUT (R172): a load record of head, first index and values (R162). -/
  | profilePut (tag : Byte) (head first : Word) (values : List Word)
  /-- PROFILE_END (R172). -/
  | profileEnd (tag : Byte)
  /-- PROFILE_RELOAD (R172). -/
  | profileReload (tag : Byte)
  /-- PROFILE_READ (R172). -/
  | profileRead (tag : Byte) (index : Word)
  /-- STORE_WRITTEN (R172). -/
  | storeWritten
  /-- STORE_BUSY_END (R172). -/
  | storeBusyEnd
  /-- STORE_FAILED (R173): the word that did not read back as written, and what it reads. -/
  | storeFailed (index : Fin 512) (found : Word)
  /-- LOADER_END (R175). -/
  | loaderEnd
  /-- START_UP_END (R176). -/
  | startUpEnd
  /-- ANALOG_READING (R22). -/
  | analogReading (channel : Channel) (raw : RawReading)
  /-- RAMP_CONTACT_CHANGE (R38): the present state of the two contacts, closed or not. -/
  | rampContactChange (noClosed ncClosed : Bool)
  /-- DEBOUNCED_RAMP_READING (R38). -/
  | debouncedRampReading
  /-- POSITION_SWITCH_CHANGE (R39). -/
  | positionSwitchChange (position : Position)
  /-- DEBOUNCED_POSITION (R39). -/
  | debouncedPosition
  /-- ELECTRICAL_CHECK (R12). -/
  | electricalCheck (valve : ValveId) (verdict : CoilVerdict)
  /-- ISOLATION_PULSE_END (R17). -/
  | isolationPulseEnd
  /-- POSITION_WATCH_EXPIRY (R17). -/
  | positionWatchExpiry
  /-- LAMP_BLINK (R20). -/
  | lampBlink
  /-- PROMOTION (R66). -/
  | promotion (circuit : CircuitId)
  /-- PHASE_END (R84). -/
  | phaseEnd (circuit : CircuitId)
  /-- HOLDOFF_END (R96). -/
  | holdoffEnd (circuit : CircuitId)
  /-- SPEED_AGE_OUT (R109). -/
  | speedAgeOut
  /-- PERSISTENCE_EXPIRY (R114). -/
  | persistenceExpiry (side : Side)
  /-- LIFT_DWELL_END (R121). -/
  | liftDwellEnd
  /-- PROBE_INTERVAL_EXPIRY (R128). -/
  | probeIntervalExpiry (tyre : TyreId)
  /-- SUPPLY_RESTORED (R142). -/
  | supplyRestored
  /-- TIME_TAG_ADVANCE (R163). -/
  | timeTagAdvance
  /-- TIME_ROLLOVER (R163). -/
  | timeRollover
  /-- CHARACTER_RECEIVED (R151). -/
  | characterReceived (char : Byte)
  /-- FRAMING_ERROR (R151). -/
  | framingError
deriving DecidableEq, Repr

end Sys2Proof
end

