-- ==== Sys2Proof/Decode.lean ====
section
/-! DEFINITION. The decoder over the rows of spec/opcode_table.json that give bits. No row of this part's
table gives any (its commands are requests, readings and moments of time, not instruction words). -/

namespace Sys2Proof

/-- The command a word of the table's bits spells: none, since no row has bits (log entry 34). The bytes
of a telegram are decoded by the framer and the request table of Machine/Operands.lean. -/
def decodeTableWord (_nbits _w : Nat) : Option Instr := none

end Sys2Proof
end

