-- ==== Sys2Proof/Machine/Constants.lean ====
section
/-! DEFINITION. The fixed times and levels of the rules. Times are in ms of internal time. -/

namespace Sys2Proof.Machine.Fixed

/-- The end of an electrical check after the energise (R12). -/
def electricalCheck : Nat := 20
/-- The isolation pulse (R16). -/
def isolationPulse : Nat := 150
/-- The position watch, from the start of the pulse (R17). -/
def positionWatch : Nat := 500
/-- One half-period of BLINK (R20). -/
def blinkHalf : Nat := 500
/-- The lowest good raw reading (R23). -/
def goodLowest : Nat := 123
/-- The highest good raw reading (R23). -/
def goodHighest : Nat := 3972
/-- The hold of the ramp candidate (R38). -/
def rampHold : Nat := 200
/-- The hold of the position candidate (R39). -/
def positionHold : Nat := 50
/-- The bad score at which a channel fails (R30). -/
def badScoreLimit : Nat := 20
/-- The good run that takes UNKNOWN to VALID (R30). -/
def fillingRun : Nat := 8
/-- The good run that takes FAILED to VALID, at which the run is held (R30). -/
def recoveryRun : Nat := 25
/-- The hysteresis of a trip comparator, in kPa (R37). -/
def tripHysteresis : Nat := 20
/-- The settle time of a lift transaction (R83). -/
def liftSettle : Nat := 500
/-- The slots of the Transaction Engine (R80). -/
def slots : Nat := 5
/-- The largest step of STEP_HEIGHT, in mm (R107). -/
def largestStep : Int := 50
/-- The speed above which RAMP_AT_SPEED is active, in km/h (R111). -/
def rampSpeed : Nat := 5
/-- The greatest speed, in km/h (R109). -/
def speedLimit : Nat := 150
/-- The drop of b below P82 at which a raised lift axle is refilled, in kPa (R119). -/
def refillDrop : Nat := 30
/-- The dwell of an AUTO raise (R121). -/
def liftDwell : Nat := 10000
/-- The least time between the two probes of a leak rate (R130). -/
def leakTime : Nat := 10000
/-- The value at which a leak rate is held (R130). -/
def leakLimit : Nat := 32767
/-- The drop level of the valve supply, in tenths of a volt (R142). -/
def supplyDrop : Nat := 180
/-- The recovery level of the valve supply, in tenths of a volt (R142). -/
def supplyRecovery : Nat := 190
/-- The steady voltage that ends LOW_SUPPLY (R142). -/
def supplySteady : Nat := 1000
/-- The longest gap between two characters of a telegram (R151). -/
def characterGap : Nat := 5
/-- The places of the Transmit Queue (R157). -/
def transmitPlaces : Nat := 8
/-- The records of the Event Queue (R165). -/
def eventPlaces : Nat := 48
/-- The duration of a lamp test (R168). -/
def lampTest : Nat := 3000
/-- The busy time of PROFILE_BEGIN (R172). -/
def storeErase : Nat := 120
/-- The busy time of one word written (R172). -/
def storeWord : Nat := 4
/-- The duration of a loader run (R174). -/
def loaderRun : Nat := 50
/-- The least duration of start-up (R176). -/
def startUp : Nat := 1000

end Sys2Proof.Machine.Fixed
end

