-- ==== Sys2Proof/Machine/Arith.lean ====
section
/-! DEFINITION. The arithmetic the rules share: rounding (00_scope.md "Rounding"), clamping, and the bytes
of a value, most significant first (00_scope.md "Link byte order"). -/

namespace Sys2Proof.Machine

/-- The exact quotient rounded to the nearest integer, an exact half upwards (00_scope.md "Rounding").
Every quantity that is rounded is non-negative. -/
def roundDiv (n d : Nat) : Nat := (2 * n + d) / (2 * d)

/-- A value moved into the bounds it is outside of. -/
def clampNat (lo hi x : Nat) : Nat := max lo (min hi x)

/-- The same for a signed value. -/
def clampInt (lo hi x : Int) : Int := max lo (min hi x)

/-- The distance of two values. -/
def absDiff (a b : Nat) : Nat := (a - b) + (b - a)

/-- A value of one byte. -/
def byteOf (n : Nat) : Byte := BitVec.ofNat 8 n

/-- A value of two bytes, most significant first. -/
def bytes2 (n : Nat) : List Byte := [byteOf (n / 256), byteOf n]

/-- A value of three bytes, most significant first. -/
def bytes3 (n : Nat) : List Byte := byteOf (n / 65536) :: bytes2 n

/-- A value of four bytes, most significant first. -/
def bytes4 (n : Nat) : List Byte := bytes2 (n / 65536) ++ bytes2 n

/-- The number two bytes spell. -/
def nat2 (hi lo : Byte) : Nat := hi.toNat * 256 + lo.toNat

/-- The word two bytes spell. -/
def word2 (hi lo : Byte) : Word := BitVec.ofNat 16 (nat2 hi lo)

/-- A bit as a number, at its place. -/
def bitAt (place : Nat) (b : Bool) : Nat := if b then 2 ^ place else 0

/-- A signed value in two's complement of two bytes. -/
def signed2 (v : Int) : List Byte := bytes2 (v % 65536).toNat

end Sys2Proof.Machine
end

