-- ==== Sys2Proof/Machine/Params.lean ====
section
/-! DEFINITION. The Configuration Table: the parameters of R169 with their defaults and ranges, the forms of
R161, and the consistency check of R171. -/

namespace Sys2Proof.Machine

/-- The fitment (P02). -/
inductive Fitment where
  | single
  | dual
deriving DecidableEq, Repr

/-- The lift axle (P03). -/
inductive LiftAxle where
  | notFitted
  | fitted
deriving DecidableEq, Repr

/-- The lift mode (P84). -/
inductive LiftMode where
  | manual
  | auto
deriving DecidableEq, Repr

/-- The calibration of one channel (P96, R24). -/
structure Calibration where
  zeroCount : Nat
  fullCount : Nat
  fullScale : Nat
deriving DecidableEq, Repr

/-- The running configuration (R169). The names are the book's parameter numbers. -/
structure Params where
  p01 : Nat
  p02 : Fitment
  p03 : LiftAxle
  p10 : Nat
  p11 : Nat
  p12 : Nat
  p13 : Nat
  p14 : Nat
  p15 : Nat
  p16 : Nat
  p17 : Nat
  p18 : Nat
  p19 : Nat
  p20 : Nat
  p21 : Nat
  p30 : Nat
  p31 : Nat
  p32 : Nat
  p33 : Nat
  p34 : Nat
  p35 : Nat
  p36 : Nat
  p37 : Nat
  p38 : Nat
  p39 : Nat
  p40 : Nat
  p41 : Nat
  p42 : Nat
  p43 : Nat
  p44 : Nat
  p45 : Nat
  p50 : Nat
  p51 : List (Nat × Nat)
  p52 : List (Nat × Nat)
  p53 : Nat
  p54 : Nat
  p55 : Nat
  p56 : Nat
  p60 : Nat
  p61 : Nat
  p62 : Nat
  p63 : Nat
  p64 : Nat
  p65 : Nat
  p66 : Nat
  p67 : Nat
  p68 : Nat
  p69 : Nat
  p70 : Nat
  p71 : Nat
  p72 : Nat
  p73 : Nat
  p74 : Nat
  p75 : Nat
  p76 : Int
  p80 : Nat
  p81 : Nat
  p82 : Nat
  p83 : Nat
  p84 : LiftMode
  p85 : Nat
  p90 : Nat
  p91 : Nat
  p92 : Nat
  p93 : BitVec 4
  p94 : BitVec 4
  p95 : Nat
  p96 : Vector Calibration 8
deriving DecidableEq, Repr

/-- The default bellows area table (R46). -/
def defaultAreaTable : List (Nat × Nat) := [(150, 690), (200, 720), (250, 760), (300, 800), (400, 840)]

/-- The default load-inflation table (R51). -/
def defaultLoadTable : List (Nat × Nat) := [(1500, 450), (2000, 550), (2250, 600), (2500, 650), (2800, 720)]

/-- The default calibrations (R24). -/
def defaultCalibration : Vector Calibration 8 :=
  #v[⟨410, 3686, 1200⟩, ⟨410, 3686, 1000⟩, ⟨410, 3686, 1000⟩, ⟨410, 3686, 1000⟩, ⟨410, 3686, 1000⟩,
     ⟨410, 3686, 500⟩, ⟨410, 3686, 500⟩, ⟨0, 4095, 400⟩]

/-- The defaults of R169. -/
def Params.defaults : Params where
  p01 := 3
  p02 := .dual
  p03 := .notFitted
  p10 := 290
  p11 := 250
  p12 := 140
  p13 := 420
  p14 := 200
  p15 := 12
  p16 := 4
  p17 := 3000
  p18 := 300
  p19 := 100
  p20 := 10
  p21 := 15
  p30 := 600
  p31 := 50
  p32 := 520
  p33 := 50
  p34 := 850
  p35 := 950
  p36 := 60
  p37 := 40
  p38 := 80
  p39 := 1500
  p40 := 1500
  p41 := 600
  p42 := 2
  p43 := 5
  p44 := 20
  p45 := 5000
  p50 := 400
  p51 := defaultAreaTable
  p52 := defaultLoadTable
  p53 := 250
  p54 := 900
  p55 := 5
  p56 := 80
  p60 := 20
  p61 := 40
  p62 := 300
  p63 := 30
  p64 := 100
  p65 := 400
  p66 := 100
  p67 := 25
  p68 := 100
  p69 := 3000
  p70 := 300
  p71 := 400
  p72 := 800
  p73 := 3
  p74 := 30
  p75 := 60
  p76 := 0
  p80 := 3000
  p81 := 2000
  p82 := 300
  p83 := 20
  p84 := .auto
  p85 := 1000
  p90 := 2000
  p91 := 2000
  p92 := 0
  p93 := 0b1111#4
  p94 := 0b0110#4
  p95 := 10
  p96 := defaultCalibration

/-- A numeric parameter of R169 with a contiguous range: how it is read and written, and its bounds. -/
structure NumericParam where
  get : Params → Int
  set : Int → Params → Params
  lo : Int
  hi : Int

/-- The numeric parameters and their ranges (R169). -/
def numericParam : Nat → Option NumericParam
  | 1 => some ⟨fun p => p.p01, fun v p => { p with p01 := v.toNat }, 2, 3⟩
  | 10 => some ⟨fun p => p.p10, fun v p => { p with p10 := v.toNat }, 150, 450⟩
  | 11 => some ⟨fun p => p.p11, fun v p => { p with p11 := v.toNat }, 150, 450⟩
  | 12 => some ⟨fun p => p.p12, fun v p => { p with p12 := v.toNat }, 100, 300⟩
  | 13 => some ⟨fun p => p.p13, fun v p => { p with p13 := v.toNat }, 300, 480⟩
  | 14 => some ⟨fun p => p.p14, fun v p => { p with p14 := v.toNat }, 80, 250⟩
  | 15 => some ⟨fun p => p.p15, fun v p => { p with p15 := v.toNat }, 4, 40⟩
  | 16 => some ⟨fun p => p.p16, fun v p => { p with p16 := v.toNat }, 2, 20⟩
  | 17 => some ⟨fun p => p.p17, fun v p => { p with p17 := v.toNat }, 0, 10000⟩
  | 18 => some ⟨fun p => p.p18, fun v p => { p with p18 := v.toNat }, 0, 2000⟩
  | 19 => some ⟨fun p => p.p19, fun v p => { p with p19 := v.toNat }, 4, 128⟩
  | 20 => some ⟨fun p => p.p20, fun v p => { p with p20 := v.toNat }, 4, 128⟩
  | 21 => some ⟨fun p => p.p21, fun v p => { p with p21 := v.toNat }, 5, 40⟩
  | 30 => some ⟨fun p => p.p30, fun v p => { p with p30 := v.toNat }, 450, 750⟩
  | 31 => some ⟨fun p => p.p31, fun v p => { p with p31 := v.toNat }, 20, 150⟩
  | 32 => some ⟨fun p => p.p32, fun v p => { p with p32 := v.toNat }, 300, 700⟩
  | 33 => some ⟨fun p => p.p33, fun v p => { p with p33 := v.toNat }, 20, 200⟩
  | 34 => some ⟨fun p => p.p34, fun v p => { p with p34 := v.toNat }, 400, 1000⟩
  | 35 => some ⟨fun p => p.p35, fun v p => { p with p35 := v.toNat }, 500, 1100⟩
  | 36 => some ⟨fun p => p.p36, fun v p => { p with p36 := v.toNat }, 10, 250⟩
  | 37 => some ⟨fun p => p.p37, fun v p => { p with p37 := v.toNat }, 10, 250⟩
  | 38 => some ⟨fun p => p.p38, fun v p => { p with p38 := v.toNat }, 40, 500⟩
  | 39 => some ⟨fun p => p.p39, fun v p => { p with p39 := v.toNat }, 200, 3000⟩
  | 40 => some ⟨fun p => p.p40, fun v p => { p with p40 := v.toNat }, 200, 5000⟩
  | 41 => some ⟨fun p => p.p41, fun v p => { p with p41 := v.toNat }, 200, 3000⟩
  | 42 => some ⟨fun p => p.p42, fun v p => { p with p42 := v.toNat }, 1, 10⟩
  | 43 => some ⟨fun p => p.p43, fun v p => { p with p43 := v.toNat }, 2, 30⟩
  | 44 => some ⟨fun p => p.p44, fun v p => { p with p44 := v.toNat }, 5, 60⟩
  | 45 => some ⟨fun p => p.p45, fun v p => { p with p45 := v.toNat }, 1000, 30000⟩
  | 50 => some ⟨fun p => p.p50, fun v p => { p with p50 := v.toNat }, 0, 1000⟩
  | 53 => some ⟨fun p => p.p53, fun v p => { p with p53 := v.toNat }, 100, 500⟩
  | 54 => some ⟨fun p => p.p54, fun v p => { p with p54 := v.toNat }, 400, 1000⟩
  | 55 => some ⟨fun p => p.p55, fun v p => { p with p55 := v.toNat }, 0, 20⟩
  | 56 => some ⟨fun p => p.p56, fun v p => { p with p56 := v.toNat }, 40, 120⟩
  | 60 => some ⟨fun p => p.p60, fun v p => { p with p60 := v.toNat }, 5, 80⟩
  | 61 => some ⟨fun p => p.p61, fun v p => { p with p61 := v.toNat }, 10, 150⟩
  | 62 => some ⟨fun p => p.p62, fun v p => { p with p62 := v.toNat }, 30, 3600⟩
  | 63 => some ⟨fun p => p.p63, fun v p => { p with p63 := v.toNat }, 10, 300⟩
  | 64 => some ⟨fun p => p.p64, fun v p => { p with p64 := v.toNat }, 1, 500⟩
  | 65 => some ⟨fun p => p.p65, fun v p => { p with p65 := v.toNat }, 10, 2000⟩
  | 66 => some ⟨fun p => p.p66, fun v p => { p with p66 := v.toNat }, 20, 300⟩
  | 67 => some ⟨fun p => p.p67, fun v p => { p with p67 := v.toNat }, 5, 100⟩
  | 68 => some ⟨fun p => p.p68, fun v p => { p with p68 := v.toNat }, 50, 1000⟩
  | 69 => some ⟨fun p => p.p69, fun v p => { p with p69 := v.toNat }, 500, 5000⟩
  | 70 => some ⟨fun p => p.p70, fun v p => { p with p70 := v.toNat }, 100, 2000⟩
  | 71 => some ⟨fun p => p.p71, fun v p => { p with p71 := v.toNat }, 100, 2000⟩
  | 72 => some ⟨fun p => p.p72, fun v p => { p with p72 := v.toNat }, 200, 5000⟩
  | 73 => some ⟨fun p => p.p73, fun v p => { p with p73 := v.toNat }, 1, 20⟩
  | 74 => some ⟨fun p => p.p74, fun v p => { p with p74 := v.toNat }, 10, 100⟩
  | 75 => some ⟨fun p => p.p75, fun v p => { p with p75 := v.toNat }, 5, 600⟩
  | 76 => some ⟨fun p => p.p76, fun v p => { p with p76 := v }, -20, 20⟩
  | 80 => some ⟨fun p => p.p80, fun v p => { p with p80 := v.toNat }, 500, 5000⟩
  | 81 => some ⟨fun p => p.p81, fun v p => { p with p81 := v.toNat }, 500, 5000⟩
  | 82 => some ⟨fun p => p.p82, fun v p => { p with p82 := v.toNat }, 100, 600⟩
  | 83 => some ⟨fun p => p.p83, fun v p => { p with p83 := v.toNat }, 5, 60⟩
  | 85 => some ⟨fun p => p.p85, fun v p => { p with p85 := v.toNat }, 200, 3000⟩
  | 91 => some ⟨fun p => p.p91, fun v p => { p with p91 := v.toNat }, 500, 10000⟩
  | 92 => some ⟨fun p => p.p92, fun v p => { p with p92 := v.toNat }, 0, 60⟩
  | _ => none

/-- The parameters whose value is one word (R161): the numeric ones, the codes, and the flags. -/
def isWordParam (n : Nat) : Bool :=
  (numericParam n).isSome || n == 2 || n == 3 || n == 84 || n == 90 || n == 93 || n == 94 || n == 95

/-- The parameters of R169, by number. -/
def isParam (n : Nat) : Bool := isWordParam n || n == 51 || n == 52 || n == 96

/-- The guarded parameters (R169). -/
def isGuarded (n : Nat) : Bool := [1, 2, 3, 12, 13, 30, 32, 53, 54, 80, 81, 51, 52].contains n

/-- A value raised to the next allowed one above it, or held at the largest (R160, R170 step 2). -/
def raiseTo : List Nat → Nat → Nat
  | [], v => v
  | [a], _ => a
  | a :: rest, v => if v ≤ a then a else raiseTo rest v

/-- The signed or unsigned reading of a parameter's word (R161). -/
def wordValue (n : Nat) (w : Word) : Int := if n = 76 then w.toInt else w.toNat

/-- A one-word parameter written in the form of R161, clamped as R170 step 2 clamps it, and whether the
clamp moved the value. None for a code outside its list and for P93 or P94 above 15. -/
def writeWord (n : Nat) (w : Word) (p : Params) : Option (Params × Bool) :=
  match n with
  | 2 => match w.toNat with
    | 0 => some ({ p with p02 := .single }, false)
    | 1 => some ({ p with p02 := .dual }, false)
    | _ => none
  | 3 => match w.toNat with
    | 0 => some ({ p with p03 := .notFitted }, false)
    | 1 => some ({ p with p03 := .fitted }, false)
    | _ => none
  | 84 => match w.toNat with
    | 0 => some ({ p with p84 := .manual }, false)
    | 1 => some ({ p with p84 := .auto }, false)
    | _ => none
  | 90 =>
    let v := raiseTo [500, 1000, 2000, 5000] w.toNat
    some ({ p with p90 := v }, v != w.toNat)
  | 95 =>
    let v := raiseTo [10, 100] w.toNat
    some ({ p with p95 := v }, v != w.toNat)
  | 93 => if w.toNat ≤ 15 then some ({ p with p93 := BitVec.ofNat 4 w.toNat }, false) else none
  | 94 => if w.toNat ≤ 15 then some ({ p with p94 := BitVec.ofNat 4 w.toNat }, false) else none
  | n => (numericParam n).map fun e =>
      let v := clampInt e.lo e.hi (wordValue n w)
      (e.set v p, v != wordValue n w)

/-- The value of a one-word parameter in the form of R161. -/
def readWord (n : Nat) (p : Params) : Int :=
  match n with
  | 2 => if p.p02 = .dual then 1 else 0
  | 3 => if p.p03 = .fitted then 1 else 0
  | 84 => if p.p84 = .auto then 1 else 0
  | 90 => p.p90
  | 95 => p.p95
  | 93 => p.p93.toNat
  | 94 => p.p94.toNat
  | n => match numericParam n with
    | some e => e.get p
    | none => 0

/-- The bounds of a point of P51 or P52: first value, second value (R169). -/
def pointBounds (n : Nat) : (Nat × Nat) × (Nat × Nat) :=
  if n = 51 then ((50, 500), (200, 1500)) else ((100, 5000), (100, 1000))

/-- A point of P51 or P52 clamped value by value (R170 step 3). -/
def clampPoint (n : Nat) (pt : Nat × Nat) : Nat × Nat :=
  (clampNat (pointBounds n).1.1 (pointBounds n).1.2 pt.1, clampNat (pointBounds n).2.1 (pointBounds n).2.2 pt.2)

/-- The most points of P51 or P52 (R169). -/
def mostPoints (n : Nat) : Nat := if n = 51 then 8 else 12

/-- The first values of a table are strictly ascending. -/
def ascending : List (Nat × Nat) → Bool
  | a :: b :: rest => decide (a.1 < b.1) && ascending (b :: rest)
  | _ => true

/-- The second values of a table do not fall. -/
def notFalling : List (Nat × Nat) → Bool
  | a :: b :: rest => decide (a.2 ≤ b.2) && notFalling (b :: rest)
  | _ => true

/-- The test on P51 or P52 of R170 step 3 and R171. -/
def tableSound (n : Nat) (pts : List (Nat × Nat)) : Bool :=
  decide (2 ≤ pts.length) && decide (pts.length ≤ mostPoints n) && ascending pts &&
    (n == 51 || notFalling pts)

/-- A table written into its parameter. -/
def setTable (n : Nat) (pts : List (Nat × Nat)) (p : Params) : Params :=
  if n = 51 then { p with p51 := pts } else { p with p52 := pts }

/-- The table of P51 or P52. -/
def getTable (n : Nat) (p : Params) : List (Nat × Nat) := if n = 51 then p.p51 else p.p52

/-- A calibration clamped into its ranges (R169, R170 step 2). -/
def clampCalibration (ch : Channel) (c : Calibration) : Calibration :=
  ⟨clampNat 0 4095 c.zeroCount, clampNat 0 4095 c.fullCount,
   clampNat 1 (if ch.val ≤ 4 then 1200 else 2000) c.fullScale⟩

/-- The consistency check (R171). -/
def consistent (p : Params) : Bool :=
  decide (p.p32 < p.p30) && decide (p.p12 ≤ p.p14) && decide (p.p14 ≤ p.p11) && decide (p.p10 ≤ p.p13) &&
    decide (p.p53 < p.p54) && decide (p.p81 < p.p80) && tableSound 51 p.p51 && tableSound 52 p.p52

end Sys2Proof.Machine
end

