-- ==== Sys2Proof/Machine/Records.lean ====
section
/-! DEFINITION. What each block holds: the records of chapters 1 to 11 and their values after a reset. A
moment that the book counts down or counts up (a remaining time, an age) is held as the internal time of its
end or of its beginning, so that letting time pass changes nothing but the clock. -/

namespace Sys2Proof.Machine

/-- One value for each side. -/
structure PerSide (α : Type) where
  left : α
  right : α
deriving DecidableEq, Repr

/-- The value of a side. -/
def PerSide.get {α : Type} (p : PerSide α) : Side → α
  | .left => p.left
  | .right => p.right

/-- The value of one side replaced. -/
def PerSide.set {α : Type} (p : PerSide α) (side : Side) (a : α) : PerSide α :=
  match side with
  | .left => { p with left := a }
  | .right => { p with right := a }

/-! ### Sensing Block (chapter 2) -/

/-- The status of a channel (R30). -/
inductive SensorStatus where
  | unknown
  | valid
  | failed
deriving DecidableEq, Repr

/-- An analog channel (R22 to R30). -/
structure AnalogChannel where
  lastRaw : Option RawReading
  /-- good raw readings, newest first (R26) -/
  history : List RawReading
  filtered : Option Nat
  status : SensorStatus
  badScore : Nat
  goodRun : Nat
deriving DecidableEq, Repr

/-- A channel after reset (R40). -/
def AnalogChannel.initial : AnalogChannel := ⟨none, [], none, .unknown, 0, 0⟩

/-- The trip comparators (R36), in the order of R162. -/
inductive ComparatorId where
  | left
  | right
  | lift
  | gallery
deriving DecidableEq, Repr

/-- A trip comparator (R36, R37). -/
structure Comparator where
  tripped : Bool
  count : Nat
deriving DecidableEq, Repr

/-- A comparator after reset (R40). -/
def Comparator.initial : Comparator := ⟨false, 0⟩

/-- The ramp state and the ramp readings (R38, R104). -/
inductive RampState where
  | up
  | down
  | unknown
deriving DecidableEq, Repr

/-- The two contacts and the ramp debounce (R38). -/
structure RampInput where
  noClosed : Bool
  ncClosed : Bool
  candidate : RampState
  /-- when the hold of the candidate began -/
  since : Nat
  debounced : Option RampState
deriving DecidableEq, Repr

/-- The position switch and its debounce (R39); the candidate is the present switch state. -/
structure PositionInput where
  raw : Position
  /-- when the hold of the candidate began -/
  since : Nat
  debounced : Option Position
deriving DecidableEq, Repr

/-- The Sensing Block. -/
structure Sensing where
  channels : Vector AnalogChannel 8
  comparators : Vector Comparator 4
  ramp : RampInput
  position : PositionInput
deriving DecidableEq, Repr

/-- The candidate the two contacts give (R38). -/
def rampCandidate (noClosed ncClosed : Bool) : RampState :=
  match ncClosed, noClosed with
  | true, false => .up
  | false, true => .down
  | _, _ => .unknown

/-- The Sensing Block after a reset at `now`, with the input pins as they stand (R40). -/
def Sensing.initial (now : Nat) (noClosed ncClosed : Bool) (position : Position) : Sensing where
  channels := Vector.replicate 8 AnalogChannel.initial
  comparators := Vector.replicate 4 Comparator.initial
  ramp := ⟨noClosed, ncClosed, rampCandidate noClosed ncClosed, now, none⟩
  position := ⟨position, now, none⟩

/-! ### Circuit Table (chapter 1) -/

/-- The kind of a circuit (R1). -/
inductive CircuitKind where
  | side
  | lift
  | tyre
deriving DecidableEq, Repr

/-- The state of a circuit (R3). -/
inductive CircuitState where
  | absent
  | idle
  | waiting
  | active
  | holdoff
  | stalled
  | isolated
deriving DecidableEq, Repr

/-- The outcome of a transaction (R94), with NONE before the first. -/
inductive TransactionOutcome where
  | noOutcome
  | effective
  | overshoot
  | atLimit
  | noResponse
  | reserveCut
  | strike
  | tripped
  | electrical
  | unjudged
  | aborted
deriving DecidableEq, Repr

/-- A reading of a tyre and the internal time of its READ (R2, R130). -/
structure Probe where
  pressure : Nat
  mark : Nat
deriving DecidableEq, Repr

/-- A circuit record (R2). Its id and kind are its place in the table. -/
structure CircuitRecord where
  state : CircuitState
  measured : Option Nat
  /-- the internal time of the READ that set measured; measured age is the time since -/
  readMark : Option Nat
  target : Option Nat
  frozen : Bool
  probeDue : Bool
  strikes : Nat
  lastOutcome : TransactionOutcome
  /-- the internal time at which holdoff remaining reaches 0 -/
  holdoffEnd : Option Nat
  leakRate : Option Nat
  previousProbe : Option Probe
deriving DecidableEq, Repr

/-- A circuit record after reset, and of an ABSENT circuit (R4, R7). -/
def CircuitRecord.initial : CircuitRecord where
  state := .absent
  measured := none
  readMark := none
  target := none
  frozen := false
  probeDue := false
  strikes := 0
  lastOutcome := .noOutcome
  holdoffEnd := none
  leakRate := none
  previousProbe := none

/-! ### Valve Driver (chapter 1) -/

/-- A valve output (R10, R12). -/
structure Valve where
  isOpen : Bool
  fault : Bool
  /-- when the running electrical check began -/
  check : Option Nat
  /-- the check had run its 20 ms when another valve's FAULTY verdict ended the transaction; its own verdict is
  still to be taken (R12, R100) -/
  verdictLeft : Bool
deriving DecidableEq, Repr

/-- A valve output after reset (R19). -/
def Valve.initial : Valve := ⟨false, false, none, false⟩

/-- The switch state of the isolation valve (R16). -/
inductive SwitchState where
  | ready
  | pulsing
  | checking
  | pending
deriving DecidableEq, Repr

/-- The isolation valve (R16); `commanded` is absent while undetermined. -/
structure IsolationValve where
  commanded : Option Position
  switch : SwitchState
  pulseStart : Option Nat
deriving DecidableEq, Repr

/-- The state of the warning lamp (R20). -/
inductive LampState where
  | off
  | on
  | blink
deriving DecidableEq, Repr

/-- The lamp output (R20). -/
structure Lamp where
  state : LampState
  lit : Bool
  /-- when the running half-period of BLINK ends -/
  nextToggle : Option Nat
deriving DecidableEq, Repr

/-- The Valve Driver. -/
structure Driver where
  valves : Vector Valve 22
  isolation : IsolationValve
  lamp : Lamp
deriving DecidableEq, Repr

/-- The Valve Driver after reset (R16, R19, R20). -/
def Driver.initial : Driver where
  valves := Vector.replicate 22 Valve.initial
  isolation := ⟨none, .ready, none⟩
  lamp := ⟨.off, false, none⟩

/-! ### Load Estimator (chapter 3) -/

/-- The source of the height used (R45). -/
inductive HeightSource where
  | own
  | other
  | target
  | ride
deriving DecidableEq, Repr

/-- The source of a side's loads (R47). -/
inductive LoadSource where
  | noSource
  | live
  | held
deriving DecidableEq, Repr

/-- A side record (R42). -/
structure SideRecord where
  heightUsed : Option Nat
  heightSource : HeightSource
  area : Option Nat
  source : LoadSource
  pressure : Option Nat
  perBellows : Option Nat
  axlesDown : Nat
  sprung : Option Nat
  sideTotal : Option Nat
  perTyre : Option Nat
  base : Option Nat
  overload : Bool
  allowanceApplied : Bool
  target : Option Nat
deriving DecidableEq, Repr

/-- A side record after reset, with the axle count of the running configuration (R43). -/
def SideRecord.initial (axles : Nat) : SideRecord where
  heightUsed := none
  heightSource := .ride
  area := none
  source := .noSource
  pressure := none
  perBellows := none
  axlesDown := axles
  sprung := none
  sideTotal := none
  perTyre := none
  base := none
  overload := false
  allowanceApplied := false
  target := none

/-- The Load Estimator. -/
structure Estimator where
  sides : PerSide SideRecord
  /-- allowance in force (R53) -/
  allowance : Bool
deriving DecidableEq, Repr

/-- The Load Estimator after reset (R43). -/
def Estimator.initial (axles : Nat) : Estimator :=
  ⟨⟨SideRecord.initial axles, SideRecord.initial axles⟩, true⟩

/-! ### Air Scheduler (chapter 4) -/

/-- What a demand asks for (R61); a FILL on a tyre is called INFLATE. -/
inductive Action where
  | fill
  | exhaust
  | probe
  | deflate
deriving DecidableEq, Repr

/-- The urgency of a demand (R61), the most urgent first. -/
inductive DemandClass where
  | safety
  | level
  | lift
  | tyre
deriving DecidableEq, Repr

/-- The number of a class (R61). -/
def DemandClass.number : DemandClass → Nat
  | .safety => 0
  | .level => 1
  | .lift => 2
  | .tyre => 3

/-- Why a demand waits (R72). -/
inductive WaitReason where
  | noReason
  | reserve
  | differential
  | supplyBusy
  | galleryBusy
  | supplyFault
  | galleryFault
deriving DecidableEq, Repr

/-- A demand (R61). -/
structure Demand where
  circuit : CircuitId
  action : Action
  cls : DemandClass
  mark : Nat
  reason : WaitReason
deriving DecidableEq, Repr

/-- The Air Scheduler (R60, R67). -/
structure Scheduler where
  demands : List Demand
  supply : Option CircuitId
  gallery : Option CircuitId
deriving DecidableEq, Repr

/-- The Air Scheduler after reset (R78). -/
def Scheduler.initial : Scheduler := ⟨[], none, none⟩

/-! ### Transaction Engine (chapter 5) -/

/-- The kind of a transaction (R80). -/
inductive TransactionKind where
  | sideFill
  | sideExhaust
  | liftFill
  | liftExhaust
  | probe
  | inflate
  | deflate
deriving DecidableEq, Repr

/-- The direction of a transaction (R80). -/
inductive FlowDirection where
  | up
  | down
  | noFlow
deriving DecidableEq, Repr

/-- The phase of a transaction (R80). -/
inductive Phase where
  | pulse
  | settle
  | vent
  | charge
  | inflate
  | bleed
  | equalize
deriving DecidableEq, Repr

/-- A transaction in flight (R80). -/
structure Transaction where
  circuit : CircuitId
  kind : TransactionKind
  phase : Phase
  /-- the internal time at which phase remaining reaches 0 -/
  phaseEnd : Nat
  pulseTime : Option Nat
  afterTime : Nat
  leadTime : Option Nat
  holdsSupply : Bool
  holdsGallery : Bool
  refHeight : Option Nat
  refPressure : Option Nat
  refMeasured : Option Nat
  /-- reservoir and circuit pressure at the end of the fill pulse (R84) -/
  supplyAtEnd : Option (Nat × Nat)
  readValue : Option Nat
  wheelOpened : Bool
deriving DecidableEq, Repr

/-! ### Height Controller (chapter 6) -/

/-- The height mode (R104). -/
inductive HeightMode where
  | ride
  | dock
  | custom
deriving DecidableEq, Repr

/-- The direction a side needs air in (R114). -/
inductive SideNeed where
  | fill
  | exhaust
deriving DecidableEq, Repr

/-- What the controller holds for one side (R104, R114). -/
structure SideControl where
  adjusting : Bool
  pendingDir : Option SideNeed
  pendingSince : Option Nat
  targetChanged : Bool
  atLimit : Bool
  /-- the moment at which a pending class 1 need will have persisted (R114) -/
  expiry : Option Nat
deriving DecidableEq, Repr

/-- A side after reset (R104). -/
def SideControl.initial : SideControl := ⟨false, none, none, true, false, none⟩

/-- The Height Controller (R104). -/
structure HeightController where
  mode : HeightMode
  customHeight : Nat
  target : Option Nat
  ramp : RampState
  rampRead : Bool
  speed : Option Nat
  speedMark : Option Nat
  sides : PerSide SideControl
deriving DecidableEq, Repr

/-- The Height Controller after reset, with the target R105 forms from RIDE (R104). -/
def HeightController.initial (p : Params) : HeightController where
  mode := .ride
  customHeight := 290
  target := some (clampNat p.p12 p.p13 p.p10)
  ramp := .unknown
  rampRead := false
  speed := none
  speedMark := none
  sides := ⟨SideControl.initial, SideControl.initial⟩

/-! ### Lift Axle Controller (chapter 6) -/

/-- The lift state (R116). -/
inductive LiftState where
  | down
  | raising
  | up
  | lowering
deriving DecidableEq, Repr

/-- The step of a raise or lowering (R116). -/
inductive LiftStep where
  | noStep
  | isolating
  | filling
  | venting
  | connecting
deriving DecidableEq, Repr

/-- The loads of a side as the Load Estimator last handed them on (R116, R121). -/
structure HandedLoads where
  perBellows : Option Nat
  sprung : Option Nat
  axlesDown : Option Nat
  source : LoadSource
deriving DecidableEq, Repr

/-- The Lift Axle Controller (R116). The lowering class is `safety` or `lift`. -/
structure LiftController where
  state : LiftState
  reconciled : Bool
  step : LiftStep
  loweringClass : Option DemandClass
  refilling : Bool
  blindVentDone : Bool
  /-- the lowering was in VENTING when the unit left RUNNING, and stays there until the return (R145) -/
  ventHeld : Bool
  dwellSince : Option Nat
  switchOutstanding : Bool
  loads : PerSide HandedLoads
deriving DecidableEq, Repr

/-- The Lift Axle Controller after reset (R116). -/
def LiftController.initial : LiftController where
  state := .down
  reconciled := false
  step := .noStep
  loweringClass := none
  refilling := false
  blindVentDone := false
  ventHeld := false
  dwellSince := none
  switchOutstanding := false
  loads := ⟨⟨none, none, none, .noSource⟩, ⟨none, none, none, .noSource⟩⟩

/-! ### Tyre Upkeep (chapter 7) -/

/-- Why a tyre is ISOLATED (R133, R135). -/
inductive IsolationCause where
  | leak
  | reserve
  | request
deriving DecidableEq, Repr

/-- What Tyre Upkeep holds for one tyre (R124). -/
structure TyreItems where
  leaking : Bool
  low : Bool
  watch : Bool
  cause : Option IsolationCause
deriving DecidableEq, Repr

/-- The items after reset, and of a tyre that becomes present or ABSENT (R124). -/
def TyreItems.initial : TyreItems := ⟨false, false, false, none⟩

/-! ### Supervisor (chapter 8) -/

/-- The control state (R139). -/
inductive ControlState where
  | starting
  | unconfigured
  | running
  | suspended
deriving DecidableEq, Repr

/-- The reserve state (R139). -/
inductive ReserveState where
  | normal
  | low
  | critical
deriving DecidableEq, Repr

/-- The Supervisor (R139). -/
structure Supervisor where
  control : ControlState
  reasonCab : Bool
  reasonSupply : Bool
  reserve : ReserveState
  reserveJudged : Bool
  /-- the valve supply state is LOW_SUPPLY -/
  lowSupply : Bool
  supplyJudged : Bool
  restoreSince : Option Nat
deriving DecidableEq, Repr

/-- The Supervisor after reset (R139). -/
def Supervisor.initial : Supervisor := ⟨.starting, false, false, .low, false, true, false, none⟩

/-! ### Link Port (chapter 9) -/

/-- The framer state (R150). -/
inductive FramerState where
  | hunt
  | length
  | kind
  | tag
  | body
  | check
deriving DecidableEq, Repr

/-- What a queued telegram is (R157); the reply to CONTROL RESTART is told apart, since the restart takes
effect when it has been sent (R148). -/
inductive TelegramClass where
  | reply
  | restartReply
  | notice
deriving DecidableEq, Repr

/-- A queued telegram: what it is, and its characters from SYNC to CHECK (R162). -/
structure Telegram where
  cls : TelegramClass
  bytes : List Byte
deriving DecidableEq, Repr

/-- The Link Port (R150). -/
structure LinkPort where
  framer : FramerState
  partialTelegram : List Byte
  lastChar : Option Nat
  /-- the Transmit Queue, oldest first -/
  queue : List Telegram
  /-- a place for the reply of the request being handled is secured (R153 step 3) -/
  secured : Bool
  up : Bool
  seen : Bool
  lastValid : Option Nat
  summaryDue : Option Nat
  restartPending : Bool
deriving DecidableEq, Repr

/-- The Link Port after reset (R150). -/
def LinkPort.initial : LinkPort := ⟨.hunt, [], none, [], false, false, false, none, none, false⟩

/-! ### Event Unit (chapter 10) -/

/-- The severities (R164). -/
inductive Severity where
  | advisory
  | degraded
  | critical
  | refused
deriving DecidableEq, Repr

/-- The kinds of event (R164), in the order of their codes (R162). -/
inductive EventKind where
  | circuitStalled
  | circuitResumed
  | tyreIsolated
  | tyreLeak
  | tyreLow
  | tyreOverload
  | sensorFailed
  | sensorRestored
  | overpressureTrip
  | valveFault
  | reserveLow
  | reserveCritical
  | reserveRestored
  | supplyLow
  | supplyRestored
  | modeChanged
  | liftChanged
  | liftUnavailable
  | rampChanged
  | rampAtSpeed
  | rampSense
  | heightLost
  | linkLost
  | linkRestored
  | requestRefused
  | storeWritten
  | storeFailed
  | profileLoaded
  | profileFailed
  | restarted
  | timeRollover
deriving DecidableEq, Repr

/-- An event record (R164). -/
structure EventRecord where
  timeTag : BitVec 32
  kind : EventKind
  severity : Severity
  circuit : Option CircuitId
  value : Option Int
deriving DecidableEq, Repr

/-- A condition's kind with its subject (R167). -/
inductive ConditionId where
  | circuitStalled (circuit : CircuitId)
  | tyreLeak (tyre : TyreId)
  | tyreLow (tyre : TyreId)
  | tyreIsolated (tyre : TyreId)
  | tyreOverload (side : Side)
  | liftUnavailable
  | sensorFailed (channel : Channel)
  | valveFault (valve : ValveId)
  | reserveLow
  | reserveCritical
  | supplyLow
  | linkLost
  | rampSense
  | rampAtSpeed
  | heightLost
deriving DecidableEq, Repr

/-- An entry of the condition set (R167). -/
structure ActiveCondition where
  id : ConditionId
  severity : Severity
deriving DecidableEq, Repr

/-- The Event Unit (R163 to R168). -/
structure EventUnit where
  timeTag : BitVec 32
  /-- when the time tag advances next -/
  nextAdvance : Nat
  /-- the Event Queue, oldest first -/
  queue : List EventRecord
  overrun : Bool
  /-- the detected flags, by severity code as bit number -/
  detected : BitVec 4
  conditions : List ActiveCondition
  /-- when a running lamp test ends -/
  testEnd : Option Nat
deriving DecidableEq, Repr

/-- The Event Unit after a power-on reset at `now` (R163 to R168). -/
def EventUnit.initial (now : Nat) (p : Params) : EventUnit := ⟨0, now + p.p95, [], false, 0, [], none⟩

/-! ### Profile Store, loader and start-up (chapter 11) -/

/-- Which request writes the store. -/
inductive StoreRequest where
  | begin
  | put
  | finish
deriving DecidableEq, Repr

/-- A word of a write in progress and what stood in its place before. -/
structure WordWritten where
  index : Nat
  before : Word
deriving DecidableEq, Repr

/-- A write in progress (R172, R173). -/
structure StoreWrite where
  request : StoreRequest
  start : Nat
  /-- the words of the request in the order they are written, 4 ms each -/
  words : List WordWritten
deriving DecidableEq, Repr

/-- The Profile Store (R172). The session is OPEN while there is a write index. -/
structure ProfileStore where
  image : Vector Word 512
  writeIndex : Option Nat
  busyUntil : Option Nat
  write : Option StoreWrite
deriving DecidableEq, Repr

/-- The boot codes (R174, R175). -/
inductive BootCode where
  | loaded
  | noProfile
  | format
  | check
  | inconsistent
  | aborted
deriving DecidableEq, Repr

/-- A loader run (R174): when it ends, and whether PROFILE_RELOAD started it. -/
structure LoaderRun where
  ends : Nat
  reload : Bool
deriving DecidableEq, Repr

/-- Start-up and the loader (R174 to R176). -/
structure StartUp where
  resetAt : Nat
  loader : Option LoaderRun
  bootCode : Option BootCode
  /-- the load of this start-up has ended -/
  loadEnded : Bool
deriving DecidableEq, Repr

/-- The store after a reset at `now`: idle but for the loader, the image kept (R172, R176). -/
def ProfileStore.initial (now : Nat) (image : Vector Word 512) : ProfileStore :=
  ⟨image, none, some (now + Fixed.loaderRun), none⟩

/-- Start-up begun by a reset at `now` (R176). -/
def StartUp.initial (now : Nat) : StartUp := ⟨now, some ⟨now + Fixed.loaderRun, false⟩, none, false⟩

/-! ### Hand-offs within a command -/

/-- A hand-off between blocks that is taken after the act that makes it (log entry 15). -/
inductive Deferred where
  /-- the Valve Driver refused to open a valve whose fault flag is set (R11) -/
  | openRefused (circuit : CircuitId) (valve : ValveId)
  /-- a switch ended SWITCHED as soon as its pulse started (R16, R17) -/
  | switched
deriving DecidableEq, Repr

end Sys2Proof.Machine
end

