-- ==== Sys2Proof/Machine/Telegrams.lean ====
section
/-! DEFINITION. Telegrams as characters: the check of R152, the frame of R162, and the codes of R162 that
notices and replies share. -/

namespace Sys2Proof.Machine

/-- One bit of the check: polynomial 1021h, most significant bit first (R152). -/
def crcBit (c : Word) : Word := if c.msb then (c <<< 1) ^^^ 0x1021#16 else c <<< 1

/-- One character taken into the check (R152). -/
def crcByte (c : Word) (b : Byte) : Word :=
  crcBit (crcBit (crcBit (crcBit (crcBit (crcBit (crcBit (crcBit
    (c ^^^ (b.setWidth 16 <<< 8)))))))))

/-- CHECK over the characters from LENGTH through the last of BODY, initial value FFFFh (R152). -/
def checkWord (chars : List Byte) : Word := chars.foldl crcByte 0xFFFF#16

/-- SYNC (R162). -/
def syncChar : Byte := 0xC3#8

/-- The characters of a telegram (R162). -/
def frame (kind tag : Byte) (body : List Byte) : List Byte :=
  let inner := byteOf body.length :: kind :: tag :: body
  syncChar :: inner ++ bytes2 (checkWord inner).toNat

/-- A telegram as received: KIND, TAG and BODY. -/
structure Incoming where
  kind : Byte
  tag : Byte
  body : List Byte
deriving DecidableEq, Repr

/-- A complete telegram whose CHECK agrees (R152): its KIND, TAG and BODY. None when the characters are no
complete telegram or the CHECK differs. -/
def validTelegram : List Byte → Option Incoming
  | sync :: len :: kind :: tag :: rest =>
    if sync = syncChar ∧ len.toNat ≤ 48 ∧ rest.length = len.toNat + 2 then
      let body := rest.take len.toNat
      if rest.drop len.toNat = bytes2 (checkWord (len :: kind :: tag :: body)).toNat then
        some ⟨kind, tag, body⟩
      else none
    else none
  | _ => none

/-! ### Codes (R162) -/

/-- Severity codes. -/
def Severity.code : Severity → Nat
  | .advisory => 0
  | .degraded => 1
  | .critical => 2
  | .refused => 3

/-- Event kind codes. -/
def EventKind.code : EventKind → Nat
  | .circuitStalled => 1
  | .circuitResumed => 2
  | .tyreIsolated => 3
  | .tyreLeak => 4
  | .tyreLow => 5
  | .tyreOverload => 6
  | .sensorFailed => 7
  | .sensorRestored => 8
  | .overpressureTrip => 9
  | .valveFault => 10
  | .reserveLow => 11
  | .reserveCritical => 12
  | .reserveRestored => 13
  | .supplyLow => 14
  | .supplyRestored => 15
  | .modeChanged => 16
  | .liftChanged => 17
  | .liftUnavailable => 18
  | .rampChanged => 19
  | .rampAtSpeed => 20
  | .rampSense => 21
  | .heightLost => 22
  | .linkLost => 23
  | .linkRestored => 24
  | .requestRefused => 25
  | .storeWritten => 26
  | .storeFailed => 27
  | .profileLoaded => 28
  | .profileFailed => 29
  | .restarted => 30
  | .timeRollover => 31

/-- Height mode codes (R104). -/
def HeightMode.code : HeightMode → Nat
  | .ride => 0
  | .dock => 1
  | .custom => 2

/-- Ramp state codes (R104). -/
def RampState.code : RampState → Nat
  | .up => 0
  | .down => 1
  | .unknown => 2

/-- Lift state codes (R104). -/
def LiftState.code : LiftState → Nat
  | .down => 0
  | .raising => 1
  | .up => 2
  | .lowering => 3

/-- Control state codes. -/
def ControlState.code : ControlState → Nat
  | .starting => 0
  | .unconfigured => 1
  | .running => 2
  | .suspended => 3

/-- Reserve state codes. -/
def ReserveState.code : ReserveState → Nat
  | .normal => 0
  | .low => 1
  | .critical => 2

/-- Circuit state codes. -/
def CircuitState.code : CircuitState → Nat
  | .absent => 0
  | .idle => 1
  | .waiting => 2
  | .active => 3
  | .holdoff => 4
  | .stalled => 5
  | .isolated => 6

/-- Circuit kind codes. -/
def CircuitKind.code : CircuitKind → Nat
  | .side => 0
  | .lift => 1
  | .tyre => 2

/-- Action codes. -/
def Action.code : Action → Nat
  | .fill => 0
  | .exhaust => 1
  | .probe => 2
  | .deflate => 3

/-- Wait reason codes. -/
def WaitReason.code : WaitReason → Nat
  | .noReason => 0
  | .reserve => 1
  | .differential => 2
  | .supplyBusy => 3
  | .galleryBusy => 4
  | .supplyFault => 5
  | .galleryFault => 6

/-- Outcome codes. -/
def TransactionOutcome.code : TransactionOutcome → Nat
  | .noOutcome => 0
  | .effective => 1
  | .overshoot => 2
  | .atLimit => 3
  | .noResponse => 4
  | .reserveCut => 5
  | .strike => 6
  | .tripped => 7
  | .electrical => 8
  | .unjudged => 9
  | .aborted => 10

/-- Transaction kind codes. -/
def TransactionKind.code : TransactionKind → Nat
  | .sideFill => 0
  | .sideExhaust => 1
  | .liftFill => 2
  | .liftExhaust => 3
  | .probe => 4
  | .inflate => 5
  | .deflate => 6

/-- Direction codes. -/
def FlowDirection.code : FlowDirection → Nat
  | .up => 0
  | .down => 1
  | .noFlow => 2

/-- Phase codes. -/
def Phase.code : Phase → Nat
  | .pulse => 0
  | .settle => 1
  | .vent => 2
  | .charge => 3
  | .inflate => 4
  | .bleed => 5
  | .equalize => 6

/-- Sensor status codes. -/
def SensorStatus.code : SensorStatus → Nat
  | .unknown => 0
  | .valid => 1
  | .failed => 2

/-- Height source codes. -/
def HeightSource.code : HeightSource → Nat
  | .own => 0
  | .other => 1
  | .target => 2
  | .ride => 3

/-- Pressure source codes. -/
def LoadSource.code : LoadSource → Nat
  | .noSource => 0
  | .live => 1
  | .held => 2

/-- Isolation cause codes. -/
def IsolationCause.code : IsolationCause → Nat
  | .leak => 0
  | .reserve => 1
  | .request => 2

/-- Lamp codes. -/
def LampState.code : LampState → Nat
  | .off => 0
  | .on => 1
  | .blink => 2

/-- Boot codes. -/
def BootCode.code : BootCode → Nat
  | .loaded => 0
  | .noProfile => 1
  | .format => 2
  | .check => 3
  | .inconsistent => 4
  | .aborted => 5

/-- The byte of an optional circuit identifier: FFh means none (R162). -/
def circuitByte : Option CircuitId → Byte
  | some c => byteOf c.val
  | none => 0xFF#8

/-- The event block (R162). -/
def eventBlock (r : EventRecord) : List Byte :=
  bytes4 r.timeTag.toNat ++
    [byteOf r.kind.code, byteOf r.severity.code, circuitByte r.circuit, byteOf (bitAt 0 r.value.isSome)] ++
    signed2 (r.value.getD 0)

end Sys2Proof.Machine
end

