-- ==== Sys2Proof/Machine/Operands.lean ====
section
/-! DEFINITION. Requests as the link carries them: the kinds, body lengths and codes of R154, the reasons and
outcomes of the reply head (R162), and the reading of a body into a request (R153 step 4, R154, R161). -/

namespace Sys2Proof.Machine

/-- The reasons of a refusal (R162). -/
inductive Reason where
  | unknownKind
  | badLength
  | badArgument
  | noSuchCircuit
  | starting
  | unconfigured
  | notSuspended
  | interlocked
  | busy
  | stalled
  | load
  | storeBusy
  | storeFull
  | noProfile
  | badConfig
deriving DecidableEq, Repr

/-- Reason codes (R162). -/
def Reason.code : Reason → Nat
  | .unknownKind => 1
  | .badLength => 2
  | .badArgument => 3
  | .noSuchCircuit => 4
  | .starting => 5
  | .unconfigured => 6
  | .notSuspended => 7
  | .interlocked => 8
  | .busy => 9
  | .stalled => 10
  | .load => 11
  | .storeBusy => 12
  | .storeFull => 13
  | .noProfile => 14
  | .badConfig => 15

/-- What the owner of a request answers: an outcome with the kind's data (R153 step 5, R162). -/
inductive Answer where
  | done (data : List Byte)
  | accepted
  | clamped (data : List Byte)
  | refused (reason : Reason)
deriving DecidableEq, Repr

/-- The body of a reply: the reply head and the data (R153, R162). -/
def Answer.body : Answer → List Byte
  | .done data => 0#8 :: 0#8 :: data
  | .accepted => [1#8, 0#8]
  | .clamped data => 2#8 :: 0#8 :: data
  | .refused reason => [3#8, byteOf reason.code]

/-- DONE or CLAMPED with the same data (R170 step 6). -/
def Answer.taken (clamped : Bool) (data : List Byte) : Answer := if clamped then .clamped data else .done data

/-- The LIFT actions (R117, R154). -/
inductive LiftAction where
  | raise
  | lower
  | auto
  | manual
deriving DecidableEq, Repr

/-- The CIRCUIT actions (R154). -/
inductive CircuitAction where
  | resume
  | isolate
  | probe
deriving DecidableEq, Repr

/-- The CONTROL actions (R147, R154). -/
inductive ControlAction where
  | run
  | hold
  | restart
deriving DecidableEq, Repr

/-- A request whose KIND, body length and codes have passed (R154). -/
inductive Request where
  | status
  | readCircuit (id : Byte)
  | readSide (side : Byte)
  | readSensors
  | setMode (mode : Byte) (height : Option Word)
  | stepHeight (step : Byte)
  | lift (action : LiftAction)
  | circuit (action : CircuitAction) (id : Byte)
  | survey
  | speed (kmh : Byte)
  | getParam (number : Nat) (channel : Option Byte)
  | setParam (number : Nat) (value : List Byte)
  | events
  | clear
  | time (value : BitVec 32)
  | control (action : ControlAction)
  | lampTest
  | profileBegin
  | profilePut (head first : Word) (values : List Word)
  | profileEnd
  | profileReload
  | profileRead (index : Word)
deriving DecidableEq, Repr

/-- The request kinds (R154). -/
inductive Kind where
  | status
  | readCircuit
  | readSide
  | readSensors
  | setMode
  | stepHeight
  | lift
  | circuit
  | survey
  | speed
  | getParam
  | setParam
  | events
  | clear
  | time
  | control
  | lampTest
  | profileBegin
  | profilePut
  | profileEnd
  | profileReload
  | profileRead
deriving DecidableEq, Repr

/-- The code of a kind (R154). -/
def Kind.code : Kind → Byte
  | .status => 0x01#8
  | .readCircuit => 0x02#8
  | .readSide => 0x03#8
  | .readSensors => 0x04#8
  | .setMode => 0x10#8
  | .stepHeight => 0x11#8
  | .lift => 0x12#8
  | .circuit => 0x13#8
  | .survey => 0x14#8
  | .speed => 0x15#8
  | .getParam => 0x20#8
  | .setParam => 0x21#8
  | .events => 0x30#8
  | .clear => 0x31#8
  | .time => 0x32#8
  | .control => 0x33#8
  | .lampTest => 0x34#8
  | .profileBegin => 0x40#8
  | .profilePut => 0x41#8
  | .profileEnd => 0x42#8
  | .profileReload => 0x43#8
  | .profileRead => 0x44#8

/-- All kinds, in the order of R154. -/
def allKinds : List Kind :=
  [.status, .readCircuit, .readSide, .readSensors, .setMode, .stepHeight, .lift, .circuit, .survey, .speed,
   .getParam, .setParam, .events, .clear, .time, .control, .lampTest, .profileBegin, .profilePut, .profileEnd,
   .profileReload, .profileRead]

/-- The kind a KIND byte names (R154). -/
def kindOf (b : Byte) : Option Kind := allKinds.find? fun k => k.code == b

/-- The kinds served while STARTING (R155). -/
def Kind.servedStarting : Kind → Bool
  | .status => true
  | .readCircuit => true
  | .readSide => true
  | .readSensors => true
  | .events => true
  | _ => false

/-- The kinds whose refusal with STARTING aborts the load (R155). -/
def Kind.abortsLoad : Kind → Bool
  | .setParam => true
  | .profileBegin => true
  | .profilePut => true
  | .profileEnd => true
  | .profileReload => true
  | .profileRead => true
  | _ => false

/-- The words of a list of bytes, two bytes each (R162). -/
def wordsOf : List Byte → List Word
  | a :: b :: rest => word2 a b :: wordsOf rest
  | _ => []

/-- The bytes of a list of words. -/
def bytesOf (ws : List Word) : List Byte := ws.flatMap fun w => bytes2 w.toNat

/-- The count of a record head: its low 6 bits plus 1 (R154, R162). -/
def headCount (head : Word) : Nat := head.toNat % 64 + 1

/-- The signature of a record head (R162). -/
def headSignature (head : Word) : Nat := head.toNat / 4096

/-- The group of a record head (R162). -/
def headGroup (head : Word) : Nat := head.toNat / 64 % 64

/-- A body of PROFILE_PUT (R154). -/
def readPut : List Byte → Except Reason Request
  | a :: b :: c :: d :: rest =>
    if rest.length = 2 * headCount (word2 a b) then .ok (.profilePut (word2 a b) (word2 c d) (wordsOf rest))
    else .error .badLength
  | _ => .error .badLength

/-- The allowed length of a SET_PARAM value (R161). -/
def valueLengthFits (n len : Nat) : Bool :=
  if n = 51 ∨ n = 52 then len % 3 == 0 && decide (2 ≤ len / 3) && decide (len / 3 ≤ (if n = 51 then 8 else 12))
  else if n = 96 then len == 7
  else len == 2

/-- A body of GET_PARAM (R153, R161). -/
def readGetParam (isParam : Nat → Bool) : List Byte → Except Reason Request
  | [] => .error .badLength
  | n :: rest =>
    if !isParam n.toNat then .error .badArgument
    else match rest with
      | [] => if n.toNat = 96 then .error .badLength else .ok (.getParam n.toNat none)
      | [ch] => if n.toNat = 96 then .ok (.getParam 96 (some ch)) else .error .badLength
      | _ => .error .badLength

/-- A body of SET_PARAM (R153, R161). -/
def readSetParam (isParam : Nat → Bool) : List Byte → Except Reason Request
  | [] => .error .badLength
  | n :: rest =>
    if !isParam n.toNat then .error .badArgument
    else if valueLengthFits n.toNat rest.length then .ok (.setParam n.toNat rest)
    else .error .badLength

/-- A LIFT action code (R154). -/
def liftActionOf (b : Byte) : Option LiftAction :=
  match b.toNat with
  | 0 => some .raise
  | 1 => some .lower
  | 2 => some .auto
  | 3 => some .manual
  | _ => none

/-- A CIRCUIT action code (R154). -/
def circuitActionOf (b : Byte) : Option CircuitAction :=
  match b.toNat with
  | 0 => some .resume
  | 1 => some .isolate
  | 2 => some .probe
  | _ => none

/-- A CONTROL action code (R154). -/
def controlActionOf (b : Byte) : Option ControlAction :=
  match b.toNat with
  | 0 => some .run
  | 1 => some .hold
  | 2 => some .restart
  | _ => none

/-- A code that names a request, or BAD_ARGUMENT (R154). -/
def codeOr (r : Option Request) : Except Reason Request :=
  match r with
  | some x => .ok x
  | none => .error .badArgument

/-- The body of a kind read into a request: the test of its length, then of its codes (R153 step 4, R154). No rule
orders the test of a LIFT action code against the refusal of R117 while P03 is NONE: that the code comes first is
DESIGN CHOICE (log entry 66). -/
def readBody (isParam : Nat → Bool) (k : Kind) (body : List Byte) : Except Reason Request :=
  match k, body with
  | .status, [] => .ok .status
  | .readCircuit, [id] => .ok (.readCircuit id)
  | .readSide, [side] => .ok (.readSide side)
  | .readSensors, [] => .ok .readSensors
  | .setMode, [mode] => .ok (.setMode mode none)
  | .setMode, [mode, hi, lo] => .ok (.setMode mode (some (word2 hi lo)))
  | .stepHeight, [step] => .ok (.stepHeight step)
  | .lift, [a] => codeOr ((liftActionOf a).map .lift)
  | .circuit, [a, id] => codeOr ((circuitActionOf a).map fun x => .circuit x id)
  | .survey, [] => .ok .survey
  | .speed, [v] => .ok (.speed v)
  | .getParam, body => readGetParam isParam body
  | .setParam, body => readSetParam isParam body
  | .events, [] => .ok .events
  | .clear, [] => .ok .clear
  | .time, [a, b, c, d] => .ok (.time (a ++ b ++ c ++ d))
  | .control, [a] => codeOr ((controlActionOf a).map .control)
  | .lampTest, [] => .ok .lampTest
  | .profileBegin, [] => .ok .profileBegin
  | .profilePut, body => readPut body
  | .profileEnd, [] => .ok .profileEnd
  | .profileReload, [] => .ok .profileReload
  | .profileRead, [hi, lo] => .ok (.profileRead (word2 hi lo))
  | _, _ => .error .badLength

end Sys2Proof.Machine
end

