-- ==== Sys2Proof/Config.lean ====
section
/-! DEFINITION. The free values: what the book leaves open and the unit nevertheless produces. Each is a
constant with no body, so that nothing can be proved of the value itself (log entries 13, 14 and 35). -/

namespace Sys2Proof.Config

/-- DESIGN CHOICE (log entry 13, safe): what a lookup in a table whose first values are not strictly
ascending gives. R46 and R51 state a result for ascending tables only, and an INCONSISTENT load
(R174, R175) can leave the other kind in the running configuration. -/
opaque unorderedLookup : List (Nat × Nat) → Nat → Nat

/-- DESIGN CHOICE (log entry 14, safe): the item `index` of the table of group 2 or 3 that no record gave,
when a profile sets more points than the five of the default table (R174). -/
opaque unsetTableItem : (group index : Nat) → Nat

/-- DESIGN CHOICE (log entry 35, safe): a pulse time clamped into bounds of which the lower lies above the
upper. R82 and R83 clamp into [P38, P39] and [P68, P69], and no rule keeps these bounds in order. -/
opaque crossedBounds : (lo hi product : Nat) → Nat

end Sys2Proof.Config
end

