-- ==== Sys2Proof/Machine/State.lean ====
section
/-! DEFINITION. The state of the unit, the reasons a step can stop, and the state right after a power-on
reset. One update per field is defined here; Sys2Proof/Laws/State.lean says what each leaves alone. -/

namespace Sys2Proof.Machine

/-- The reasons a step stops with a fault: none. No rule gives the unit a fault that stops it; a failure is
an event and a condition, and the unit goes on. -/
inductive Fault where
deriving DecidableEq, Repr

/-- The reasons a step is refused. -/
inductive Refusal where
  /-- raised by an arm of `exec` for a command that has no meaning yet (no arm does); safe -/
  | notModelled (mnemonic : String)
deriving DecidableEq, Repr

/-- Everything the unit holds. -/
structure State where
  /-- internal time in ms (00_scope.md "Time") -/
  now : Nat
  /-- the running configuration (R169) -/
  params : Params
  /-- the Sensing Block (chapter 2) -/
  sensing : Sensing
  /-- the Circuit Table (R1, R2) -/
  circuits : Vector CircuitRecord 15
  /-- the Load Estimator (R42) -/
  estimator : Estimator
  /-- the Air Scheduler (R60, R67) -/
  scheduler : Scheduler
  /-- the transactions in flight (R80) -/
  engine : List Transaction
  /-- the Valve Driver (R10, R16, R20) -/
  driver : Driver
  /-- the Height Controller (R104) -/
  height : HeightController
  /-- the Lift Axle Controller (R116) -/
  lift : LiftController
  /-- the items of Tyre Upkeep (R124) -/
  tyres : Vector TyreItems 12
  /-- the Supervisor (R139) -/
  supervisor : Supervisor
  /-- the Link Port (R150) -/
  link : LinkPort
  /-- the Event Unit (chapter 10) -/
  events : EventUnit
  /-- the Profile Store (R172) -/
  store : ProfileStore
  /-- the loader and start-up (R174 to R176) -/
  startUp : StartUp
  /-- hand-offs still to be taken within the running command (log entry 15) -/
  deferred : List Deferred
  /-- the commands that are waiting, first in, first out -/
  pending : List Instr
deriving DecidableEq, Repr

namespace State

/-- Internal time replaced. -/
def setNow (s : State) (x : Nat) : State := { s with now := x }
/-- The running configuration replaced. -/
def setParams (s : State) (x : Params) : State := { s with params := x }
/-- The Sensing Block replaced. -/
def setSensing (s : State) (x : Sensing) : State := { s with sensing := x }
/-- The Circuit Table replaced. -/
def setCircuits (s : State) (x : Vector CircuitRecord 15) : State := { s with circuits := x }
/-- The Load Estimator replaced. -/
def setEstimator (s : State) (x : Estimator) : State := { s with estimator := x }
/-- The Air Scheduler replaced. -/
def setScheduler (s : State) (x : Scheduler) : State := { s with scheduler := x }
/-- The transactions in flight replaced. -/
def setEngine (s : State) (x : List Transaction) : State := { s with engine := x }
/-- The Valve Driver replaced. -/
def setDriver (s : State) (x : Driver) : State := { s with driver := x }
/-- The Height Controller replaced. -/
def setHeight (s : State) (x : HeightController) : State := { s with height := x }
/-- The Lift Axle Controller replaced. -/
def setLift (s : State) (x : LiftController) : State := { s with lift := x }
/-- The items of Tyre Upkeep replaced. -/
def setTyres (s : State) (x : Vector TyreItems 12) : State := { s with tyres := x }
/-- The Supervisor replaced. -/
def setSupervisor (s : State) (x : Supervisor) : State := { s with supervisor := x }
/-- The Link Port replaced. -/
def setLink (s : State) (x : LinkPort) : State := { s with link := x }
/-- The Event Unit replaced. -/
def setEvents (s : State) (x : EventUnit) : State := { s with events := x }
/-- The Profile Store replaced. -/
def setStore (s : State) (x : ProfileStore) : State := { s with store := x }
/-- Start-up replaced. -/
def setStartUp (s : State) (x : StartUp) : State := { s with startUp := x }
/-- The hand-offs replaced. -/
def setDeferred (s : State) (x : List Deferred) : State := { s with deferred := x }
/-- The waiting commands replaced. -/
def setPending (s : State) (x : List Instr) : State := { s with pending := x }

/-- The values after a reset at `now`, with the profile image and the input pins as they stand (R4, R16,
R19, R40, R43, R78, R104, R116, R124, R139, R148, R150, R163 to R169, R172, R176). The waiting commands are
no block's and are left to the caller. -/
def afterReset (now : Nat) (image : Vector Word 512) (noClosed ncClosed : Bool) (position : Position)
    (pending : List Instr) : State where
  now := now
  params := Params.defaults
  sensing := Sensing.initial now noClosed ncClosed position
  circuits := Vector.replicate 15 CircuitRecord.initial
  estimator := Estimator.initial Params.defaults.p01
  scheduler := Scheduler.initial
  engine := []
  driver := Driver.initial
  height := HeightController.initial Params.defaults
  lift := LiftController.initial
  tyres := Vector.replicate 12 TyreItems.initial
  supervisor := Supervisor.initial
  link := LinkPort.initial
  events := EventUnit.initial now Params.defaults
  store := ProfileStore.initial now image
  startUp := StartUp.initial now
  deferred := []
  pending := pending

/-- The machine right after its first power-on reset: both ramp contacts open and the position switch at
CONNECTED (log entry 6), the profile store never written (log entry 7), nothing waiting. -/
def reset : State := afterReset 0 (Vector.replicate 512 0xFFFF#16) false false .connected []

end State

end Sys2Proof.Machine
end

