-- ==== Sys2Proof/Machine/Ops.lean ====
section
/-! DEFINITION. The named operations over the state: the places of circuits, valves and channels, the reads
and writes of one record, and the readings every block takes from another. -/

namespace Sys2Proof.Machine

/-! ### Places -/

/-- The circuit of a side (00_scope.md "Circuit identifiers"). -/
def sideCircuit : Side → CircuitId
  | .left => 0
  | .right => 1

/-- The lift bag circuit. -/
def liftCircuit : CircuitId := 2

/-- The circuit of a tyre. -/
def tyreCircuit (t : TyreId) : CircuitId := ⟨t.val + 3, by omega⟩

/-- The side a circuit identifier names. -/
def circuitSide (c : CircuitId) : Option Side :=
  if c.val = 0 then some .left else if c.val = 1 then some .right else none

/-- The tyre a circuit identifier names. -/
def circuitTyre (c : CircuitId) : Option TyreId :=
  if h : 3 ≤ c.val then some ⟨c.val - 3, by omega⟩ else none

/-- The kind a circuit identifier fixes (R1). -/
def circuitKind (c : CircuitId) : CircuitKind :=
  if c.val ≤ 1 then .side else if c.val = 2 then .lift else .tyre

/-- The other side. -/
def otherSide : Side → Side
  | .left => .right
  | .right => .left

/-- All circuits, in the order of their identifiers. -/
def allCircuits : List CircuitId := [0, 1, 2, 3, 4, 5, 6, 7, 8, 9, 10, 11, 12, 13, 14]

/-- All tyre positions, in order. -/
def allTyres : List TyreId := [0, 1, 2, 3, 4, 5, 6, 7, 8, 9, 10, 11]

/-- All valve outputs, in order. -/
def allValves : List ValveId :=
  [0, 1, 2, 3, 4, 5, 6, 7, 8, 9, 10, 11, 12, 13, 14, 15, 16, 17, 18, 19, 20, 21]

/-- The number of a valve output (R10). -/
def valveNumber (v : ValveId) : Nat := v.val + 1

/-- Valve 1 (R10). -/
def supplyValve : ValveId := 0
/-- Valve 2 (R10). -/
def galleryFillValve : ValveId := 1
/-- Valve 3 (R10). -/
def galleryExhaustValve : ValveId := 2
/-- Valve 4 or 6 (R10). -/
def sideFillValve : Side → ValveId
  | .left => 3
  | .right => 5
/-- Valve 5 or 7 (R10). -/
def sideExhaustValve : Side → ValveId
  | .left => 4
  | .right => 6
/-- Valve 8 (R10). -/
def liftFillValve : ValveId := 7
/-- Valve 9 (R10). -/
def liftExhaustValve : ValveId := 8
/-- Valve 10 (R10). -/
def isolationValve : ValveId := 9
/-- Wheel valve Wn, valve n + 10 (R10). -/
def wheelValve (t : TyreId) : ValveId := ⟨t.val + 10, by omega⟩

/-- The tyre a wheel valve belongs to (R10). -/
def wheelTyre (v : ValveId) : Option TyreId :=
  if h : 10 ≤ v.val then some ⟨v.val - 10, by omega⟩ else none

/-- The circuit a valve belongs to alone: valves 4 to 22 (R10). -/
def valveOwner (v : ValveId) : Option CircuitId :=
  if v.val ≤ 2 then none
  else if v.val ≤ 4 then some 0
  else if v.val ≤ 6 then some 1
  else if v.val ≤ 9 then some 2
  else (wheelTyre v).map tyreCircuit

/-- The valves that belong to a circuit alone (R15). -/
def ownValves (c : CircuitId) : List ValveId := allValves.filter fun v => valveOwner v == some c

/-- The pressure channel of a side (R42). -/
def pressureChannel : Side → Channel
  | .left => 1
  | .right => 2

/-- The height channel of a side (R42). -/
def heightChannel : Side → Channel
  | .left => 5
  | .right => 6

/-- The circuit a channel serves (R34). -/
def channelCircuit (ch : Channel) : Option CircuitId :=
  match ch.val with
  | 1 => some 0
  | 5 => some 0
  | 2 => some 1
  | 6 => some 1
  | 3 => some 2
  | _ => none

/-- The place of a comparator in the Sensing Block. -/
def ComparatorId.place : ComparatorId → Fin 4
  | .left => 0
  | .right => 1
  | .lift => 2
  | .gallery => 3

/-! ### What the configuration includes (R1) -/

/-- The tyre position's number n, Tn. -/
def tyreNumber (t : TyreId) : Nat := t.val + 1

/-- Whether the configuration includes a circuit (R1). -/
def configured (p : Params) (c : CircuitId) : Bool :=
  match circuitTyre c with
  | some t => match p.p02 with
    | .dual => decide (tyreNumber t ≤ p.p01 * 4)
    | .single => decide (tyreNumber t ≤ p.p01 * 2)
  | none => c.val ≤ 1 || p.p03 = .fitted

/-- The axle of a tyre (R1). -/
def tyreAxle (p : Params) (t : TyreId) : Nat :=
  match p.p02 with
  | .dual => (tyreNumber t + 3) / 4
  | .single => (tyreNumber t + 1) / 2

/-- The side of a tyre (R1). -/
def tyreSide (p : Params) (t : TyreId) : Side :=
  match p.p02 with
  | .dual => if t.val % 4 < 2 then .left else .right
  | .single => if t.val % 2 < 1 then .left else .right

/-! ### Reads and writes of one record -/

namespace State

/-- The record of a circuit. -/
def circuit (s : State) (c : CircuitId) : CircuitRecord := s.circuits[c.val]

/-- The record of a circuit replaced. -/
def setCircuit (s : State) (c : CircuitId) (r : CircuitRecord) : State :=
  s.setCircuits (s.circuits.set c.val r)

/-- The items of a tyre. -/
def tyre (s : State) (t : TyreId) : TyreItems := s.tyres[t.val]

/-- The items of a tyre replaced. -/
def setTyre (s : State) (t : TyreId) (x : TyreItems) : State := s.setTyres (s.tyres.set t.val x)

/-- A valve output. -/
def valve (s : State) (v : ValveId) : Valve := s.driver.valves[v.val]

/-- A valve output replaced. -/
def setValve (s : State) (v : ValveId) (x : Valve) : State :=
  s.setDriver { s.driver with valves := s.driver.valves.set v.val x }

/-- An analog channel. -/
def channel (s : State) (ch : Channel) : AnalogChannel := s.sensing.channels[ch.val]

/-- An analog channel replaced. -/
def setChannel (s : State) (ch : Channel) (x : AnalogChannel) : State :=
  s.setSensing { s.sensing with channels := s.sensing.channels.set ch.val x }

/-- A trip comparator. -/
def comparator (s : State) (k : ComparatorId) : Comparator := s.sensing.comparators[k.place.val]

/-- A trip comparator replaced. -/
def setComparator (s : State) (k : ComparatorId) (x : Comparator) : State :=
  s.setSensing { s.sensing with comparators := s.sensing.comparators.set k.place.val x }

/-- A side record of the Load Estimator. -/
def sideRecord (s : State) (side : Side) : SideRecord := s.estimator.sides.get side

/-- A side record replaced. -/
def setSideRecord (s : State) (side : Side) (r : SideRecord) : State :=
  s.setEstimator { s.estimator with sides := s.estimator.sides.set side r }

/-- What the Height Controller holds for a side. -/
def sideControl (s : State) (side : Side) : SideControl := s.height.sides.get side

/-- What the Height Controller holds for a side, replaced. -/
def setSideControl (s : State) (side : Side) (x : SideControl) : State :=
  s.setHeight { s.height with sides := s.height.sides.set side x }

/-- A hand-off made, to be taken after the running act. -/
def defer (s : State) (d : Deferred) : State := s.setDeferred (s.deferred ++ [d])

/-! ### Readings taken from other blocks -/

/-- A channel is VALID. -/
def isValid (s : State) (ch : Channel) : Bool := (s.channel ch).status = .valid

/-- The filtered value of a channel that is VALID. -/
def validValue (s : State) (ch : Channel) : Option Nat :=
  if s.isValid ch then (s.channel ch).filtered else none

/-- A pressure as R71 takes it: the filtered value a channel reports, 0 when none has been computed. -/
def reportedValue (s : State) (ch : Channel) : Nat := ((s.channel ch).filtered).getD 0

/-- The unit is RUNNING. -/
def isRunning (s : State) : Bool := s.supervisor.control = .running

/-- A circuit is present (R3). -/
def isPresent (s : State) (c : CircuitId) : Bool := (s.circuit c).state ≠ .absent

/-- The lift axle is configured (P03). -/
def liftFitted (s : State) : Bool := s.params.p03 = .fitted

/-- The debounced isolation position. -/
def position (s : State) : Option Position := s.sensing.position.debounced

/-- The height by which the Height Controller evaluates a side (R112). -/
def evaluationHeight (s : State) (side : Side) : Option Nat :=
  match s.validValue (heightChannel side) with
  | some h => some h
  | none => s.validValue (heightChannel (otherSide side))

/-- The transaction in flight on a circuit (R80). -/
def transactionOn (s : State) (c : CircuitId) : Option Transaction :=
  s.engine.find? fun t => t.circuit == c

/-- The record of the transaction on a circuit replaced. -/
def setTransaction (s : State) (t : Transaction) : State :=
  s.setEngine (s.engine.map fun u => if u.circuit = t.circuit then t else u)

/-- The time since a mark. -/
def since (s : State) (mark : Nat) : Nat := s.now - mark

/-- A moment has been reached. -/
def reached (s : State) (moment : Option Nat) : Bool :=
  match moment with
  | some m => decide (m ≤ s.now)
  | none => false

end State

end Sys2Proof.Machine
end

