-- ==== Sys2Proof/Machine/Flags.lean ====
section
/-! DEFINITION. The Event Unit: events with their detected flags, captures and notices (R158, R164 to R166),
the condition set (R167) and the lamp derived from it (R168, R20). -/

namespace Sys2Proof.Machine

/-- Whether a severity's bit is set in P93, P94 or the detected flags (R161, R162). -/
def hasSeverity (flags : BitVec 4) (sev : Severity) : Bool := flags.getLsbD sev.code

/-- The flags with a severity's bit set (R166). -/
def addSeverity (flags : BitVec 4) (sev : Severity) : BitVec 4 := flags ||| (1#4 <<< sev.code)

/-- The severity of VALVE_FAULT (R13). -/
def valveSeverity (v : ValveId) : Severity := if v = supplyValve then .critical else .degraded

/-- The severity of CIRCUIT_STALLED (R8). -/
def stallSeverity (c : CircuitId) : Severity := if c.val ≤ 1 then .critical else .degraded

/-- The severity of SENSOR_FAILED (R34). -/
def sensorSeverity (ch : Channel) : Severity := if ch.val = 0 ∨ ch.val = 7 then .critical else .degraded

/-- Whether a condition's subject or carried circuit is a circuit (R167). -/
def ConditionId.concerns (c : CircuitId) : ConditionId → Bool
  | .circuitStalled d => d = c
  | .tyreLeak t => tyreCircuit t = c
  | .tyreLow t => tyreCircuit t = c
  | .tyreIsolated t => tyreCircuit t = c
  | .tyreOverload side => sideCircuit side = c
  | .liftUnavailable => c = liftCircuit
  | .sensorFailed ch => channelCircuit ch = some c
  | _ => false

/-- The lamp state the condition set gives (R168). -/
def derivedLamp (conds : List ActiveCondition) : LampState :=
  if conds.any fun a => a.severity == .critical then .blink
  else if conds.any fun a => a.severity == .degraded then .on
  else .off

/-- A record captured into the Event Queue (R165). -/
def capture (r : EventRecord) (e : EventUnit) : EventUnit :=
  if e.queue.length < Fixed.eventPlaces then { e with queue := e.queue ++ [r] }
  else { e with queue := e.queue.drop (e.queue.length + 1 - Fixed.eventPlaces) ++ [r], overrun := true }

/-- A condition entered into the set, or its severity raised (R167). -/
def insertCondition (id : ConditionId) (sev : Severity) (conds : List ActiveCondition) : List ActiveCondition :=
  if conds.any fun a => a.id = id then
    conds.map fun a => if a.id = id ∧ a.severity.code < sev.code then { a with severity := sev } else a
  else conds ++ [⟨id, sev⟩]

namespace State

/-- At least 2 places of the Transmit Queue are free, a secured place not counted as free (R157, R158), and
the link is UP. -/
def noticeFits (s : State) : Bool :=
  s.link.up && decide (s.link.queue.length + (bitAt 0 s.link.secured) + 2 ≤ Fixed.transmitPlaces)

/-- A notice offered to the Link Port (R157, R158): queued at the tail, or declined. -/
def offerNotice (s : State) (kind : Byte) (body : List Byte) : State :=
  if s.noticeFits then
    s.setLink { s.link with queue := s.link.queue ++ [⟨.notice, frame kind 0#8 body⟩] }
  else s

/-- An event taken by the Event Unit: detected flag, capture, notice (R164). -/
def logEvent (s : State) (kind : EventKind) (sev : Severity) (circuit : Option CircuitId) (value : Option Int) :
    State :=
  let r : EventRecord := ⟨s.events.timeTag, kind, sev, circuit, value.map (clampInt (-32768) 32767)⟩
  let e := { s.events with detected := addSeverity s.events.detected sev }
  let s := s.setEvents (if hasSeverity s.params.p93 sev then capture r e else e)
  if hasSeverity s.params.p94 sev then s.offerNotice 0x50#8 (eventBlock r) else s

/-- A state handed to the lamp output (R20). A state already handed over is not handed over again. -/
def driveLamp (s : State) (new : LampState) : State :=
  if s.driver.lamp.state = new then s
  else
    s.setDriver { s.driver with
      lamp := match new with
        | .off => ⟨.off, false, none⟩
        | .on => ⟨.on, true, none⟩
        | .blink => ⟨.blink, true, some (s.now + Fixed.blinkHalf)⟩ }

/-- The lamp derived afresh: ON during a test, else from the condition set (R168). -/
def deriveLamp (s : State) : State :=
  s.driveLamp (if s.events.testEnd.isSome then .on else derivedLamp s.events.conditions)

/-- The condition set replaced, and the lamp derived afresh (R168). -/
def setConditions (s : State) (conds : List ActiveCondition) : State :=
  (s.setEvents { s.events with conditions := conds }).deriveLamp

/-- A condition is active. -/
def isActive (s : State) (id : ConditionId) : Bool := s.events.conditions.any fun a => a.id = id

/-- A condition is active with at least a severity. -/
def isActiveAt (s : State) (id : ConditionId) (sev : Severity) : Bool :=
  s.events.conditions.any fun a => a.id = id && sev.code ≤ a.severity.code

/-- A condition raised (R167). -/
def raise (s : State) (id : ConditionId) (sev : Severity) : State :=
  s.setConditions (insertCondition id sev s.events.conditions)

/-- A condition cleared (R167). -/
def clear (s : State) (id : ConditionId) : State :=
  s.setConditions (s.events.conditions.filter fun a => a.id ≠ id)

/-- Every condition of a circuit cleared (R167, R7). -/
def clearCircuit (s : State) (c : CircuitId) : State :=
  s.setConditions (s.events.conditions.filter fun a => !a.id.concerns c)

end State

end Sys2Proof.Machine
end

