-- ==== Sys2Proof/Machine/Valves.lean ====
section
/-! DEFINITION. The Valve Driver: open and close requests (R11, R12), fault flags (R13, R15), the isolation
valve's switches (R16 to R18). -/

namespace Sys2Proof.Machine

/-- The supply valve is open in this phase: CHARGE, INFLATE, and the PULSE of a side or lift fill (R11). -/
def Transaction.inFillPulse (t : Transaction) : Bool :=
  match t.phase with
  | .charge => true
  | .inflate => true
  | .pulse => t.kind = .sideFill || t.kind = .liftFill
  | _ => false

namespace State

/-- No wheel valve other than `v` is open (R11). -/
def otherWheelsClosed (s : State) (v : ValveId) : Bool :=
  allTyres.all fun t => wheelValve t = v || !(s.valve (wheelValve t)).isOpen

/-- The conditions of R11 on an open request made for the transaction on `c`, and R12's bar on energising
while the valve supply state is LOW_SUPPLY. -/
def mayOpen (s : State) (c : CircuitId) (v : ValveId) : Bool :=
  match s.transactionOn c with
  | none => false
  | some t =>
    !s.supervisor.lowSupply &&
      if v = supplyValve then s.scheduler.supply == some c && t.inFillPulse
      else if v = galleryFillValve ∨ v = galleryExhaustValve then s.scheduler.gallery == some c
      else if (wheelTyre v).isSome then
        valveOwner v == some c && s.scheduler.gallery == some c && s.otherWheelsClosed v
      else v ≠ isolationValve && valveOwner v == some c

/-- An open request for the transaction on `c` (R11). A valve whose fault flag is set is not opened and the
transaction is told; a valve already open stays so without a new check; otherwise the valve is energised
and its check begins (R12). -/
def requestOpen (s : State) (c : CircuitId) (v : ValveId) : State :=
  if s.mayOpen c v then
    if (s.valve v).fault then s.defer (.openRefused c v)
    else if (s.valve v).isOpen then s
    else s.setValve v { s.valve v with isOpen := true, check := some s.now }
  else s

/-- A close request: an OPEN valve is de-energised, a check still running is abandoned (R11, R12). -/
def closeValve (s : State) (v : ValveId) : State :=
  if (s.valve v).isOpen then s.setValve v { s.valve v with isOpen := false, check := none } else s

/-- The electrical check of a valve has come to its end, and its verdict is to be taken (R12). -/
def checkDue (s : State) (v : ValveId) : Bool :=
  (s.valve v).verdictLeft || s.reached ((s.valve v).check.map (· + Fixed.electricalCheck))

/-- A valve closed by the end of a transaction that another valve's FAULTY verdict has ended: a check that has run
its 20 ms keeps its verdict to be taken, any other is abandoned (R12, R100). -/
def closeAtVerdict (s : State) (v : ValveId) : State :=
  if (s.valve v).isOpen then
    s.setValve v { s.valve v with isOpen := false, check := none, verdictLeft := s.checkDue v }
  else s

/-- The verdict of a check is taken (R12). -/
def endCheck (s : State) (v : ValveId) : State :=
  if (s.valve v).verdictLeft then s.setValve v { s.valve v with verdictLeft := false }
  else s.setValve v { s.valve v with check := none }

/-- The valves of a list opened in turn for the transaction on `c`. -/
def requestOpenAll (s : State) (c : CircuitId) (vs : List ValveId) : State :=
  vs.foldl (fun s v => s.requestOpen c v) s

/-- The valves of a list closed in turn. -/
def closeAll (s : State) (vs : List ValveId) : State := vs.foldl closeValve s

/-- A fault flag set, with its event and its condition, unless it was set already (R13 step 2). -/
def setFault (s : State) (v : ValveId) : State :=
  if (s.valve v).fault then s
  else
    ((s.setValve v { s.valve v with fault := true }).logEvent .valveFault (valveSeverity v) (valveOwner v)
      (some (valveNumber v))).raise (.valveFault v) (valveSeverity v)

/-- A fault flag cleared, and its condition with it (R15). -/
def clearFault (s : State) (v : ValveId) : State :=
  if (s.valve v).fault then
    (s.setValve v { s.valve v with fault := false }).clear (.valveFault v)
  else s

/-- The fault flags of a list of valves cleared. -/
def clearFaults (s : State) (vs : List ValveId) : State := vs.foldl clearFault s

/-! ### The isolation valve -/

/-- The isolation valve's items replaced. -/
def setIsolation (s : State) (x : IsolationValve) : State := s.setDriver { s.driver with isolation := x }

/-- The electrical check of a valve abandoned without a verdict (R12). -/
def abandonCheck (s : State) (v : ValveId) : State := s.setValve v { s.valve v with check := none }

/-- A switch ended: READY, the pulse ended if it was still running (R17). A check of the coil still within its 20 ms is
abandoned without a verdict; R12 does not name SWITCHED, and that it ends the check too is DESIGN CHOICE (log entry
63). -/
def endSwitch (s : State) : State :=
  (s.setIsolation { s.driver.isolation with switch := .ready, pulseStart := none }).abandonCheck isolationValve

/-- A pulse started toward a position (R16). A debounced position that already reads it ends the switch
SWITCHED as soon as the watch begins (R16, R17), and its coil gets no verdict (log entry 63). -/
def startPulse (s : State) (pos : Position) : State :=
  let s := (s.setIsolation ⟨some pos, .pulsing, some s.now⟩).setValve isolationValve
    { s.valve isolationValve with check := some s.now }
  if s.position = some pos then s.endSwitch.defer .switched else s

/-- A switch begun as from READY; held PENDING while the valve supply state is LOW_SUPPLY (R16, R18). -/
def beginSwitch (s : State) (pos : Position) : State :=
  if s.supervisor.lowSupply then s.setIsolation ⟨some pos, .pending, none⟩ else s.startPulse pos

/-- A switch request (R16, R17, R18). -/
def requestSwitch (s : State) (pos : Position) : State :=
  match s.driver.isolation.switch with
  | .ready => s.beginSwitch pos
  | .pending => s.setIsolation { s.driver.isolation with commanded := some pos }
  | .pulsing =>
    if s.driver.isolation.commanded = some pos then s else (s.abandonCheck isolationValve).beginSwitch pos
  | .checking =>
    if s.driver.isolation.commanded = some pos then s else (s.abandonCheck isolationValve).beginSwitch pos

/-- The valve supply state becomes LOW_SUPPLY: a pulse in progress becomes PENDING (R18). -/
def holdPulse (s : State) : State :=
  match s.driver.isolation.switch with
  | .pulsing =>
    (s.setIsolation { s.driver.isolation with switch := .pending, pulseStart := none }).abandonCheck isolationValve
  | _ => s

/-- The valve supply state leaves LOW_SUPPLY: a PENDING switch starts its pulse (R18). -/
def resumePulse (s : State) : State :=
  match s.driver.isolation.switch, s.driver.isolation.commanded with
  | .pending, some pos => s.startPulse pos
  | _, _ => s

end State

end Sys2Proof.Machine
end

