-- ==== Sys2Proof/Machine/Transactions.lean ====
section
/-! DEFINITION. The start of a transaction: its kind, its phase times (stage I, R82, R83), its references and
the valves of each phase (R80, R81, R84 to R88). -/

namespace Sys2Proof.Machine

/-- The kind of transaction an action at grant starts on a circuit (R80). -/
def kindFor (c : CircuitId) (a : Action) : TransactionKind :=
  match circuitKind c with
  | .side => if a = .fill then .sideFill else .sideExhaust
  | .lift => if a = .fill then .liftFill else .liftExhaust
  | .tyre => match a with
    | .fill => .inflate
    | .probe => .probe
    | _ => .deflate

/-- The direction of a kind (R80). -/
def TransactionKind.direction : TransactionKind → FlowDirection
  | .sideFill => .up
  | .liftFill => .up
  | .inflate => .up
  | .sideExhaust => .down
  | .liftExhaust => .down
  | .deflate => .down
  | .probe => .noFlow

/-- The kinds that hold SUPPLY (R67). -/
def TransactionKind.needsSupply : TransactionKind → Bool
  | .sideFill => true
  | .liftFill => true
  | .inflate => true
  | _ => false

/-- The kinds that hold GALLERY (R67). -/
def TransactionKind.needsGallery : TransactionKind → Bool
  | .probe => true
  | .inflate => true
  | .deflate => true
  | _ => false

/-- The first phase of a kind (R84 to R88). -/
def TransactionKind.firstPhase : TransactionKind → Phase
  | .probe => .vent
  | .inflate => .charge
  | .deflate => .bleed
  | _ => .pulse

/-- The fill valve of a side or lift circuit, or the wheel valve of a tyre. -/
def inletValve (c : CircuitId) : ValveId :=
  match circuitSide c, circuitTyre c with
  | some side, _ => sideFillValve side
  | none, some t => wheelValve t
  | none, none => liftFillValve

/-- The exhaust valve of a side or lift circuit, or the wheel valve of a tyre. -/
def outletValve (c : CircuitId) : ValveId :=
  match circuitSide c, circuitTyre c with
  | some side, _ => sideExhaustValve side
  | none, some t => wheelValve t
  | none, none => liftExhaustValve

/-- The valves a transaction holds open in a phase (R84 to R88). That valves asked for together are asked for in this
order is DESIGN CHOICE (log entry 29). -/
def phaseValves (c : CircuitId) (k : TransactionKind) (ph : Phase) : List ValveId :=
  match ph with
  | .pulse => if k.needsSupply then [supplyValve, inletValve c] else [outletValve c]
  | .settle => []
  | .vent => [galleryExhaustValve]
  | .charge => [supplyValve, galleryFillValve]
  | .inflate => [supplyValve, galleryFillValve, inletValve c]
  | .bleed => [inletValve c, galleryExhaustValve]
  | .equalize => [inletValve c]

/-- The pressure channel by which a circuit is judged: the side's own, the lift bag, or the gallery (R71). -/
def circuitPressureChannel (c : CircuitId) : Channel :=
  match c.val with
  | 0 => 1
  | 1 => 2
  | 2 => 3
  | _ => 4

/-- A pulse time clamped into its bounds (R82, R83); a free value while the bounds are crossed. -/
def clampPulse (lo hi x : Nat) : Nat := if lo ≤ hi then clampNat lo hi x else Config.crossedBounds lo hi x

namespace State

/-- The error of a side at grant: target less evaluation height; none when either is lacking (R82). -/
def sideError (s : State) (side : Side) : Option Nat :=
  match (s.circuit (sideCircuit side)).target, s.evaluationHeight side with
  | some t, some h => some (absDiff t h)
  | _, _ => none

/-- The pulse time of a side transaction (R82). -/
def sidePulse (s : State) (side : Side) (k : TransactionKind) : Nat :=
  match s.sideError side with
  | some e => clampPulse s.params.p38 s.params.p39 (e * (if k = .sideFill then s.params.p36 else s.params.p37))
  | none => s.params.p38

/-- The pulse time of an INFLATE or DEFLATE (R83). -/
def tyrePulse (s : State) (c : CircuitId) : Nat :=
  match (s.circuit c).target, (s.circuit c).measured with
  | some t, some m => clampPulse s.params.p68 s.params.p69 (absDiff t m * s.params.p67)
  | _, _ => s.params.p68

/-- The pulse time fixed at grant; a PROBE has none (R82, R83). -/
def pulseTimeFor (s : State) (c : CircuitId) (k : TransactionKind) : Option Nat :=
  match k with
  | .sideFill => some (s.sidePulse ((circuitSide c).getD .left) k)
  | .sideExhaust => some (s.sidePulse ((circuitSide c).getD .left) k)
  | .liftFill => some s.params.p85
  | .liftExhaust => some s.params.p85
  | .inflate => some (s.tyrePulse c)
  | .deflate => some (s.tyrePulse c)
  | .probe => none

/-- The duration of SETTLE or EQUALIZE fixed at grant (R82, R83). -/
def afterTimeFor (s : State) (k : TransactionKind) : Nat :=
  match k with
  | .sideFill => if s.height.mode = .ride then s.params.p40 else s.params.p41
  | .sideExhaust => if s.height.mode = .ride then s.params.p40 else s.params.p41
  | .liftFill => Fixed.liftSettle
  | .liftExhaust => Fixed.liftSettle
  | _ => s.params.p72

/-- The duration of VENT or CHARGE fixed at grant (R83). -/
def leadTimeFor (s : State) (k : TransactionKind) : Option Nat :=
  match k with
  | .probe => some s.params.p71
  | .inflate => some s.params.p70
  | _ => none

/-- The record of a transaction at its grant (R80, R81). -/
def newTransaction (s : State) (c : CircuitId) (k : TransactionKind) : Transaction where
  circuit := c
  kind := k
  phase := k.firstPhase
  phaseEnd := s.now + (match s.leadTimeFor k with
    | some lead => lead
    | none => (s.pulseTimeFor c k).getD 0)
  pulseTime := s.pulseTimeFor c k
  afterTime := s.afterTimeFor k
  leadTime := s.leadTimeFor k
  holdsSupply := k.needsSupply
  holdsGallery := k.needsGallery
  refHeight := (circuitSide c).bind fun side => s.validValue (heightChannel side)
  refPressure := if circuitKind c = .tyre then none else s.validValue (circuitPressureChannel c)
  refMeasured := if circuitKind c = .tyre then (s.circuit c).measured else none
  supplyAtEnd := none
  readValue := none
  wheelOpened := decide (k = .deflate)

/-- A transaction started: it takes a slot and makes the open requests of its first phase (R81, R84 to R88).
A DEFLATE asks for its wheel valve at once (R88). -/
def startTransaction (s : State) (c : CircuitId) (k : TransactionKind) : State :=
  (s.setEngine (s.engine ++ [s.newTransaction c k])).requestOpenAll c (phaseValves c k k.firstPhase)

end State

end Sys2Proof.Machine
end

