-- ==== Sys2Proof/Machine/Scheduler.lean ====
section
/-! DEFINITION. The Air Scheduler: the Demand List (R60 to R66), the resources (R67, R68), the conditions of
service (R69 to R72) and the serving pass (R73 to R75). -/

namespace Sys2Proof.Machine

/-- The actions allowed for each kind of circuit (R61). -/
def actionAllowed (c : CircuitId) (a : Action) : Bool :=
  match circuitKind c with
  | .tyre => a = .fill || a = .probe || a = .deflate
  | _ => a = .fill || a = .exhaust

/-- A demand is set before another: its class is more urgent, or the same and its mark earlier (R62). -/
def Demand.before (d e : Demand) : Bool :=
  decide (d.cls.number < e.cls.number) || (d.cls = e.cls && decide (d.mark < e.mark))

/-- A demand takes its place: after every demand of a more urgent class and every demand of its class whose
mark is earlier than or equal to its own, before all the others (R62). -/
def placeDemand (d : Demand) : List Demand → List Demand
  | [] => [d]
  | e :: rest => if d.before e then d :: e :: rest else e :: placeDemand d rest

namespace State

/-- The Demand List replaced. -/
def setDemands (s : State) (ds : List Demand) : State := s.setScheduler { s.scheduler with demands := ds }

/-- The demand of a circuit (R60). -/
def demandOf (s : State) (c : CircuitId) : Option Demand := s.scheduler.demands.find? fun d => d.circuit == c

/-- The demand of a circuit removed (R62). -/
def removeDemand (s : State) (c : CircuitId) : State :=
  s.setDemands (s.scheduler.demands.filter fun d => d.circuit ≠ c)

/-- The state of a circuit replaced. -/
def setCircuitState (s : State) (c : CircuitId) (st : CircuitState) : State :=
  s.setCircuit c { s.circuit c with state := st }

/-- The action at grant of a demand (R69). -/
def actionAtGrant (s : State) (d : Demand) : Action :=
  if circuitKind d.circuit = .tyre ∧ (s.circuit d.circuit).probeDue then .probe else d.action

/-- Why a fill with a circuit pressure cannot draw on the reservoir (R70, R71, R72), the resource's holder
apart: RESERVE, then DIFFERENTIAL. -/
def reservoirReason (s : State) (circuitPressure : Nat) : Option WaitReason :=
  match s.validValue 0 with
  | none => some .reserve
  | some r =>
    if s.supervisor.reserve ≠ .normal ∨ r < s.params.p30 + s.params.p31 then some .reserve
    else if r < circuitPressure + s.params.p33 then some .differential
    else none

/-- A fault flag of the gallery valves is set (R67). -/
def galleryFaulty (s : State) : Bool := (s.valve galleryFillValve).fault || (s.valve galleryExhaustValve).fault

/-- The first reason a demand cannot be served, in the order of R72; none when it can (R70). -/
def whyNot (s : State) (d : Demand) : Option WaitReason :=
  let k := kindFor d.circuit (s.actionAtGrant d)
  if k.needsSupply ∧ (s.valve supplyValve).fault then some .supplyFault
  else if k.needsGallery ∧ s.galleryFaulty then some .galleryFault
  else
    match (if k.needsSupply then s.reservoirReason (s.reportedValue (circuitPressureChannel d.circuit)) else none) with
    | some r => some r
    | none =>
      if k.needsSupply ∧ s.scheduler.supply.isSome then some .supplyBusy
      else if k.needsGallery ∧ s.scheduler.gallery.isSome then some .galleryBusy
      else none

/-- A demand granted, as one act (R74): it leaves the list, its circuit becomes ACTIVE, its transaction is
given its resources and started. -/
def grant (s : State) (d : Demand) : State :=
  let k := kindFor d.circuit (s.actionAtGrant d)
  let s := (s.removeDemand d.circuit).setCircuitState d.circuit .active
  let s := s.setScheduler { s.scheduler with
    supply := if k.needsSupply then some d.circuit else s.scheduler.supply
    gallery := if k.needsGallery then some d.circuit else s.scheduler.gallery }
  s.startTransaction d.circuit k

/-- The wait reason of a circuit's demand replaced (R72). -/
def setReason (s : State) (c : CircuitId) (r : WaitReason) : State :=
  s.setDemands (s.scheduler.demands.map fun d => if d.circuit = c then { d with reason := r } else d)

/-- One demand examined in a pass (R73). A demand that could be served while no slot of the engine is free
stays as it is (R80; log entry 24). -/
def examine (s : State) (d : Demand) : State :=
  match s.whyNot d with
  | some r => s.setReason d.circuit r
  | none => if s.engine.length < Fixed.slots then s.grant d else s

/-- A serving pass: while RUNNING, one walk of the list from head to tail (R73). -/
def pass (s : State) : State :=
  if s.isRunning then s.scheduler.demands.foldl examine s else s

/-- A new demand joins with the present time as its mark, its circuit becomes WAITING, and a pass runs
(R63). -/
def joinFresh (s : State) (c : CircuitId) (a : Action) (cls : DemandClass) : State :=
  ((s.setDemands (placeDemand ⟨c, a, cls, s.now, .noReason⟩ s.scheduler.demands)).setCircuitState c .waiting).pass

/-- A demand takes a more urgent class and a new place, keeping its mark and its wait reason (R64, R66). -/
def raiseDemand (s : State) (d : Demand) (cls : DemandClass) : State :=
  let s := s.removeDemand d.circuit
  s.setDemands (placeDemand { d with cls := cls } s.scheduler.demands)

/-- A join request (R63, R64). -/
def join (s : State) (c : CircuitId) (a : Action) (cls : DemandClass) : State :=
  if actionAllowed c a ∧ s.isRunning then
    match (s.circuit c).state, s.demandOf c with
    | .idle, _ => s.joinFresh c a cls
    | .waiting, some d =>
      if d.action = a then
        if cls.number < d.cls.number then s.raiseDemand d cls else s
      else (s.removeDemand c).joinFresh c a cls
    | _, _ => s
  else s

/-- A withdrawal (R65). -/
def withdraw (s : State) (c : CircuitId) : State :=
  if (s.circuit c).state = .waiting then (s.removeDemand c).setCircuitState c .idle else s

/-- A class 3 demand whose age exceeds P75 is to be promoted (R66). -/
def promotable (s : State) (d : Demand) : Bool :=
  d.cls = .tyre && decide (s.params.p75 * 1000 < s.since d.mark)

/-- A demand promoted to class 1 when its age has passed P75 (R66). -/
def promote (s : State) (c : CircuitId) : State :=
  match s.demandOf c with
  | some d => if s.promotable d then s.raiseDemand d .level else s
  | none => s

/-- The list holds a demand whose action at grant is a fill (R75). -/
def fillWaits (s : State) : Bool :=
  s.scheduler.demands.any fun d => (kindFor d.circuit (s.actionAtGrant d)).needsSupply

/-- The resources a transaction holds are released in one release (R68): a resource whose holder it is has
no holder afterwards. The pass the release runs is its own event. -/
def freeResources (s : State) (c : CircuitId) (supply gallery : Bool) : State :=
  s.setScheduler { s.scheduler with
    supply := if supply ∧ s.scheduler.supply = some c then none else s.scheduler.supply
    gallery := if gallery ∧ s.scheduler.gallery = some c then none else s.scheduler.gallery }

/-- A release by the holder of a resource (R68): is there one to make. -/
def holdsResource (s : State) (c : CircuitId) (supply gallery : Bool) : Bool :=
  (supply && s.scheduler.supply == some c) || (gallery && s.scheduler.gallery == some c)

end State

end Sys2Proof.Machine
end

