-- ==== Sys2Proof/Machine/HeightEval.lean ====
section
/-! DEFINITION. The evaluation of a side by the Height Controller (R112 to R114). -/

namespace Sys2Proof.Machine

/-- What the table of R113 asks for: nothing, a class 0 demand at once, a class 1 demand when persisted. -/
inductive SideResult where
  | nothing
  | safety (need : SideNeed)
  | level (need : SideNeed)
deriving DecidableEq, Repr

/-- The direction a result asks for. -/
def SideResult.need : SideResult → Option SideNeed
  | .nothing => none
  | .safety n => some n
  | .level n => some n

/-- The action of a need (R113). -/
def SideNeed.action : SideNeed → Action
  | .fill => .fill
  | .exhaust => .exhaust

namespace State

/-- The deadband of the height mode (R90, R113). -/
def deadband (s : State) : Nat := if s.height.mode = .ride then s.params.p15 else s.params.p16

/-- The band of a side: the deadband, or half of it rounded while the side is adjusting (R113). -/
def band (s : State) (side : Side) : Nat :=
  if (s.sideControl side).adjusting then roundDiv s.deadband 2 else s.deadband

/-- The first row of R113 that holds. -/
def sideResult (s : State) (side : Side) : SideResult :=
  match s.evaluationHeight side, s.height.target with
  | some h, some t =>
    let atLimit := (s.sideControl side).atLimit
    if h < s.params.p14 then .safety .fill
    else if s.params.p13 < h ∧ !atLimit then .safety .exhaust
    else if h + s.band side < t then .level .fill
    else if t + s.band side < h ∧ !atLimit then .level .exhaust
    else .nothing
  | _, _ => .nothing

/-- The persistence in force for a side (R114). -/
def persistence (s : State) (side : Side) : Nat :=
  if (s.sideControl side).targetChanged then 0
  else if s.height.mode = .ride ∨ s.height.speed ≠ some 0 then s.params.p17
  else s.params.p18

/-- The pending since mark after a result (R114): the timer runs on in the direction held, starts in
another, and ends with no need. -/
def pendingSince (s : State) (side : Side) (need : Option SideNeed) : Option Nat :=
  let x := s.sideControl side
  match need with
  | none => none
  | some n => if x.pendingDir = some n then some (x.pendingSince.getD s.now) else some s.now

/-- |target - h| does not exceed half the deadband, rounded (R113). -/
def withinHalfBand (s : State) (side : Side) : Bool :=
  match s.evaluationHeight side, s.height.target with
  | some h, some t => decide (absDiff t h ≤ roundDiv s.deadband 2)
  | _, _ => false

/-- A class 1 need has persisted: the moment at which it will have, which is also the expiry set before it, has come
(R114). -/
def persisted (s : State) (side : Side) (r : SideResult) : Bool :=
  match s.pendingSince side r.need with
  | some m => decide (m + s.persistence side ≤ s.now)
  | none => false

/-- The class of the join request a result sends: class 0 at once, class 1 when persisted (R113). -/
def sideRequest (s : State) (side : Side) (r : SideResult) : Option (SideNeed × DemandClass) :=
  match r with
  | .nothing => none
  | .safety n => some (n, .safety)
  | .level n => if s.persisted side r then some (n, .level) else none

/-- The flags and the timer of a side after an evaluation (R113, R114). -/
def sideAfter (s : State) (side : Side) (r : SideResult) : SideControl :=
  let x := s.sideControl side
  let since := s.pendingSince side r.need
  { x with
    adjusting := !s.withinHalfBand side && (x.adjusting || (s.sideRequest side r).isSome)
    pendingDir := r.need
    pendingSince := since
    targetChanged := false
    expiry := match r, since with
      | .level _, some m => if s.persisted side r then none else some (m + s.persistence side)
      | _, _ => none }

/-- A waiting demand of a side with another action than the need, or with no need left, is withdrawn
(R113). -/
def withdrawOther (s : State) (side : Side) (need : Option SideNeed) : State :=
  match s.demandOf (sideCircuit side) with
  | some d => if need.map SideNeed.action = some d.action then s else s.withdraw (sideCircuit side)
  | none => s

/-- The evaluation of a side (R113, R114). An ABSENT side is not evaluated. -/
def evaluateSide (s : State) (side : Side) : State :=
  if s.isPresent (sideCircuit side) then
    let r := s.sideResult side
    let request := s.sideRequest side r
    let s := (s.setSideControl side (s.sideAfter side r)).withdrawOther side r.need
    match request with
    | some (n, cls) => s.join (sideCircuit side) n.action cls
    | none => s
  else s

/-- Both sides evaluated, LEFT before RIGHT (DESIGN CHOICE, log entry 56). -/
def evaluateSides (s : State) : State := (s.evaluateSide .left).evaluateSide .right

/-- A waiting EXHAUST of a side is withdrawn (R113). -/
def withdrawExhaust (s : State) (side : Side) : State :=
  match s.demandOf (sideCircuit side) with
  | some d => if d.action = .exhaust then s.withdraw (sideCircuit side) else s
  | none => s

/-- An AT_LIMIT outcome (R91): the at limit mark is set and a waiting EXHAUST withdrawn; the side is
evaluated (R113, R115). -/
def markAtLimit (s : State) (side : Side) : State :=
  ((s.setSideControl side { s.sideControl side with atLimit := true }).withdrawExhaust side).evaluateSide side

end State

end Sys2Proof.Machine
end

