-- ==== Sys2Proof/Machine/LiftControl.lean ====
section
/-! DEFINITION. The Lift Axle Controller (R116 to R123): evaluation of LIFT, raises, lowerings, stalls,
presence and reconciliation. -/

namespace Sys2Proof.Machine
namespace State

/-- The filtered lift bag pressure while channel 3 is VALID: b of R119. -/
def bag (s : State) : Option Nat := s.validValue 3

/-- The controller acts: a lift axle is fitted and the lift is reconciled (R116). -/
def liftActs (s : State) : Bool := s.liftFitted && s.lift.reconciled

/-- The lift state and its step replaced; a change of state logs LIFT_CHANGED (R116). R116 names its value alone: that
it carries no circuit is DESIGN CHOICE (log entry 64). -/
def setLiftState (s : State) (st : LiftState) (step : LiftStep) : State :=
  let changed := s.lift.state ≠ st
  let s := s.setLift { s.lift with state := st, step := step }
  if changed then s.logEvent .liftChanged .advisory none (some st.code) else s

/-- A switch requested by the controller; it is outstanding until the Valve Driver answers (R116). -/
def liftSwitch (s : State) (pos : Position) : State :=
  (s.setLift { s.lift with switchOutstanding := true }).requestSwitch pos

/-- LIFT_UNAVAILABLE raised; its event is logged when the condition is new or becomes more severe
(R122; log entry 19). R122 gives circuit 2 to the condition alone; that the event carries circuit 2 too, and no
value, is DESIGN CHOICE (log entry 47). -/
def raiseUnavailable (s : State) (sev : Severity) : State :=
  if s.isActiveAt .liftUnavailable sev then s
  else (s.raise .liftUnavailable sev).logEvent .liftUnavailable sev (some liftCircuit) none

/-- The step becomes CONNECTING and a switch to CONNECTED is requested; a waiting demand is withdrawn
(R119, R120). -/
def startConnecting (s : State) : State :=
  ((s.withdraw liftCircuit).setLift { s.lift with step := .connecting }).liftSwitch .connected

/-- The class of the lowering under way (R116). -/
def loweringClass (s : State) : DemandClass := s.lift.loweringClass.getD .lift

/-- The rows of R119 for LOWERING in VENTING. -/
def ventingRows (s : State) : State :=
  match s.bag with
  | some b =>
    if s.params.p83 < b then s.join liftCircuit .exhaust s.loweringClass else s.startConnecting
  | none =>
    if s.lift.blindVentDone then s else s.join liftCircuit .exhaust s.loweringClass

/-- A lowering in VENTING held since the unit left RUNNING goes on at the return (R145, R119): to CONNECTING where its
exhaust has ended without a bag reading, which is still missing, else by the rows of R119 (DESIGN CHOICE, log entry
65). -/
def releaseVenting (s : State) : State :=
  let s := s.setLift { s.lift with ventHeld := false }
  if s.bag = none ∧ s.lift.blindVentDone then s.startConnecting else s.ventingRows

/-- LIFT evaluated in VENTING (R119). A lowering that was in it when the unit left RUNNING stays until the return
(R145). -/
def evaluateVenting (s : State) : State :=
  if s.lift.ventHeld then (if s.isRunning then s.releaseVenting else s) else s.ventingRows

/-- A lowering in VENTING as the unit leaves RUNNING: it stays there until the return (R145). -/
def holdVenting (s : State) : State :=
  if s.lift.state = .lowering ∧ s.lift.step = .venting then s.setLift { s.lift with ventHeld := true } else s

/-- A lowering started from RAISING or UP (R120). -/
def beginLowering (s : State) (cls : DemandClass) : State :=
  let s := s.setLiftState .lowering .venting
  let s := s.setLift { s.lift with
    loweringClass := some cls, refilling := false, blindVentDone := false, ventHeld := false, dwellSince := none }
  s.evaluateVenting

/-- A cause of a lowering (R120): it starts one from RAISING or UP; a cause of class 0 hastens the one under
way; in DOWN it does nothing. -/
def lower (s : State) (cls : DemandClass) : State :=
  if s.liftActs then
    match s.lift.state with
    | .raising => s.beginLowering cls
    | .up => s.beginLowering cls
    | .lowering =>
      if cls = .safety then
        let s := s.setLift { s.lift with loweringClass := some .safety }
        if s.lift.step = .venting then s.evaluateVenting else s.withdraw liftCircuit
      else s
    | .down => s
  else s

/-- The rows of R119 for RAISING in FILLING. UP is reached with LIFT IDLE or WAITING alone: a fill in flight
is judged first (DEDUCED, log entry 30). At a departure from RUNNING the evaluation of an aborted fill can reach UP too
(DESIGN CHOICE, log entry 72). -/
def evaluateFilling (s : State) : State :=
  match s.bag with
  | some b =>
    if b < s.params.p82 then s.join liftCircuit .fill .lift
    else if (s.circuit liftCircuit).state = .idle ∨ (s.circuit liftCircuit).state = .waiting then
      let s := (s.withdraw liftCircuit).setLiftState .up .noStep
      s.setLift { s.lift with refilling := false }
    else s
  | none => s.lower .lift

/-- The rows of R119 for UP. -/
def evaluateUp (s : State) : State :=
  match s.bag with
  | some b =>
    if b + Fixed.refillDrop < s.params.p82 then
      (s.setLift { s.lift with refilling := true }).join liftCircuit .fill .lift
    else if b < s.params.p82 then
      if s.lift.refilling then s.join liftCircuit .fill .lift else s
    else (s.setLift { s.lift with refilling := false }).withdraw liftCircuit
  | none => s.lower .lift

/-- The evaluation of LIFT (R119). -/
def evaluateLift (s : State) : State :=
  if s.liftActs then
    match s.lift.state, s.lift.step with
    | .raising, .filling => s.evaluateFilling
    | .up, _ => s.evaluateUp
    | .lowering, .venting => s.evaluateVenting
    | _, _ => s.withdraw liftCircuit
  else s

/-- LIFT handed back IDLE at the end of a transaction (R97, R119): after an exhaust that ran without a bag
reading blind vent done is set and the lowering goes on to connect, or stays in VENTING until the return where the
departure from RUNNING has ended the exhaust (R145; DESIGN CHOICE, log entry 65); otherwise LIFT is evaluated. -/
def liftReturned (s : State) (k : TransactionKind) : State :=
  if s.liftActs ∧ k = .liftExhaust ∧ s.bag = none ∧ s.lift.state = .lowering ∧ s.lift.step = .venting then
    let s := s.setLift { s.lift with blindVentDone := true }
    if s.lift.ventHeld then s else s.startConnecting
  else s.evaluateLift

/-- What an answer of SWITCHED does to the state and the step (R118, R120). -/
def afterSwitched (s : State) : State :=
  match s.lift.state, s.lift.step with
  | .raising, .isolating => s.setLift { s.lift with step := .filling }
  | .lowering, .connecting =>
    let s := s.setLiftState .down .noStep
    s.setLift { s.lift with loweringClass := none }
  | _, _ => s

/-- The Valve Driver answers SWITCHED (R118, R120); LIFT is evaluated at every such answer (R119). -/
def liftSwitched (s : State) : State :=
  let s := s.setLift { s.lift with switchOutstanding := false }
  if s.liftActs then s.afterSwitched.evaluateLift else s

/-- The Valve Driver answers FAILED (R118, R120, R122): in ISOLATING the stall of LIFT follows; in CONNECTING
the axle counts as DOWN (log entry 18), LIFT is evaluated in it (R119) and the lift is unavailable; with step NONE
the lift is unavailable, whatever position the switch was requested for and in whatever step, and in FILLING and
VENTING the answer has no effect of its own (DESIGN CHOICE, log entry 71). -/
def liftSwitchFailed (s : State) : State :=
  let s := s.setLift { s.lift with switchOutstanding := false }
  if s.liftActs then
    match s.lift.step with
    | .connecting =>
      let s := s.setLiftState .down .noStep
      (s.setLift { s.lift with loweringClass := none }).evaluateLift.raiseUnavailable .critical
    | .noStep => s.raiseUnavailable .critical
    | _ => s
  else s

/-- The first test of the raise permission is not passed (R118): LIFT STALLED, or LIFT_UNAVAILABLE active. -/
def liftBarred (s : State) : Bool := (s.circuit liftCircuit).state = .stalled || s.isActive .liftUnavailable

/-- The second test of the raise permission (R118). -/
def liftClear (s : State) : Bool := s.height.ramp = .up && s.height.mode = .ride && s.isValid 3

/-- The load test of one side (R118). -/
def loadAllows (s : State) (side : Side) : Bool :=
  (s.lift.loads.get side).source = .live &&
    match (s.lift.loads.get side).sprung with
    | some w => decide (w < s.params.p80 * (s.params.p01 - 1))
    | none => false

/-- The raise permission (R118). -/
def mayRaise (s : State) : Bool :=
  !s.liftBarred && s.liftClear && s.loadAllows .left && s.loadAllows .right

/-- A permitted raise (R118); LIFT is evaluated at the change of state (R119), before the switch is requested (DEDUCED,
log entry 62). -/
def startRaise (s : State) : State :=
  let s := s.setLiftState .raising .isolating
  (s.setLift { s.lift with dwellSince := none }).evaluateLift.liftSwitch .isolated

/-- The conditions of the AUTO dwell for one side's loads (R121). -/
def dwellLoad (s : State) (side : Side) : Bool :=
  let x := s.lift.loads.get side
  x.source = .live && x.axlesDown = some s.params.p01 &&
    match x.perBellows with
    | some w => decide (w < s.params.p81)
    | none => false

/-- The conditions under which the AUTO dwell runs (R121). -/
def dwellHolds (s : State) : Bool :=
  s.liftActs && s.params.p84 = .auto && s.isRunning && s.lift.state = .down && s.height.ramp = .up &&
    s.height.mode = .ride && s.dwellLoad .left && s.dwellLoad .right

/-- The dwell tested again (R121). -/
def testDwell (s : State) : State :=
  if s.dwellHolds then
    if s.lift.dwellSince.isSome then s else s.setLift { s.lift with dwellSince := some s.now }
  else s.setLift { s.lift with dwellSince := none }

/-- A load last handed on of a side whose source is LIVE lies above P80 (R121). -/
def overLifted (s : State) (side : Side) : Bool :=
  (s.lift.loads.get side).source = .live &&
    match (s.lift.loads.get side).perBellows with
    | some w => decide (s.params.p80 < w)
    | none => false

/-- A side's loads handed on (R121): kept, LIVE; in AUTO a load above P80 lowers the axle at class 0; the
dwell is tested. -/
def liftLoads (s : State) (side : Side) (r : SideRecord) : State :=
  let s := s.setLift { s.lift with
    loads := s.lift.loads.set side ⟨r.perBellows, r.sprung, some r.axlesDown, .live⟩ }
  let s := if s.params.p84 = .auto ∧ (s.overLifted .left ∨ s.overLifted .right) then s.lower .safety else s
  s.testDwell

/-- A side's pressure source has become HELD (R50, R121). R121 lists the hand-ons and the changes of ramp, mode and
control state at which the dwell is tested; that this report tests it too is DESIGN CHOICE (log entry 46). -/
def liftLoadsHeld (s : State) (side : Side) : State :=
  (s.setLift { s.lift with loads := s.lift.loads.set side { s.lift.loads.get side with source := .held } }).testDwell

/-- LIFT has entered STALLED (R122). -/
def liftStalled (s : State) : State :=
  if s.liftActs ∧ s.lift.state ≠ .down then
    let sev : Severity := if s.lift.state = .lowering then .critical else .degraded
    let s := (s.liftSwitch .connected).setLiftState .down .noStep
    (s.setLift { s.lift with loweringClass := none, ventHeld := false }).raiseUnavailable sev
  else s

/-- LIFT has become ABSENT (R122). -/
def liftAbsent (s : State) : State :=
  let s := (s.setLift { s.lift with
    loweringClass := none, refilling := false, blindVentDone := false, ventHeld := false
    dwellSince := none }).clear .liftUnavailable
  s.setLiftState .down .noStep

/-- The lift state found at reconciliation (R123). An UP found while the ramp is not UP is LOWERING at once, with one
event (DEDUCED, log entry 73). -/
def foundLift (s : State) : LiftState :=
  if s.liftFitted then
    match s.position, s.bag with
    | some .isolated, some b =>
      if s.params.p82 ≤ b ∧ s.height.ramp = .up then .up else .lowering
    | some .isolated, none => .lowering
    | _, some b => if s.params.p83 < b then .lowering else .down
    | _, none => .down
  else .down

/-- Reconciliation (R123): the state is set from the debounced position and the lift bag; any state other
than DOWN logs LIFT_CHANGED, without a circuit (log entry 64). -/
def reconcileLift (s : State) : State :=
  let found := s.foundLift
  let s := s.setLift { s.lift with
    reconciled := true
    state := found
    step := if found = .lowering then .venting else .noStep
    loweringClass := if found = .lowering then some (if s.height.ramp = .up then .lift else .safety) else none
    refilling := false
    blindVentDone := false
    ventHeld := false
    dwellSince := none }
  if found = .down then s else s.logEvent .liftChanged .advisory none (some found.code)

/-- A new debounced position after reconciliation (R123). -/
def liftPosition (s : State) (pos : Position) : State :=
  if s.liftActs ∧ !s.lift.switchOutstanding then
    match pos, s.lift.state, s.lift.step with
    | .isolated, .down, _ => s.liftSwitch .connected
    | .connected, .up, _ => s.lower .lift
    | .connected, .raising, .filling => s.lower .lift
    | _, _, _ => s
  else s

end State
end Sys2Proof.Machine
end

