-- ==== Sys2Proof/Machine/Upkeep.lean ====
section
/-! DEFINITION. Tyre Upkeep (R124 to R138): evaluation, probe cadence, leak measurement, low alarm, isolation. -/

namespace Sys2Proof.Machine
namespace State

/-- The class of a tyre's demands (R127). -/
def tyreClass (s : State) (t : TyreId) : DemandClass := if (s.tyre t).leaking then .level else .tyre

/-- A shortfall is held back (rows 5 and 6 of R126): a lifted tyre, or a leak measurement in progress, with
the pressure still high enough. -/
def shortfallHeld (s : State) (t : TyreId) (m target : Nat) : Bool :=
  decide (s.params.p53 ≤ m) &&
    ((s.circuit (tyreCircuit t)).frozen || ((s.tyre t).watch && decide (target ≤ m + s.params.p66)))

/-- The rows 2 to 9 of R126: the action asked for, none for a withdrawal. -/
def tyreWant (s : State) (t : TyreId) : Option Action :=
  let r := s.circuit (tyreCircuit t)
  if !s.isValid 4 then none
  else
    match r.probeDue, r.measured, r.target with
    | true, _, _ => some .probe
    | false, none, _ => some .probe
    | false, some _, none => none
    | false, some m, some target =>
      if m + s.params.p60 < target then (if s.shortfallHeld t m target then none else some .fill)
      else if target + s.params.p61 < m ∧ !r.frozen then some .deflate
      else none

/-- The evaluation of a tyre (R126, R127). -/
def evaluateTyre (s : State) (t : TyreId) : State :=
  match (s.circuit (tyreCircuit t)).state with
  | .absent => s
  | .stalled => s
  | .isolated => s
  | .active => s
  | _ => match s.tyreWant t with
    | some a => s.join (tyreCircuit t) a (s.tyreClass t)
    | none => s.withdraw (tyreCircuit t)

/-- Every present tyre evaluated (R125), in the order of the positions (DESIGN CHOICE, log entry 49). -/
def evaluateTyres (s : State) : State := allTyres.foldl evaluateTyre s

/-- The interval in force, in seconds (R128). -/
def interval (s : State) (t : TyreId) : Nat :=
  if (s.tyre t).leaking ∨ (s.tyre t).watch then s.params.p63 else s.params.p62

/-- The measured age of a tyre exceeds its interval in force, in a state in which that makes it probe due
(R128). -/
def intervalExpired (s : State) (t : TyreId) : Bool :=
  let r := s.circuit (tyreCircuit t)
  (r.state = .idle || r.state = .waiting || r.state = .holdoff || r.state = .active) && !r.probeDue &&
    r.measured.isSome &&
    match r.readMark with
    | some m => decide (s.interval t * 1000 < s.since m)
    | none => false

/-- Probe due set to yes. -/
def setProbeDue (s : State) (t : TyreId) : State :=
  s.setCircuit (tyreCircuit t) { s.circuit (tyreCircuit t) with probeDue := true }

/-- The interval in force judged afresh (R128). -/
def judgeInterval (s : State) (t : TyreId) : State :=
  if s.intervalExpired t then (s.setProbeDue t).evaluateTyre t else s

/-- TYRE_LOW judged (R132). -/
def judgeLow (s : State) (t : TyreId) : State :=
  let r := s.circuit (tyreCircuit t)
  match r.measured, r.target with
  | some m, some target =>
    if m + s.params.p66 < target then
      if (s.tyre t).low then s
      else ((s.setTyre t { s.tyre t with low := true }).raise (.tyreLow t) .degraded).logEvent .tyreLow .degraded
        (some (tyreCircuit t)) (some m)
    else (s.setTyre t { s.tyre t with low := false }).clear (.tyreLow t)
  | _, _ => (s.setTyre t { s.tyre t with low := false }).clear (.tyreLow t)

/-- A target change reported for a tyre (R55): TYRE_LOW is judged and the tyre evaluated (R132, R125), in this order
(DESIGN CHOICE, log entry 29). -/
def tyreTargetChanged (s : State) (t : TyreId) : State := (s.judgeLow t).evaluateTyre t

/-- The rate between two probes, in tenths of a kPa per minute (R130): (q - p) x 600 / e with e in seconds
taken exactly from ms; a rise gives 0; held at 32767. -/
def leakRateOf (q p elapsedMs : Nat) : Nat := min Fixed.leakLimit (roundDiv ((q - p) * 600 * 1000) elapsedMs)

/-- The rate an EFFECTIVE PROBE with read value `p`, made now, computes (R130). -/
def computedRate (s : State) (t : TyreId) (p : Nat) : Option Nat :=
  match (s.circuit (tyreCircuit t)).previousProbe with
  | some q => if Fixed.leakTime ≤ s.since q.mark then some (leakRateOf q.pressure p (s.since q.mark)) else none
  | none => none

/-- The leak measurement of R130. -/
def measureLeak (s : State) (t : TyreId) (p : Nat) : State :=
  let r := s.circuit (tyreCircuit t)
  match r.previousProbe, s.computedRate t p with
  | none, _ =>
    (s.setCircuit (tyreCircuit t) { r with previousProbe := some ⟨p, s.now⟩ }).setTyre t
      { s.tyre t with watch := true }
  | some _, none => s
  | some _, some rate =>
    (s.setCircuit (tyreCircuit t) { r with previousProbe := some ⟨p, s.now⟩, leakRate := some rate }).setTyre t
      { s.tyre t with watch := false }

/-- TYRE_LEAK judged at a computed rate (R131). -/
def judgeLeak (s : State) (t : TyreId) (rate : Nat) : State :=
  if s.params.p64 ≤ rate ∧ !(s.tyre t).leaking then
    ((s.setTyre t { s.tyre t with leaking := true }).raise (.tyreLeak t) .degraded).logEvent .tyreLeak .degraded
      (some (tyreCircuit t)) (some rate)
  else if 2 * rate < s.params.p64 ∧ (s.tyre t).leaking then
    (s.setTyre t { s.tyre t with leaking := false }).clear (.tyreLeak t)
  else s

/-- The severity of an isolation (R134). -/
def isolationSeverity : IsolationCause → Severity
  | .leak => .critical
  | .reserve => .critical
  | .request => .degraded

/-- A tyre isolated, as one act (R134). -/
def isolate (s : State) (t : TyreId) (cause : IsolationCause) (value : Nat) : State :=
  let s := s.removeDemand (tyreCircuit t)
  let s := s.setCircuit (tyreCircuit t)
    { s.circuit (tyreCircuit t) with state := .isolated, holdoffEnd := none }
  let s := s.setTyre t { s.tyre t with cause := some cause }
  (s.raise (.tyreIsolated t) (isolationSeverity cause)).logEvent .tyreIsolated (isolationSeverity cause)
    (some (tyreCircuit t)) (some value)

/-- The state admits an isolation (R133). -/
def isolable (s : State) (t : TyreId) : Bool :=
  let st := (s.circuit (tyreCircuit t)).state
  st = .idle || st = .waiting || st = .holdoff

/-- The isolation tests of R133, with the rate computed at this hand-over if there is one; LEAK before
RESERVE. -/
def testIsolation (s : State) (t : TyreId) (rate : Option Nat) : State :=
  if s.isolable t then
    match rate.filter fun x => s.params.p65 ≤ x, (s.circuit (tyreCircuit t)).measured with
    | some x, _ => s.isolate t .leak x
    | none, some m =>
      if m < s.params.p53 ∧ s.supervisor.reserve ≠ .normal then s.isolate t .reserve m else s
    | none, none => s
  else s

/-- The isolation tests on every tyre at an entry into LOW or CRITICAL, or a change of P53 (R133). -/
def testIsolations (s : State) : State := allTyres.foldl (fun s t => s.testIsolation t none) s

/-- The work of R129 at the end of a tyre's transaction. -/
def tyreReturned (s : State) (t : TyreId) (k : TransactionKind) (o : TransactionOutcome) (read : Option Nat) :
    State :=
  let probed := if k = .probe ∧ o = .effective then read else none
  let rate := probed.bind fun p => s.computedRate t p
  let s := match probed with
    | some p => s.measureLeak t p
    | none => s
  let s := match rate with
    | some x => s.judgeLeak t x
    | none => s
  let s := if read.isSome then s.judgeLow t else s
  let s := s.testIsolation t rate
  let s := s.judgeInterval t
  if (s.circuit (tyreCircuit t)).state = .idle then s.evaluateTyre t else s

/-- RESUME of an ISOLATED tyre (R136). -/
def resumeIsolated (s : State) (t : TyreId) : State :=
  let s := s.setCircuit (tyreCircuit t)
    { s.circuit (tyreCircuit t) with state := .idle, probeDue := true, previousProbe := none }
  let s := s.setTyre t { s.tyre t with cause := none, watch := false }
  let s := (s.clear (.tyreIsolated t)).logEvent .circuitResumed .advisory (some (tyreCircuit t)) none
  s.evaluateTyre t

end State
end Sys2Proof.Machine
end

