-- ==== Sys2Proof/Machine/Engine.lean ====
section
/-! DEFINITION. The Transaction Engine: phase ends (R84 to R88), READ (R89), judgement (R90 to R93), outcomes
and their effects (R94 to R97), cuts (R98 to R101), and the stall of a circuit (R8). -/

namespace Sys2Proof.Machine

/-- What the end of a transaction makes of its circuit (R94, R95). -/
inductive Ending where
  | idle
  | holdoff
  | stalled (value : Nat)
deriving DecidableEq, Repr

/-- The circuit's new state by outcome, strikes counted before, and whether an electrical fault lies in a
valve of the circuit (R94, R95, R14). -/
def endingOf (o : TransactionOutcome) (strikes : Nat) (ownValve : Bool) : Ending :=
  match o with
  | .noResponse => .holdoff
  | .reserveCut => .holdoff
  | .strike => if 3 ≤ strikes + 1 then .stalled 3 else .idle
  | .tripped => if 3 ≤ strikes + 1 then .stalled 3 else .idle
  | .electrical => if ownValve then .stalled 0 else .idle
  | _ => .idle

/-- The strike count after an outcome; entering STALLED sets it to 0 (R94, R95, R8). -/
def strikesAfter (o : TransactionOutcome) (strikes : Nat) : Nat :=
  match o with
  | .effective => 0
  | .overshoot => 0
  | .atLimit => 0
  | .strike => strikes + 1
  | .tripped => strikes + 1
  | _ => strikes

/-- Probe due of a tyre after an outcome (R94). -/
def probeDueAfter (o : TransactionOutcome) (due : Bool) : Bool :=
  match o with
  | .effective => false
  | .noResponse => true
  | .reserveCut => true
  | _ => due

/-- Air moved into or out of a tyre since its last probe: an INFLATE or DEFLATE that opened the wheel valve
(R89). -/
def Transaction.spoilsProbe (t : Transaction) : Bool :=
  (t.kind = .inflate || t.kind = .deflate) && t.wheelOpened

/-- The circuit record after the end of a transaction (R94 to R96, R89). -/
def recordAfter (r : CircuitRecord) (t : Transaction) (o : TransactionOutcome) (ending : Ending)
    (holdoffEnd : Nat) : CircuitRecord :=
  { r with
    lastOutcome := o
    state := match ending with
      | .idle => .idle
      | .holdoff => .holdoff
      | .stalled _ => .stalled
    strikes := match ending with
      | .stalled _ => 0
      | _ => strikesAfter o r.strikes
    holdoffEnd := if ending = .holdoff then some holdoffEnd else none
    probeDue := if circuitKind t.circuit = .tyre then probeDueAfter o r.probeDue else r.probeDue
    previousProbe := if t.spoilsProbe then none else r.previousProbe }

namespace State

/-- CIRCUIT_STALLED logged and raised (R8). -/
def reportStall (s : State) (c : CircuitId) (value : Nat) : State :=
  (s.logEvent .circuitStalled (stallSeverity c) (some c) (some value)).raise (.circuitStalled c) (stallSeverity c)

/-- A circuit that is not ACTIVE enters STALLED (R8); from any other state than IDLE, WAITING and HOLDOFF it
takes no stall. -/
def stall (s : State) (c : CircuitId) (value : Nat) : State :=
  let st := (s.circuit c).state
  if st = .idle ∨ st = .waiting ∨ st = .holdoff then
    let s := s.removeDemand c
    let s := s.setCircuit c { s.circuit c with state := .stalled, strikes := 0, holdoffEnd := none }
    let s := s.reportStall c value
    if c = liftCircuit then s.liftStalled else s
  else s

/-- The evaluator of a circuit evaluates it afresh (R6, R97, R146). -/
def evaluateCircuit (s : State) (c : CircuitId) : State :=
  match circuitSide c, circuitTyre c with
  | some side, _ => s.evaluateSide side
  | none, some t => s.evaluateTyre t
  | none, none => s.evaluateLift

/-- A circuit handed back at the end of a transaction (R97, step 5). -/
def handBack (s : State) (t : Transaction) (o : TransactionOutcome) (ending : Ending) : State :=
  match circuitSide t.circuit, circuitTyre t.circuit with
  | some side, _ =>
    if ending = .idle then (if o = .atLimit then s.markAtLimit side else s.evaluateSide side) else s
  | none, some tyre => s.tyreReturned tyre t.kind o t.readValue
  | none, none => match ending with
    | .idle => s.liftReturned t.kind
    | .holdoff => s
    | .stalled _ => s.liftStalled

/-- The valves a transaction holds open closed at its end (R97 step 1, R100). -/
def closeAtEnd (s : State) (t : Transaction) (o : TransactionOutcome) : State :=
  if o = .electrical then (phaseValves t.circuit t.kind t.phase).foldl closeAtVerdict s
  else s.closeAll (phaseValves t.circuit t.kind t.phase)

/-- The end of a transaction, as one act in the order of R97; the pass that its release runs follows it, and then the
circuit is handed back. That the pass comes before the hand-over's own work too is DESIGN CHOICE (log entry 29). -/
def endTransaction (s : State) (t : Transaction) (o : TransactionOutcome) (ownValve : Bool) : State :=
  let s := s.closeAtEnd t o
  let released := s.holdsResource t.circuit t.holdsSupply t.holdsGallery
  let s := s.freeResources t.circuit t.holdsSupply t.holdsGallery
  let ending := endingOf o (s.circuit t.circuit).strikes ownValve
  let s := s.setCircuit t.circuit (recordAfter (s.circuit t.circuit) t o ending (s.now + s.params.p45))
  let s := match ending with
    | .stalled value => s.reportStall t.circuit value
    | _ => s
  let s := s.setEngine (s.engine.filter fun u => u.circuit ≠ t.circuit)
  let s := if released then s.pass else s
  s.handBack t o ending

/-! ### Judgement -/

/-- A response on a witness (R90, R92): from a reference, up or down by at least a step. -/
def responds (up : Bool) (reference now step : Nat) : Bool :=
  if up then decide (reference + step ≤ now) else decide (now + step ≤ reference)

/-- A witness that is usable and shows a response: VALID now, its reference present (R90, R92). -/
def witness (up : Bool) (reference now : Option Nat) (step : Nat) : Bool :=
  match reference, now with
  | some r, some n => responds up r n step
  | _, _ => false

/-- A channel is usable at judgement (R90). -/
def usable (reference now : Option Nat) : Bool := reference.isSome && now.isSome

/-- The height of a side lies beyond its target by more than the band in force, in the direction of the
pulse (R90). -/
def passesTarget (s : State) (side : Side) (up : Bool) : Bool :=
  match s.validValue (heightChannel side), (s.circuit (sideCircuit side)).target with
  | some h, some t => if up then decide (t + s.deadband < h) else decide (h + s.deadband < t)
  | _, _ => false

/-- The supply was too weak at the end of the fill pulse (R91, R92, R93). -/
def weakSupply (s : State) (t : Transaction) : Bool :=
  match t.supplyAtEnd with
  | some (reservoir, circuit) => decide (reservoir < circuit + s.params.p33)
  | none => false

/-- The outcome of a side transaction (R91). -/
def judgeSide (s : State) (t : Transaction) (side : Side) : TransactionOutcome :=
  let h := s.validValue (heightChannel side)
  let p := s.validValue (pressureChannel side)
  let up := t.kind = .sideFill
  let byHeight := witness up t.refHeight h s.params.p42
  let response := byHeight || witness up t.refPressure p s.params.p43
  let empty := match p with
    | some x => decide (x ≤ s.params.p44)
    | none => false
  if !up && empty && !byHeight then .atLimit
  else if !usable t.refHeight h && !usable t.refPressure p then .unjudged
  else if response && s.passesTarget side up then .overshoot
  else if response then .effective
  else if up && s.weakSupply t then .noResponse
  else .strike

/-- The outcome of a lift transaction (R92). -/
def judgeLift (s : State) (t : Transaction) : TransactionOutcome :=
  let b := s.validValue 3
  let up := t.kind = .liftFill
  let response := witness up t.refPressure b s.params.p43
  let vented := match b with
    | some x => decide (x ≤ s.params.p83)
    | none => false
  if !up && vented && !response then .atLimit
  else if !usable t.refPressure b then .unjudged
  else if response then .effective
  else if up && s.weakSupply t then .noResponse
  else .strike

/-- A read value lies beyond the tyre's target (R93). -/
def beyondTarget (s : State) (t : Transaction) (read : Nat) : Bool :=
  match (s.circuit t.circuit).target with
  | some target =>
    if t.kind = .inflate then decide (target + s.params.p61 < read) else decide (read + s.params.p60 < target)
  | none => false

/-- The outcome of a tyre transaction (R93). -/
def judgeTyre (s : State) (t : Transaction) : TransactionOutcome :=
  match t.readValue with
  | none => .unjudged
  | some read =>
    let response := witness (t.kind = .inflate) t.refMeasured (some read) s.params.p73
    if read < s.params.p74 then .strike
    else if t.kind = .probe then .effective
    else if response && s.beyondTarget t read then .overshoot
    else if response then .effective
    else if t.kind = .inflate && s.weakSupply t then .noResponse
    else .strike

/-- The outcome of a transaction whose last phase has run. -/
def judge (s : State) (t : Transaction) : TransactionOutcome :=
  match circuitSide t.circuit, circuitTyre t.circuit with
  | some side, _ => s.judgeSide t side
  | none, some _ => s.judgeTyre t
  | none, none => s.judgeLift t

/-! ### Phase ends -/

/-- The reservoir and circuit pressures at the end of a fill pulse (R84, R87). -/
def pulseEndSupply (s : State) (c : CircuitId) : Nat × Nat :=
  ((s.validValue 0).getD 0, s.reportedValue (circuitPressureChannel c))

/-- The READ (R89): the gallery's filtered value plus P76, with a floor at 0. -/
def galleryRead (s : State) : Option Nat := (s.validValue 4).map fun g => ((g : Int) + s.params.p76).toNat

/-- The tyre's record after a READ (R89). -/
def writeRead (s : State) (c : CircuitId) (read : Option Nat) : State :=
  match read with
  | some p => s.setCircuit c { s.circuit c with measured := some p, readMark := some s.now }
  | none => s

/-- The end of the last phase: READ for a tyre, then judgement (R84, R89, R91 to R93). -/
def finishTransaction (s : State) (t : Transaction) : State :=
  if circuitKind t.circuit = .tyre then
    let read := s.galleryRead
    let s := s.writeRead t.circuit read
    let t := { t with readValue := read }
    s.endTransaction t (s.judge t) true
  else s.endTransaction t (s.judge t) true

/-- A fill pulse ends by its time (R84, R85, R87): the supply is taken, the fill side closed, SUPPLY
released, and the last phase started; the release then runs a pass. -/
def endFillPulse (s : State) (t : Transaction) (next : Phase) : State :=
  let released := s.holdsResource t.circuit t.holdsSupply false
  let t' := { t with
    supplyAtEnd := some (s.pulseEndSupply t.circuit)
    phase := next
    phaseEnd := s.now + t.afterTime
    holdsSupply := false }
  let keep := phaseValves t.circuit t.kind next
  let s := s.closeAll ((phaseValves t.circuit t.kind t.phase).filter fun v => !keep.contains v)
  let s := (s.freeResources t.circuit t.holdsSupply false).setTransaction t'
  if released then s.pass else s

/-- A phase without a supply ends by its time and the last phase starts, with the valves of that phase
(R84, R86, R88). -/
def endPlainPhase (s : State) (t : Transaction) (next : Phase) : State :=
  let keep := phaseValves t.circuit t.kind next
  let s := s.closeAll ((phaseValves t.circuit t.kind t.phase).filter fun v => !keep.contains v)
  let s := s.setTransaction { t with
    phase := next, phaseEnd := s.now + t.afterTime, wheelOpened := t.wheelOpened || decide (t.kind = .probe) }
  s.requestOpenAll t.circuit keep

/-- CHARGE ends by its time: the wheel valve is asked for and INFLATE starts (R87). -/
def endCharge (s : State) (t : Transaction) : State :=
  (s.setTransaction { t with
    phase := .inflate, phaseEnd := s.now + t.pulseTime.getD 0, wheelOpened := true }).requestOpenAll t.circuit
    (phaseValves t.circuit t.kind .inflate)

/-- The end of a transaction's phase by its time (R84 to R88). -/
def endPhase (s : State) (t : Transaction) : State :=
  match t.phase with
  | .pulse => if t.kind.needsSupply then s.endFillPulse t .settle else s.endPlainPhase t .settle
  | .settle => s.finishTransaction t
  | .vent => s.endPlainPhase t .equalize
  | .charge => s.endCharge t
  | .inflate => s.endFillPulse t .equalize
  | .bleed => s.endPlainPhase t .equalize
  | .equalize => s.finishTransaction t

/-! ### Cuts -/

/-- The entry of the reserve state into LOW or CRITICAL cuts the fill pulse of the SUPPLY holder (R98). -/
def reserveCut (s : State) : State :=
  match s.scheduler.supply.bind s.transactionOn with
  | some t => if t.inFillPulse then s.endTransaction t .reserveCut false else s
  | none => s

/-- The transaction and phase a trip cuts (R99). -/
def tripTarget (s : State) (k : ComparatorId) : Option Transaction :=
  match k with
  | .left => (s.transactionOn 0).filter fun t => t.kind = .sideFill && t.phase = .pulse
  | .right => (s.transactionOn 1).filter fun t => t.kind = .sideFill && t.phase = .pulse
  | .lift => (s.transactionOn 2).filter fun t => t.kind = .liftFill && t.phase = .pulse
  | .gallery => s.engine.find? fun t => t.kind = .inflate && (t.phase = .charge || t.phase = .inflate)

/-- A trip handed to the engine (R99). -/
def tripCut (s : State) (k : ComparatorId) : State :=
  match s.tripTarget k with
  | some t => s.endTransaction t .tripped false
  | none => s

/-- The transaction a faulty valve ends: the one on the valve's own circuit, or the holder of a shared valve's
resource while its phase holds that valve open (R13, R14, R100). -/
def transactionUsing (s : State) (v : ValveId) : Option Transaction :=
  match valveOwner v with
  | some c => s.transactionOn c
  | none =>
    ((if v = supplyValve then s.scheduler.supply else s.scheduler.gallery).bind s.transactionOn).filter fun t =>
      (phaseValves t.circuit t.kind t.phase).contains v

/-- A faulty valve takes out of service the circuit it belongs to, and ends the transaction that uses it
(R14, R100). -/
def faultOutOfService (s : State) (v : ValveId) : State :=
  match s.transactionUsing v with
  | some t => s.endTransaction t .electrical (valveOwner v).isSome
  | none => match valveOwner v with
    | some c => s.stall c 0
    | none => s

/-- Every transaction in flight ended ABORTED (R101), in the order of their grants, each closed, released, written
and handed back before the next (DESIGN CHOICE, log entry 48). -/
def abortAll (s : State) : State := s.engine.foldl (fun s t => s.endTransaction t .aborted false) s

end State
end Sys2Proof.Machine
end

