-- ==== Sys2Proof/Machine/Settle.lean ====
section
/-! DEFINITION. The hand-offs that an act leaves behind are taken one after another once the act is complete
(R11, R17; log entry 15). -/

namespace Sys2Proof.Machine
namespace State

/-- One hand-off taken: a refused open ends the transaction as a fault found at energise does (R11, R100); a
switch that ended SWITCHED as its pulse started is told to the Lift Axle Controller (R17), unless another switch
has been begun since: the driver then answers for that one alone. -/
def takeDeferred (s : State) (d : Deferred) : State :=
  match d with
  | .openRefused c v => match s.transactionOn c with
    | some t => s.endTransaction t .electrical (valveOwner v).isSome
    | none => s
  | .switched => if s.driver.isolation.switch = .ready then s.liftSwitched else s

/-- The hand-offs taken in the order in which they were made, at most `fuel` of them. -/
def settleFor : Nat → State → State
  | 0, s => s
  | fuel + 1, s => match s.deferred with
    | [] => s
    | d :: rest => settleFor fuel ((s.setDeferred rest).takeDeferred d)

/-- The most hand-offs one command takes. -/
def settleFuel : Nat := 64

/-- The hand-offs of a command taken. -/
def settle (s : State) : State := settleFor settleFuel s

end State
end Sys2Proof.Machine
end

