-- ==== Sys2Proof/Machine/Supervisor.lean ====
section
/-! DEFINITION. The Supervisor (R139 to R146): the reserve state, the valve supply state, and the entries into
and departures from RUNNING. -/

namespace Sys2Proof.Machine

/-- The first judgement of the reserve state, without hysteresis (R140). -/
def firstReserve (p : Params) (r : Nat) : ReserveState :=
  if r < p.p32 then .critical else if r < p.p30 then .low else .normal

/-- The table of R140. Where P32 lies above P30 + P31 both rows of LOW can hold, and CRITICAL is taken (DESIGN
CHOICE, log entry 68). -/
def nextReserve (p : Params) (held : ReserveState) (r : Nat) : ReserveState :=
  match held with
  | .normal => if r < p.p32 then .critical else if r < p.p30 then .low else .normal
  | .low => if r < p.p32 then .critical else if p.p30 + p.p31 ≤ r then .normal else .low
  | .critical =>
    if p.p30 + p.p31 ≤ r then .normal else if p.p32 + p.p31 ≤ r then .low else .critical

/-- Every valve output but the isolation valve (R19). -/
def switchedValves : List ValveId := allValves.filter fun v => v ≠ isolationValve

namespace State

/-! ### Control state -/

/-- The control state replaced. -/
def setControl (s : State) (c : ControlState) : State := s.setSupervisor { s.supervisor with control := c }

/-- A circuit on leaving RUNNING: WAITING and HOLDOFF become IDLE (R77). -/
def idleCircuit (s : State) (c : CircuitId) : State :=
  let r := s.circuit c
  if r.state = .waiting ∨ r.state = .holdoff then s.setCircuit c { r with state := .idle, holdoffEnd := none }
  else s

/-- The Demand List emptied (R77). -/
def emptyDemands (s : State) : State := allCircuits.foldl idleCircuit (s.setDemands [])

/-- A departure from RUNNING, as one act (R145). A lowering in VENTING is held there before its exhaust is ended.
That the circuits handed back ABORTED are evaluated, and so may change the lift state and the flags and timer of a side,
is DESIGN CHOICE (log entry 72). -/
def leaveRunning (s : State) (new : ControlState) : State :=
  (((s.setControl new).holdVenting.abortAll.emptyDemands).closeAll switchedValves).testDwell

/-- A circuit handed to its evaluator if it is present (R146). -/
def evaluatePresent (s : State) (c : CircuitId) : State := if s.isPresent c then s.evaluateCircuit c else s

/-- An entry into RUNNING, as one act (R146). -/
def enterRunning (s : State) : State :=
  allCircuits.foldl evaluatePresent ((s.setControl .running).pass.testDwell)

/-- A loader run started by PROFILE_RELOAD is in progress (R143, R144, R147). -/
def reloadRunning (s : State) : Bool :=
  match s.startUp.loader with
  | some run => run.reload
  | none => false

/-- The control state on leaving STARTING or UNCONFIGURED for control of air: RUNNING, or SUSPENDED while a
reason is set (R144). -/
def beginControl (s : State) : State :=
  if s.supervisor.reasonCab ∨ s.supervisor.reasonSupply then s.setControl .suspended else s.enterRunning

/-! ### Air reserve -/

/-- The value of a reserve event: the reservoir filtered value, or -1 when channel 0 is not VALID (R141). -/
def reserveValue (s : State) : Int :=
  match s.validValue 0 with
  | some v => v
  | none => -1

/-- The event and the conditions of a change of the reserve state (R141). `first` is the first judgement. -/
def reportReserve (s : State) (held new : ReserveState) (first : Bool) : State :=
  match new with
  | .low =>
    if held = .critical ∧ !first then (s.clear .reserveCritical).raise .reserveLow .degraded
    else (s.logEvent .reserveLow .degraded none (some s.reserveValue)).raise .reserveLow .degraded
  | .critical =>
    ((s.logEvent .reserveCritical .critical none (some s.reserveValue)).raise .reserveCritical .critical).clear
      .reserveLow
  | .normal =>
    if first then s
    else
      ((s.logEvent .reserveRestored .advisory none (some s.reserveValue)).clear .reserveLow).clear .reserveCritical

/-- A change of the reserve state, or its first judgement, as one act (R141, R98, R133, R75). The cut, with the pass
that its release runs, comes before the isolation tests (DESIGN CHOICE, log entry 58). -/
def changeReserve (s : State) (new : ReserveState) (first : Bool) : State :=
  let held := s.supervisor.reserve
  let s := s.setSupervisor { s.supervisor with reserve := new, reserveJudged := true }
  let s := s.reportReserve held new first
  if new = .normal then s.pass else ((s.closeValve supplyValve).reserveCut).testIsolations

/-- The reserve state judged at a filtered reservoir value (R140). -/
def judgeReserve (s : State) (r : Nat) : State :=
  if s.supervisor.reserveJudged then
    let new := nextReserve s.params s.supervisor.reserve r
    if new = s.supervisor.reserve then s else s.changeReserve new false
  else s.changeReserve (firstReserve s.params r) true

/-- The reserve state when channel 0 enters FAILED (R140). -/
def reserveChannelFailed (s : State) : State :=
  if s.supervisor.reserveJudged then
    if s.supervisor.reserve = .normal then s.changeReserve .low false else s
  else s.changeReserve .low true

/-- The reserve state judged again at a change of P30, P31 or P32 (R140). -/
def rejudgeReserve (s : State) : State :=
  match s.supervisor.reserveJudged, s.validValue 0 with
  | true, some r => s.judgeReserve r
  | _, _ => s

/-! ### Valve supply -/

/-- The value of a supply event: the filtered value of channel 7, or -1 when it is not VALID (R143). -/
def supplyValue (s : State) : Int :=
  match s.validValue 7 with
  | some v => v
  | none => -1

/-- A judged entry into LOW_SUPPLY, as one act (R143), in the order of the rule's list (DEDUCED, log entry 62). -/
def enterLowSupply (s : State) : State :=
  let s := s.setSupervisor { s.supervisor with
    lowSupply := true, supplyJudged := true, reasonSupply := true, restoreSince := none }
  let s := ((s.raise .supplyLow .critical).logEvent .supplyLow .critical none (some s.supplyValue)).holdPulse
  if s.isRunning then s.leaveRunning .suspended else s

/-- The valve supply state judged at a filtered voltage (R142). -/
def judgeSupply (s : State) (v : Nat) : State :=
  if !s.supervisor.supplyJudged then
    if Fixed.supplyDrop ≤ v then
      (s.setSupervisor { s.supervisor with lowSupply := false, supplyJudged := true }).resumePulse
    else s.enterLowSupply
  else if !s.supervisor.lowSupply then
    if v < Fixed.supplyDrop then s.enterLowSupply else s
  else if Fixed.supplyRecovery ≤ v then
    if s.supervisor.restoreSince.isSome then s
    else s.setSupervisor { s.supervisor with restoreSince := some s.now }
  else s.setSupervisor { s.supervisor with restoreSince := none }

/-- The valve supply state when channel 7 enters FAILED (R142). -/
def supplyChannelFailed (s : State) : State :=
  if !s.supervisor.supplyJudged ∨ !s.supervisor.lowSupply then s.enterLowSupply
  else s.setSupervisor { s.supervisor with restoreSince := none }

/-- The second of steady voltage has passed (R142). -/
def supplySteadyDue (s : State) : Bool :=
  s.supervisor.lowSupply && s.reached (s.supervisor.restoreSince.map (· + Fixed.supplySteady))

/-- The change from LOW_SUPPLY to NORMAL, as one act (R143), in the order of the rule's list (DEDUCED, log entry
62). -/
def restoreSupply (s : State) : State :=
  let s := s.setSupervisor { s.supervisor with
    lowSupply := false, restoreSince := none, reasonSupply := false }
  let s := ((s.clear .supplyLow).logEvent .supplyRestored .advisory none (some s.supplyValue)).resumePulse
  if s.supervisor.control = .suspended ∧ !s.supervisor.reasonCab ∧ !s.reloadRunning then s.enterRunning else s

/-- A reserve state or valve supply state not yet judged when start-up ends (R140, R142, R176), the reserve first
(DESIGN CHOICE, log entry 70). -/
def judgeUnjudged (s : State) : State :=
  let s := if s.supervisor.reserveJudged then s else s.changeReserve .low true
  if s.supervisor.supplyJudged then s else s.enterLowSupply

end State
end Sys2Proof.Machine
end

