-- ==== Sys2Proof/Machine/Estimator.lean ====
section
/-! DEFINITION. The Load Estimator: stages C to H (R45 to R54), the writing of targets (R55, R56) and the
events that recompute a side (R44). -/

namespace Sys2Proof.Machine

/-- The value on the line through two points of a table, rounded (R46, R51). -/
def between (a b : Nat × Nat) (x : Nat) : Nat :=
  roundDiv ((a.2 : Int) * ((b.1 : Int) - a.1) + ((x : Int) - a.1) * ((b.2 : Int) - a.2)).toNat (b.1 - a.1)

/-- The lookup in an ascending table (R46, R51). -/
def interpolate : List (Nat × Nat) → Nat → Nat
  | [], _ => 0
  | [a], _ => a.2
  | a :: b :: rest, x =>
    if x ≤ a.1 then a.2 else if x < b.1 then between a b x else interpolate (b :: rest) x

/-- The lookup of R46 and R51; a free value where the table is not one for which they state a result. -/
def lookup (pts : List (Nat × Nat)) (x : Nat) : Nat :=
  if pts ≠ [] ∧ ascending pts then interpolate pts x else Config.unorderedLookup pts x

/-- The last point's first value. -/
def lastLoad (pts : List (Nat × Nat)) : Nat := ((pts.getLast?).map Prod.fst).getD 0

/-- The stages an event asks for: from C, from E, from F, or G and H. A stage that runs takes the later ones
with it. -/
structure Stages where
  c : Bool
  e : Bool
  f : Bool
  g : Bool
deriving DecidableEq, Repr

/-- C to H. -/
def Stages.fromC : Stages := ⟨true, false, false, false⟩
/-- E to H. -/
def Stages.fromE : Stages := ⟨false, true, false, false⟩
/-- F to H. -/
def Stages.fromF : Stages := ⟨false, false, true, false⟩
/-- G and H. -/
def Stages.fromG : Stages := ⟨false, false, false, true⟩
/-- No stage. -/
def Stages.none : Stages := ⟨false, false, false, false⟩

/-- The stages of two events taken as one. -/
def Stages.join (a b : Stages) : Stages := ⟨a.c || b.c, a.e || b.e, a.f || b.f, a.g || b.g⟩

/-- Stage E runs: C or E is asked for, and the pressure source is LIVE (R44, R50). -/
def Stages.runsE (st : Stages) (source : LoadSource) : Bool := (st.c || st.e) && source = .live

/-- Tyres per side per axle (R49). -/
def tyresPerAxleSide (p : Params) : Nat := if p.p02 = .dual then 2 else 1

namespace State

/-- The height source and the height used of a side (R45). -/
def chosenHeight (s : State) (side : Side) : HeightSource × Nat :=
  match s.validValue (heightChannel side), s.validValue (heightChannel (otherSide side)),
      (s.circuit (sideCircuit side)).target with
  | some h, _, _ => (.own, h)
  | none, some h, _ => (.other, h)
  | none, none, some t => (.target, t)
  | none, none, none => (.ride, s.params.p10)

/-- The number of axles bearing load (R48). -/
def axlesDown (s : State) : Nat :=
  if s.liftFitted ∧ s.position = some .isolated then s.params.p01 - 1 else s.params.p01

/-- Stage C (R45, R46). -/
def stageC (s : State) (side : Side) (r : SideRecord) : SideRecord :=
  let h := s.chosenHeight side
  { r with heightSource := h.1, heightUsed := some h.2, area := some (lookup s.params.p51 h.2) }

/-- Stage D (R47). -/
def stageD (r : SideRecord) : SideRecord :=
  { r with perBellows := some (roundDiv (r.pressure.getD 0 * r.area.getD 0) 100) }

/-- Stage E (R48, R49). -/
def stageE (s : State) (r : SideRecord) : SideRecord :=
  let n := s.axlesDown
  let sprung := n * r.perBellows.getD 0
  let total := sprung + n * s.params.p50
  { r with
    axlesDown := n
    sprung := some sprung
    sideTotal := some total
    perTyre := some (roundDiv total (n * tyresPerAxleSide s.params)) }

/-- Stage F (R51). -/
def stageF (s : State) (load : Nat) (r : SideRecord) : SideRecord :=
  { r with base := some (lookup s.params.p52 load), overload := decide (lastLoad s.params.p52 < load) }

/-- The raised pressure of stage G (R54). -/
def raisedPressure (s : State) (base : Nat) : Nat :=
  if s.estimator.allowance then roundDiv (base * (100 + s.params.p55)) 100 else base

/-- The clamp of stage H: absent while P53 lies above P54 (R54). -/
def clampTarget (s : State) (x : Nat) : Option Nat :=
  if s.params.p53 ≤ s.params.p54 then some (clampNat s.params.p53 s.params.p54 x) else none

/-- Stages G and H (R54). -/
def stageGH (s : State) (base : Nat) (r : SideRecord) : SideRecord :=
  { r with
    allowanceApplied := decide (s.raisedPressure base ≠ base)
    target := s.clampTarget (s.raisedPressure base) }

/-- A side record after the stages asked for, as far as its pressure source lets them run (R44, R50). While
the source is NONE the axle count alone follows stage E (R48). While it is HELD stage E leaves axles down as it is,
at a change of P01 or P03 and at an application too, although R48 and R57 name no exception (R50; DESIGN CHOICE, log
entry 67). -/
def computeRecord (s : State) (side : Side) (st : Stages) (r : SideRecord) : SideRecord :=
  let r := if st.c then s.stageC side r else r
  let r := if st.c ∧ r.source = .live then stageD r else r
  let r :=
    if st.runsE r.source then s.stageE r
    else if st.e ∧ r.source = .noSource then { r with axlesDown := s.axlesDown }
    else r
  let runsF := st.runsE r.source || st.f
  match r.perTyre with
  | none => r
  | some load =>
    let r := if runsF then s.stageF load r else r
    match r.base with
    | none => r
    | some base => if runsF || st.g then s.stageGH base r else r

/-- TYRE_OVERLOAD raised and logged for a side (R52). -/
def raiseOverload (s : State) (side : Side) (load : Nat) : State :=
  (s.raise (.tyreOverload side) .degraded).logEvent .tyreOverload .degraded (some (sideCircuit side)) (some load)

/-- A computed record stored; TYRE_OVERLOAD follows its overload field (R52). -/
def storeRecord (s : State) (side : Side) (r : SideRecord) : State :=
  let was := (s.sideRecord side).overload
  let s := s.setSideRecord side r
  if r.overload ∧ !was ∧ s.isPresent (sideCircuit side) then s.raiseOverload side (r.perTyre.getD 0)
  else if was ∧ !r.overload then s.clear (.tyreOverload side)
  else s

/-- The target a present tyre is to hold: the side's, and while frozen the one it holds if there is one
(R55, R56). -/
def tyreTargetFor (s : State) (t : TyreId) : Option Nat :=
  let r := s.circuit (tyreCircuit t)
  let side := (s.sideRecord (tyreSide s.params t)).target
  if r.frozen ∧ r.target.isSome then r.target else side

/-- The tyres of a side whose record is to take another target (R55). -/
def tyresToWrite (s : State) (side : Side) : List TyreId :=
  allTyres.filter fun t => s.isPresent (tyreCircuit t) && tyreSide s.params t = side &&
    (s.circuit (tyreCircuit t)).target ≠ s.tyreTargetFor t

/-- The target of a tyre written. -/
def writeTyreTarget (s : State) (t : TyreId) : State :=
  s.setCircuit (tyreCircuit t) { s.circuit (tyreCircuit t) with target := s.tyreTargetFor t }

/-- The targets of a side written together, then reported one by one (R55). -/
def writeTargets (s : State) (side : Side) : State :=
  let ts := s.tyresToWrite side
  ts.foldl tyreTargetChanged (ts.foldl writeTyreTarget s)

/-- The record of a side computed and stored. -/
def recomputeRecord (s : State) (side : Side) (st : Stages) : State :=
  s.storeRecord side (s.computeRecord side st (s.sideRecord side))

/-- A side's loads handed on when stage E has run (R49). -/
def handLoads (s : State) (side : Side) (st : Stages) : State :=
  if st.runsE (s.sideRecord side).source then s.liftLoads side (s.sideRecord side) else s

/-- A side computed, as one event (R44): the record, the loads handed on (R49), the targets written (R55). -/
def recompute (s : State) (side : Side) (st : Stages) : State :=
  ((s.recomputeRecord side st).handLoads side st).writeTargets side

/-- Both sides computed, as one event. LEFT goes before RIGHT in each part: both records, both hand-ons, then the
left tyres written and reported before the right ones (DESIGN CHOICE, log entry 44). -/
def recomputeSides (s : State) (st : Stages) : State :=
  let s := (s.recomputeRecord .left st).recomputeRecord .right st
  let s := (s.handLoads .left st).handLoads .right st
  (s.writeTargets .left).writeTargets .right

/-! ### The events of R44 -/

/-- A new filtered value of a side's pressure channel (R44, R47). -/
def estimatePressure (s : State) (side : Side) (p : Nat) : State :=
  (s.setSideRecord side { s.sideRecord side with source := .live, pressure := some p }).recompute side .fromC

/-- A side's pressure channel enters FAILED (R47, R50; log entry 16). -/
def pressureFailed (s : State) (side : Side) : State :=
  if (s.sideRecord side).perTyre.isSome then
    (s.setSideRecord side { s.sideRecord side with source := .held }).liftLoadsHeld side
  else s

/-- A new filtered value of a height channel (R44). The channel's own side is computed, handed on and written whole
before the other side: RIGHT before LEFT for channel 6 (DESIGN CHOICE, log entry 56). -/
def estimateHeight (s : State) (side : Side) : State :=
  let s := s.recompute side .fromC
  if (s.sideRecord (otherSide side)).heightSource = .other then s.recompute (otherSide side) .fromC else s

/-- A side computed when the height source R45 gives it differs from the one recorded. -/
def refreshSource (s : State) (side : Side) : State :=
  if (s.chosenHeight side).1 = (s.sideRecord side).heightSource then s else s.recompute side .fromC

/-- A status change of a height channel (R44), LEFT whole before RIGHT (DESIGN CHOICE, log entry 56). -/
def estimateHeightStatus (s : State) : State := (s.refreshSource .left).refreshSource .right

/-- A side whose height source is TARGET or becomes TARGET computed (R44). -/
def refreshTarget (s : State) (side : Side) : State :=
  if (s.sideRecord side).heightSource = .target ∨ (s.chosenHeight side).1 = .target then s.recompute side .fromC
  else s

/-- A change of the side height target (R44), LEFT whole before RIGHT (DESIGN CHOICE, log entry 56). -/
def estimateTarget (s : State) : State := (s.refreshTarget .left).refreshTarget .right

/-- The target frozen field R56 gives a tyre. -/
def frozenFor (s : State) (t : TyreId) : Bool :=
  s.liftFitted && s.position = some .isolated && tyreAxle s.params t = 1

/-- The present tyres whose target frozen field is to change (R56). -/
def tyresToFreeze (s : State) : List TyreId :=
  allTyres.filter fun t => s.isPresent (tyreCircuit t) && (s.circuit (tyreCircuit t)).frozen ≠ s.frozenFor t

/-- The target frozen field of a tyre set (R56). -/
def writeFrozen (s : State) (t : TyreId) : State :=
  s.setCircuit (tyreCircuit t) { s.circuit (tyreCircuit t) with frozen := s.frozenFor t }

/-- A new debounced position while P03 is FITTED (R44, R48, R56): frozen flags, stages E to H, the targets of
the tyres that thaw, and the changes of the flag told to Tyre Upkeep. All target changes are reported, LEFT then RIGHT,
before the changes of the flag (DESIGN CHOICE, log entry 57). -/
def estimatePosition (s : State) : State :=
  if s.liftFitted then
    let changed := s.tyresToFreeze
    let s := changed.foldl writeFrozen s
    changed.foldl evaluateTyre (s.recomputeSides .fromE)
  else s

/-- Allowance in force as the speed record and P56 give it (R53). -/
def allowanceNow (s : State) : Bool :=
  match s.height.speed with
  | some v => decide (s.params.p56 ≤ v)
  | none => true

/-- Allowance in force replaced. -/
def setAllowance (s : State) (b : Bool) : State := s.setEstimator { s.estimator with allowance := b }

/-- Allowance in force judged; a change runs stages G and H for both sides (R53). -/
def judgeAllowance (s : State) : State :=
  if s.allowanceNow = s.estimator.allowance then s
  else (s.setAllowance s.allowanceNow).recomputeSides .fromG

/-- A frozen target clamped into the tyre bounds (R58). -/
def reclampedTarget (s : State) (t : TyreId) : Option Nat :=
  (s.circuit (tyreCircuit t)).target.bind s.clampTarget

/-- The present frozen tyres whose target the bounds change (R58). -/
def tyresToReclamp (s : State) : List TyreId :=
  allTyres.filter fun t => s.isPresent (tyreCircuit t) && (s.circuit (tyreCircuit t)).frozen &&
    (s.circuit (tyreCircuit t)).target ≠ s.reclampedTarget t

/-- A frozen target replaced by its clamp. -/
def writeReclamped (s : State) (t : TyreId) : State :=
  s.setCircuit (tyreCircuit t) { s.circuit (tyreCircuit t) with target := s.reclampedTarget t }

end State
end Sys2Proof.Machine
end

