-- ==== Sys2Proof/Machine/Sensing.lean ====
section
/-! DEFINITION. The Sensing Block (R21 to R39): conversion, filters, sensor status, trips, and the hand-on of
values and statuses to the blocks that use them (R21, R29, R34). -/

namespace Sys2Proof.Machine

/-- The comparator of a channel (R36). -/
def channelComparator (ch : Channel) : Option ComparatorId :=
  match ch.val with
  | 1 => some .left
  | 2 => some .right
  | 3 => some .lift
  | 4 => some .gallery
  | _ => none

/-- The circuit a trip event carries (R36). -/
def ComparatorId.circuit : ComparatorId → Option CircuitId
  | .left => some 0
  | .right => some 1
  | .lift => some 2
  | .gallery => none

/-- The threshold of a comparator (R36). -/
def ComparatorId.threshold (p : Params) : ComparatorId → Nat
  | .gallery => p.p35
  | _ => p.p34

/-- The side a channel belongs to: 1 and 5 LEFT, 2 and 6 RIGHT (R42). -/
def channelSide (ch : Channel) : Side := if ch.val = 1 ∨ ch.val = 5 then .left else .right

/-- The capacity of a channel's history (R21). -/
def historyCapacity (ch : Channel) : Nat := if ch.val ≤ 4 then 8 else if ch.val ≤ 6 then 128 else 4

/-- A good raw reading (R23). -/
def isGood (raw : RawReading) : Bool :=
  decide (Fixed.goodLowest ≤ raw.toNat) && decide (raw.toNat ≤ Fixed.goodHighest)

/-- A raw count in engineering units (R24). -/
def convert (c : Calibration) (raw : RawReading) : Nat :=
  if c.fullCount ≤ c.zeroCount ∨ raw.toNat < c.zeroCount then 0
  else min c.fullScale (roundDiv ((raw.toNat - c.zeroCount) * c.fullScale) (c.fullCount - c.zeroCount))

/-- The rounded mean of a list of values (R27, R28). -/
def meanOf (xs : List Nat) : Option Nat := if xs = [] then none else some (roundDiv xs.sum xs.length)

namespace State

/-- The readings a filtered value is taken over: the whole history, and for a height channel the window of the
height mode (R27, R28). -/
def window (s : State) (ch : Channel) : Nat :=
  if ch.val = 5 ∨ ch.val = 6 then (if s.height.mode = .ride then s.params.p19 else s.params.p20)
  else historyCapacity ch

/-- The filtered value of a history under the running calibration and window (R27, R28). -/
def filter (s : State) (ch : Channel) (history : List RawReading) : Option Nat :=
  meanOf ((history.take (s.window ch)).map (convert s.params.p96[ch.val]))

/-! ### Receivers -/

/-- The measured field of a present side or of LIFT follows its channel (R6). -/
def followMeasured (s : State) (c : CircuitId) (v : Option Nat) : State :=
  if s.isPresent c then s.setCircuit c { s.circuit c with measured := v } else s

/-- Neither height channel is VALID (R112). -/
def heightsLost (s : State) : Bool := !s.isValid 5 && !s.isValid 6

/-- A side when HEIGHT_LOST is raised: its waiting demand is withdrawn and its pending direction ends
(R112). -/
def loseSide (s : State) (side : Side) : State :=
  let s := s.withdraw (sideCircuit side)
  s.setSideControl side { s.sideControl side with pendingDir := none, pendingSince := none, expiry := none }

/-- HEIGHT_LOST judged (R112). -/
def judgeHeightLost (s : State) : State :=
  if s.heightsLost then
    if s.isActive .heightLost then s
    else (((s.logEvent .heightLost .critical none none).raise .heightLost .critical).loseSide .left).loseSide .right
  else s.clear .heightLost

/-- A filtered height at the Height Controller: the side's own evaluation, and then the other side's while this is
its evaluation height (R115). The order of the two is DESIGN CHOICE (log entry 56). -/
def evaluateHeight (s : State) (side : Side) : State :=
  let s := s.evaluateSide side
  if s.isValid (heightChannel (otherSide side)) then s else s.evaluateSide (otherSide side)

/-- A new filtered value at its receivers (R21, R29). A height is taken by the Circuit Table, then by the Load
Estimator with all that follows there, then by the Height Controller (DESIGN CHOICE, log entry 51); a reservoir value
by the Supervisor before the scheduler (DESIGN CHOICE, log entry 29). -/
def handValue (s : State) (ch : Channel) (v : Nat) : State :=
  match ch.val with
  | 0 =>
    let s := s.judgeReserve v
    if s.fillWaits then s.pass else s
  | 1 => s.estimatePressure .left v
  | 2 => s.estimatePressure .right v
  | 3 => (s.followMeasured liftCircuit (some v)).evaluateLift
  | 4 => s
  | 5 => ((s.followMeasured 0 (some v)).estimateHeight .left).evaluateHeight .left
  | 6 => ((s.followMeasured 1 (some v)).estimateHeight .right).evaluateHeight .right
  | _ => s.judgeSupply v

/-- The status of a height channel at its receivers (R44, R112, R115). HEIGHT_LOST is judged once start-up has
ended. The Load Estimator comes first, then HEIGHT_LOST, then the evaluations of the sides (DESIGN CHOICE, log entry
52). -/
def handHeightStatus (s : State) (side : Side) : State :=
  let s := if s.isValid (heightChannel side) then s else s.followMeasured (sideCircuit side) none
  let s := s.estimateHeightStatus
  let s := if s.supervisor.control = .starting then s else s.judgeHeightLost
  s.evaluateSides

/-- A status change at its receivers (R21, R34). -/
def handStatus (s : State) (ch : Channel) : State :=
  let failed := !s.isValid ch
  match ch.val with
  | 0 => if failed then s.reserveChannelFailed else s
  | 1 => if failed then s.pressureFailed .left else s
  | 2 => if failed then s.pressureFailed .right else s
  | 3 => (if failed then s.followMeasured liftCircuit none else s).evaluateLift
  | 4 => s.evaluateTyres
  | 5 => s.handHeightStatus .left
  | 6 => s.handHeightStatus .right
  | _ => if failed then s.supplyChannelFailed else s

/-! ### Trip comparators -/

/-- A comparator trips (R36), its effects in the order of the rule's list (DEDUCED, log entry 62). -/
def trip (s : State) (k : ComparatorId) (v : Nat) : State :=
  ((s.setComparator k ⟨true, 0⟩).logEvent .overpressureTrip .degraded k.circuit (some v)).tripCut k

/-- A converted good reading offered to a comparator (R36, R37). -/
def offerTrip (s : State) (k : ComparatorId) (v : Nat) : State :=
  let x := s.comparator k
  let threshold := k.threshold s.params
  if x.tripped then
    if v + Fixed.tripHysteresis < threshold then
      s.setComparator k (if x.count + 1 = 2 then ⟨false, 0⟩ else ⟨true, x.count + 1⟩)
    else s.setComparator k ⟨true, 0⟩
  else if threshold ≤ v then
    if x.count + 1 = 2 then s.trip k v else s.setComparator k ⟨false, x.count + 1⟩
  else s.setComparator k ⟨false, 0⟩

/-- A good reading offered to the comparator of its channel, unless the channel is FAILED (R36). -/
def offerReading (s : State) (ch : Channel) (raw : RawReading) : State :=
  match channelComparator ch with
  | some k =>
    if (s.channel ch).status = .failed then s else s.offerTrip k (convert s.params.p96[ch.val] raw)
  | none => s

/-- The comparator of a channel returned to CLEAR (R32, R35, R37). -/
def clearComparator (s : State) (ch : Channel) : State :=
  match channelComparator ch with
  | some k => s.setComparator k Comparator.initial
  | none => s

/-! ### Readings -/

/-- The status after a good reading whose good run is `run` (R30). -/
def statusAfterGood (st : SensorStatus) (run : Nat) : SensorStatus :=
  match st with
  | .unknown => if Fixed.fillingRun ≤ run then .valid else .unknown
  | .valid => .valid
  | .failed => if Fixed.recoveryRun ≤ run then .valid else .failed

/-- A channel after a good reading (R26, R27, R28, R30, R31, R33). -/
def channelAfterGood (s : State) (ch : Channel) (raw : RawReading) : AnalogChannel :=
  let x := s.channel ch
  let history := (raw :: x.history).take (historyCapacity ch)
  let run := min Fixed.recoveryRun (x.goodRun + 1)
  let status := statusAfterGood x.status run
  { x with
    history := history
    filtered := if status = .failed then x.filtered else s.filter ch history
    status := status
    badScore := x.badScore - 1
    goodRun := if status = x.status then run else 0 }

/-- The event and the condition of a channel that has become VALID (R33, R34), before its status and its value are
handed on (DESIGN CHOICE, log entry 55). -/
def reportValid (s : State) (ch : Channel) (was : SensorStatus) : State :=
  if was = .failed then
    (s.logEvent .sensorRestored .advisory (channelCircuit ch) (some ch.val)).clear (.sensorFailed ch)
  else s

/-- The current filtered value handed on while the channel is VALID (R29). -/
def handCurrent (s : State) (ch : Channel) : State :=
  match s.validValue ch with
  | some v => s.handValue ch v
  | none => s

/-- A good reading handled: comparator, history, filter, status, hand-on (R22, R29 to R33). The comparator before the
filter, and the status handed on before the value, are DESIGN CHOICE (log entry 29); so is SENSOR_RESTORED logged before
either is handed on (log entry 55). -/
def goodReading (s : State) (ch : Channel) (raw : RawReading) : State :=
  let s := s.offerReading ch raw
  let was := (s.channel ch).status
  let s := s.setChannel ch (s.channelAfterGood ch raw)
  let s := if (s.channel ch).status = was then s else (s.reportValid ch was).handStatus ch
  s.handCurrent ch

/-- A channel enters FAILED (R32, R34). The event and the condition come before the receivers (DESIGN CHOICE, log
entry 29). -/
def failChannel (s : State) (ch : Channel) : State :=
  let s := s.setChannel ch { s.channel ch with history := [], status := .failed, badScore := 0, goodRun := 0 }
  let s := s.clearComparator ch
  let s := (s.logEvent .sensorFailed (sensorSeverity ch) (channelCircuit ch) (some ch.val)).raise (.sensorFailed ch)
    (sensorSeverity ch)
  s.handStatus ch

/-- A bad reading handled (R23, R30, R33). -/
def badReading (s : State) (ch : Channel) : State :=
  let x := s.channel ch
  if x.status = .failed then s.setChannel ch { x with history := [], goodRun := 0 }
  else if Fixed.badScoreLimit ≤ x.badScore + 2 then s.failChannel ch
  else s.setChannel ch { x with badScore := x.badScore + 2, goodRun := 0 }

/-- A channel is judged: every channel but 3, and 3 while a lift axle is fitted (R21). -/
def isJudged (s : State) (ch : Channel) : Bool := ch.val ≠ 3 || s.liftFitted

/-- A raw reading taken (R22). -/
def takeReading (s : State) (ch : Channel) (raw : RawReading) : State :=
  let s := s.setChannel ch { s.channel ch with lastRaw := some raw }
  if s.isJudged ch then (if isGood raw then s.goodReading ch raw else s.badReading ch) else s

/-! ### Changes that reach a channel -/

/-- A channel's filtered value computed again from its history at a change of its calibration or window (R25,
R28). -/
def recomputeChannel (s : State) (ch : Channel) : State :=
  let x := s.channel ch
  match x.status with
  | .failed => s
  | .unknown => s.setChannel ch { x with filtered := s.filter ch x.history }
  | .valid => (s.setChannel ch { x with filtered := s.filter ch x.history }).handCurrent ch

/-- Both height channels computed again at a change of window (R28): channel 5 is computed and handed on whole before
channel 6 is computed (DESIGN CHOICE, log entry 53). -/
def recomputeHeights (s : State) : State := (s.recomputeChannel 5).recomputeChannel 6

/-- Channel 3 brought into or out of judging by a change of P03 (R35). -/
def resetLiftChannel (s : State) : State :=
  let s := s.setChannel 3 { AnalogChannel.initial with lastRaw := (s.channel 3).lastRaw }
  let s := (s.setComparator .lift Comparator.initial).clear (.sensorFailed 3)
  s.followMeasured liftCircuit none

/-! ### Discrete inputs -/

/-- A change of either ramp contact (R38). -/
def changeContacts (s : State) (noClosed ncClosed : Bool) : State :=
  let x := s.sensing.ramp
  let candidate := rampCandidate noClosed ncClosed
  s.setSensing { s.sensing with
    ramp := { x with
      noClosed := noClosed
      ncClosed := ncClosed
      candidate := candidate
      since := if candidate = x.candidate then x.since else s.now } }

/-- A change of the position switch (R39). -/
def changePosition (s : State) (pos : Position) : State :=
  let x := s.sensing.position
  s.setSensing { s.sensing with
    position := { x with raw := pos, since := if pos = x.raw then x.since else s.now } }

/-- The ramp candidate has held and is to become a new debounced reading (R38). -/
def rampDue (s : State) : Bool :=
  decide (s.sensing.ramp.since + Fixed.rampHold ≤ s.now) && s.sensing.ramp.debounced ≠ some s.sensing.ramp.candidate

/-- The position candidate has held and is to become a new debounced position (R39). -/
def positionDue (s : State) : Bool :=
  decide (s.sensing.position.since + Fixed.positionHold ≤ s.now) &&
    s.sensing.position.debounced ≠ some s.sensing.position.raw

/-- The switch in progress is being watched for its position (R17). -/
def watching (s : State) : Bool :=
  s.driver.isolation.switch = .pulsing || s.driver.isolation.switch = .checking

/-- A new debounced position at the Valve Driver: it ends the switch whose position it reads, and the Lift Axle
Controller is told SWITCHED in the same act (R17), before the position goes on to the blocks that R39 names after
the driver (log entry 15). -/
def watchPosition (s : State) : State :=
  if s.watching ∧ s.position = s.driver.isolation.commanded then s.endSwitch.liftSwitched else s

/-- A new debounced position handed to the Valve Driver, the Load Estimator and the Lift Axle Controller, in the
order in which R39 names them (DESIGN CHOICE, log entry 15). -/
def takePosition (s : State) : State :=
  let pos := s.sensing.position.raw
  let s := s.setSensing { s.sensing with position := { s.sensing.position with debounced := some pos } }
  (s.watchPosition.estimatePosition).liftPosition pos

end State
end Sys2Proof.Machine
end

