-- ==== Sys2Proof/Machine/HeightControl.lean ====
section
/-! DEFINITION. The Height Controller: modes and target (R105 to R107), ramp and speed (R108 to R111). -/

namespace Sys2Proof.Machine

/-- The mode a code names (R104). -/
def modeOf (b : Byte) : Option HeightMode :=
  match b.toNat with
  | 0 => some .ride
  | 1 => some .dock
  | 2 => some .custom
  | _ => none

namespace State

/-- The target the mode gives, clamped into [P12, P13] (R105). -/
def formedTarget (s : State) : Nat :=
  clampNat s.params.p12 s.params.p13 (match s.height.mode with
    | .ride => s.params.p10
    | .dock => s.params.p11
    | .custom => s.height.customHeight)

/-- The height target written into a side's record if it is present (R105). -/
def writeSideTarget (s : State) (side : Side) : State :=
  if s.isPresent (sideCircuit side) then
    s.setCircuit (sideCircuit side) { s.circuit (sideCircuit side) with target := s.height.target }
  else s

/-- Target changed yes and at limit no for a side (R105). -/
def markTargetChanged (s : State) (side : Side) : State :=
  s.setSideControl side { s.sideControl side with targetChanged := true, atLimit := false }

/-- The target formed afresh; a target change is taken as one act (R105), in the order of the rule's list (DEDUCED, log
entry 62). -/
def formTarget (s : State) : State :=
  if s.height.target = some s.formedTarget then s
  else
    let s := s.setHeight { s.height with target := some s.formedTarget }
    let s := ((s.writeSideTarget .left).writeSideTarget .right).estimateTarget
    ((s.markTargetChanged .left).markTargetChanged .right).evaluateSides

/-- The mode told to the Lift Axle Controller (R106, R120, R121). -/
def tellLiftMode (s : State) : State :=
  if s.height.mode = .ride then s.testDwell else (s.lower .lift).testDwell

/-- A change of height mode (R106, R28, R105, R115). The window counts as changed when the number of readings it
spans differs: between RIDE and the other modes with P19 equal to P20 nothing is computed again or handed on
(DESIGN CHOICE, log entry 42). The effects follow the list of R106, and the evaluation of R115 comes last (DEDUCED, log
entry 62). -/
def changeMode (s : State) (m : HeightMode) : State :=
  let windowWas := s.window 5
  let s := (s.setHeight { s.height with mode := m }).logEvent .modeChanged .advisory none (some m.code)
  let s := if s.window 5 = windowWas then s else s.recomputeHeights
  (s.tellLiftMode.formTarget).evaluateSides

/-- A taken request for a mode: the mode already held changes nothing, and in CUSTOM the target is formed
afresh (R106). -/
def takeMode (s : State) (m : HeightMode) : State :=
  if s.height.mode ≠ m then s.changeMode m else if m = .custom then s.formTarget else s

/-- A taken request for CUSTOM at a height already clamped (R106, R107). -/
def takeCustom (s : State) (h : Nat) : State := (s.setHeight { s.height with customHeight := h }).takeMode .custom

/-- The speed is unknown, or at or above P21 (R106, R110). -/
def moving (s : State) : Bool :=
  match s.height.speed with
  | some v => decide (s.params.p21 ≤ v)
  | none => true

/-- The interlock on a mode (R106). -/
def modeInterlocked (s : State) (m : HeightMode) : Bool := s.height.ramp ≠ .up || (m ≠ .ride && s.moving)

/-- The SET_MODE request (R106). -/
def answerSetMode (s : State) (mode : Byte) (height : Option Word) : Answer × State :=
  match modeOf mode with
  | none => (.refused .badArgument, s)
  | some .custom => match height with
    | none => (.refused .badArgument, s)
    | some h =>
      if s.modeInterlocked .custom then (.refused .interlocked, s)
      else
        let x := clampNat s.params.p12 s.params.p13 h.toNat
        (.taken (x ≠ h.toNat) [], s.takeCustom x)
  | some m => if s.modeInterlocked m then (.refused .interlocked, s) else (.done [], s.takeMode m)

/-- The STEP_HEIGHT request (R107). -/
def answerStepHeight (s : State) (step : Byte) : Answer × State :=
  if step.toInt = 0 ∨ Fixed.largestStep < step.toInt ∨ step.toInt < -Fixed.largestStep then
    (.refused .badArgument, s)
  else if s.modeInterlocked .custom then (.refused .interlocked, s)
  else match s.height.target with
    | none => (.refused .badConfig, s)
    | some t =>
      let wanted := (t : Int) + step.toInt
      let x := clampInt s.params.p12 s.params.p13 wanted
      (.taken (x ≠ wanted) [], s.takeCustom x.toNat)

/-! ### Ramp and speed -/

/-- The return to ride checked (R110). -/
def returnToRide (s : State) : State :=
  if s.height.mode ≠ .ride ∧ s.height.ramp = .up ∧ s.moving then s.changeMode .ride else s

/-- The test of RAMP_AT_SPEED (R111). -/
def rampAtSpeed (s : State) : Bool :=
  s.height.rampRead && s.height.ramp ≠ .up &&
    match s.height.speed with
    | some v => decide (Fixed.rampSpeed < v)
    | none => true

/-- RAMP_AT_SPEED judged (R111). -/
def judgeRampAtSpeed (s : State) : State :=
  if s.rampAtSpeed then
    if s.isActive .rampAtSpeed then s
    else (s.raise .rampAtSpeed .critical).logEvent .rampAtSpeed .critical none
      (some ((s.height.speed.map Int.ofNat).getD (-1)))
  else s.clear .rampAtSpeed

/-- The effects of a change of ramp state (R108), in the order of its table (DEDUCED, log entry 62). -/
def rampEffects (s : State) (st : RampState) : State :=
  match st with
  | .up => (((s.clear .rampSense).returnToRide).judgeRampAtSpeed).testDwell
  | .down => (((s.clear .rampSense).judgeRampAtSpeed).lower .safety).testDwell
  | .unknown =>
    ((((s.raise .rampSense .degraded).logEvent .rampSense .degraded none none).judgeRampAtSpeed).lower
      .safety).testDwell

/-- A debounced ramp reading at the Height Controller (R108). -/
def takeRamp (s : State) (st : RampState) : State :=
  let changed := !s.height.rampRead || s.height.ramp ≠ st
  let s := s.setHeight { s.height with rampRead := true, ramp := st }
  if changed then (s.logEvent .rampChanged .advisory none (some st.code)).rampEffects st else s

/-- A new debounced ramp reading (R38). -/
def takeDebouncedRamp (s : State) : State :=
  let st := s.sensing.ramp.candidate
  (s.setSensing { s.sensing with ramp := { s.sensing.ramp with debounced := some st } }).takeRamp st

/-- The speed record replaced, and what the controller does at each SPEED taken and each ageing out (R109), in the order
of the rule's list (DEDUCED, log entry 62). -/
def takeSpeed (s : State) (v : Option Nat) (mark : Option Nat) : State :=
  let changed := s.height.speed ≠ v
  let s := s.setHeight { s.height with speed := v, speedMark := mark }
  let s := if changed then s.judgeAllowance else s
  s.returnToRide.judgeRampAtSpeed

/-- The SPEED request (R109). -/
def answerSpeed (s : State) (kmh : Byte) : Answer × State :=
  (.taken (Fixed.speedLimit < kmh.toNat) [], s.takeSpeed (some (min Fixed.speedLimit kmh.toNat)) (some s.now))

/-- The speed age has passed (R109). -/
def speedAged (s : State) : Bool :=
  s.height.speed.isSome && s.reached (s.height.speedMark.map (· + s.params.p91))

/-- The speed becomes unknown when its age has passed (R109). -/
def ageSpeed (s : State) : State := if s.speedAged then s.takeSpeed none none else s

end State
end Sys2Proof.Machine
end

