-- ==== Sys2Proof/Machine/LinkState.lean ====
section
/-! DEFINITION. The Transmit Queue (R157), the link state (R160), summary due (R159), and the blocks of data that
STATUS, SUMMARY and the READ requests carry (R162). -/

namespace Sys2Proof.Machine

/-- A queued telegram is a notice. -/
def Telegram.isNotice (t : Telegram) : Bool := t.cls = .notice

/-- The oldest notice of a list removed (R157). -/
def dropOldestNotice : List Telegram → List Telegram
  | [] => []
  | t :: rest => if t.isNotice then rest else t :: dropOldestNotice rest

/-- A presence-bit field: the value in two bytes, 0 when absent (R162). -/
def optional2 (x : Option Nat) : List Byte := bytes2 (x.getD 0)

/-- A time in four bytes, held at FFFFFFFFh, 0 when absent (R162). -/
def optional4 (x : Option Nat) : List Byte := bytes4 (min 0xFFFFFFFF (x.getD 0))

/-- The sum of a list of numbers. -/
def sumOf (xs : List Nat) : Nat := xs.foldl (· + ·) 0

namespace State

/-! ### The Transmit Queue -/

/-- The Transmit Queue replaced. -/
def setQueue (s : State) (q : List Telegram) : State := s.setLink { s.link with queue := q }

/-- A place for the reply secured, or none when none can be found (R157). The telegram at the head is being
sent (log entry 10). -/
def securePlace (s : State) : Option State :=
  match s.link.queue with
  | [] => some (s.setLink { s.link with secured := true })
  | sending :: rest =>
    if s.link.queue.length < Fixed.transmitPlaces then some (s.setLink { s.link with secured := true })
    else if rest.any Telegram.isNotice then
      some (s.setLink { s.link with queue := sending :: dropOldestNotice rest, secured := true })
    else none

/-- The reply put into the secured place (R153 step 6). -/
def placeReply (s : State) (t : Telegram) : State :=
  s.setLink { s.link with queue := s.link.queue ++ [t], secured := false }

/-- The notices removed, but for one being sent (R157). -/
def dropNotices (s : State) : State :=
  match s.link.queue with
  | [] => s
  | sending :: rest => s.setQueue (sending :: rest.filter fun t => !t.isNotice)

/-! ### The link state -/

/-- Summary due set from the present internal time, or absent while P92 is 0 (R159). -/
def startSummary (s : State) : State :=
  s.setLink { s.link with
    summaryDue := if s.params.p92 = 0 then none else some (s.now + s.params.p92 * 1000) }

/-- LINK_LOST cleared and LINK_RESTORED logged when the link has been seen before (R160). -/
def reportRestored (s : State) (seenBefore : Bool) : State :=
  if seenBefore then (s.clear .linkLost).logEvent .linkRestored .advisory none none else s

/-- Step 1 of R153: last valid, link seen, and the link state UP with the effects of R160. -/
def linkHeard (s : State) : State :=
  let wasUp := s.link.up
  let seenBefore := s.link.seen
  let s := s.setLink { s.link with lastValid := some s.now, seen := true, up := true }
  if wasUp then s else (s.reportRestored seenBefore).startSummary

/-- The link timeout has passed since last valid (R160). -/
def linkTimedOut (s : State) : Bool := s.link.up && s.reached (s.link.lastValid.map (· + s.params.p90))

/-- The link state becomes LOST (R160). -/
def loseLink (s : State) : State :=
  let s := s.setLink { s.link with up := false, summaryDue := none }
  ((s.raise .linkLost .degraded).logEvent .linkLost .degraded none (some s.params.p90)).dropNotices

/-- The link judged against the timeout (R160). -/
def judgeLink (s : State) : State := if s.linkTimedOut then s.loseLink else s

/-! ### Blocks of data -/

/-- The lift state code: FFh while not reconciled (R116, R162). -/
def liftByte (s : State) : Byte := if s.lift.reconciled then byteOf s.lift.state.code else 0xFF#8

/-- The code of the boot code, FFh before the first load ends (R175). -/
def bootByte (s : State) : Byte :=
  match s.startUp.bootCode with
  | some b => byteOf b.code
  | none => 0xFF#8

/-- The valve fault flags: bit n - 1 for valve n (R162). -/
def faultBits (s : State) : Nat := sumOf (allValves.map fun v => bitAt v.val (s.valve v).fault)

/-- The head demand of the status block (R79, R162). While none waits the circuit is FFh and the other three bytes
are 0 (DESIGN CHOICE, log entry 69). -/
def headDemand (s : State) : List Byte :=
  match s.scheduler.demands with
  | d :: _ => [byteOf d.circuit.val, byteOf d.action.code, byteOf d.cls.number, byteOf d.reason.code]
  | [] => [0xFF#8, 0#8, 0#8, 0#8]

/-- The control reply data (R162). -/
def controlData (s : State) : List Byte :=
  [byteOf s.supervisor.control.code,
   byteOf (bitAt 0 s.supervisor.reasonCab + bitAt 1 s.supervisor.reasonSupply)]

/-- The status block (R156, R162). -/
def statusBlock (s : State) : List Byte :=
  [byteOf s.supervisor.control.code,
   byteOf (bitAt 0 s.supervisor.reasonCab + bitAt 1 s.supervisor.reasonSupply +
     bitAt 2 s.supervisor.reserveJudged + bitAt 3 s.supervisor.supplyJudged),
   byteOf s.supervisor.reserve.code, byteOf (bitAt 0 s.supervisor.lowSupply),
   byteOf s.height.mode.code, byteOf (s.height.ramp.code + bitAt 7 s.height.rampRead),
   (match s.height.speed with
    | some v => byteOf v
    | none => 0xFF#8),
   s.liftByte, byteOf (if s.params.p84 = .auto then 1 else 0),
   byteOf s.scheduler.demands.length, circuitByte s.scheduler.supply, circuitByte s.scheduler.gallery] ++
  s.headDemand ++ [byteOf s.engine.length] ++ bytes3 s.faultBits ++
  [byteOf s.driver.lamp.state.code, byteOf s.events.detected.toNat, byteOf s.events.queue.length,
   byteOf (bitAt 0 s.events.overrun), s.bootByte] ++ bytes4 s.events.timeTag.toNat

/-- The place of a circuit's demand in the list, 1 for the head (R79). -/
def placeOf (s : State) (c : CircuitId) : Nat := s.scheduler.demands.findIdx (fun d => d.circuit == c) + 1

/-- The demand part of a WAITING circuit (R79). -/
def demandPart (s : State) (c : CircuitId) : Option (List Byte) :=
  if (s.circuit c).state = .waiting then
    (s.demandOf c).map fun d =>
      [byteOf d.action.code, byteOf d.cls.number, byteOf d.reason.code, byteOf (s.placeOf c)] ++
        bytes2 (min 65535 (s.since d.mark / 1000))
  else none

/-- The transaction part of an ACTIVE circuit (R103). -/
def transactionPart (s : State) (c : CircuitId) : Option (List Byte) :=
  if (s.circuit c).state = .active then
    (s.transactionOn c).map fun t =>
      [byteOf t.kind.code, byteOf t.kind.direction.code, byteOf t.phase.code] ++ bytes2 (t.phaseEnd - s.now) ++
        bytes2 (t.pulseTime.getD 0xFFFF) ++ [byteOf (bitAt 0 t.holdsSupply + bitAt 1 t.holdsGallery)]
  else none

/-- The items of Tyre Upkeep of a circuit; those of a side or of LIFT are all no. -/
def itemsOf (s : State) (c : CircuitId) : TyreItems :=
  match circuitTyre c with
  | some t => s.tyre t
  | none => TyreItems.initial

/-- The circuit block (R2, R162). -/
def circuitBlock (s : State) (c : CircuitId) : List Byte :=
  let r := s.circuit c
  let x := s.itemsOf c
  [byteOf c.val, byteOf (circuitKind c).code, byteOf r.state.code,
   byteOf (bitAt 0 r.measured.isSome + bitAt 1 r.readMark.isSome + bitAt 2 r.target.isSome +
     bitAt 3 r.leakRate.isSome + bitAt 4 r.previousProbe.isSome + bitAt 5 r.holdoffEnd.isSome +
     bitAt 6 (s.demandPart c).isSome + bitAt 7 (s.transactionPart c).isSome),
   byteOf (bitAt 0 r.frozen + bitAt 1 r.probeDue + bitAt 2 x.leaking + bitAt 3 x.low + bitAt 4 x.watch +
     bitAt 5 x.cause.isSome)] ++
  optional2 r.measured ++ optional4 (r.readMark.map s.since) ++ optional2 r.target ++
  [byteOf r.strikes, byteOf r.lastOutcome.code] ++ optional2 (r.holdoffEnd.map (· - s.now)) ++
  optional2 r.leakRate ++ optional2 (r.previousProbe.map Probe.pressure) ++
  optional4 (r.previousProbe.map fun q => s.since q.mark) ++
  [byteOf ((x.cause.map IsolationCause.code).getD 0)] ++
  (s.demandPart c).getD [0#8, 0#8, 0#8, 0#8, 0#8, 0#8] ++
  (s.transactionPart c).getD [0#8, 0#8, 0#8, 0#8, 0#8, 0#8, 0#8, 0#8] ++ [0#8]

/-- The number of a side (R162). -/
def sideNumber : Side → Nat
  | .left => 0
  | .right => 1

/-- The side block (R59, R162). -/
def sideBlock (s : State) (side : Side) : List Byte :=
  let r := s.sideRecord side
  [byteOf (sideNumber side)] ++
  bytes2 (bitAt 0 r.heightUsed.isSome + bitAt 1 r.area.isSome + bitAt 2 r.pressure.isSome +
    bitAt 3 r.perTyre.isSome + bitAt 4 r.base.isSome + bitAt 5 r.target.isSome + bitAt 8 r.overload +
    bitAt 9 r.allowanceApplied + bitAt 10 s.estimator.allowance) ++
  [byteOf r.heightSource.code, byteOf r.source.code] ++ optional2 r.heightUsed ++ optional2 r.area ++
  optional2 r.pressure ++ optional2 r.perBellows ++ [byteOf r.axlesDown] ++ optional2 r.sprung ++
  optional2 r.sideTotal ++ optional2 r.perTyre ++ optional2 r.base ++ optional2 r.target

/-- All channels, in order. -/
def allChannels : List Channel := [0, 1, 2, 3, 4, 5, 6, 7]

/-- The five bytes of a channel in the sensor block (R162). -/
def channelBytes (s : State) (ch : Channel) : List Byte :=
  let x := s.channel ch
  bytes2 (bitAt 15 x.lastRaw.isSome + x.status.code * 4096 + ((x.lastRaw.map BitVec.toNat).getD 0)) ++
  bytes2 (bitAt 15 x.filtered.isSome + (min 15 x.badScore) * 2048 + (x.filtered.getD 0) % 2048) ++
  [byteOf ((x.badScore - 15) * 32 + x.goodRun)]

/-- The sensor block (R41, R162). -/
def sensorBlock (s : State) : List Byte :=
  allChannels.flatMap s.channelBytes ++
  [byteOf (bitAt 0 (s.comparator .left).tripped + bitAt 1 (s.comparator .right).tripped +
     bitAt 2 (s.comparator .lift).tripped + bitAt 3 (s.comparator .gallery).tripped),
   byteOf (bitAt 0 s.sensing.ramp.noClosed + bitAt 1 s.sensing.ramp.ncClosed +
     s.sensing.ramp.candidate.code * 4 + ((s.sensing.ramp.debounced.map RampState.code).getD 0) * 16 +
     bitAt 6 s.sensing.ramp.debounced.isSome),
   byteOf (bitAt 0 (s.sensing.position.raw = .isolated) +
     bitAt 1 (s.sensing.position.debounced = some .isolated) + bitAt 2 s.sensing.position.debounced.isSome)]

/-- The summary block (R159, R162). A height or reservoir value whose channel is not VALID is marked so, and its
bytes are 0. -/
def summaryBlock (s : State) : List Byte :=
  [byteOf (bitAt 0 (s.isValid 5) + bitAt 1 (s.isValid 6) + bitAt 2 (s.isValid 0)),
   byteOf s.height.mode.code, s.liftByte] ++
  optional2 (s.validValue 5) ++ optional2 (s.validValue 6) ++ optional2 (s.validValue 0) ++
  [byteOf s.supervisor.control.code, byteOf (s.driver.lamp.state.code + s.events.detected.toNat * 16)]

/-- A SUMMARY offered, and summary due advanced by P92 (R159). -/
def offerSummary (s : State) : State :=
  (s.offerNotice 0x51#8 s.summaryBlock).setLink
    { (s.offerNotice 0x51#8 s.summaryBlock).link with
      summaryDue := s.link.summaryDue.map (· + s.params.p92 * 1000) }

/-- Summary due has been reached (R159). -/
def summaryReached (s : State) : Bool := s.reached s.link.summaryDue

end State
end Sys2Proof.Machine
end

