-- ==== Sys2Proof/Machine/Configuration.lean ====
section
/-! DEFINITION. The configuration at work: its application to the Circuit Table (R5 to R7, R57), the change of
the running configuration as one change (R58, R170, R175), and the requests that read and write it (R161, R170,
R117). -/

namespace Sys2Proof.Machine

/-! ### Forms of the parameters (R161) -/

/-- The three bytes of a table point: its first value in the top 13 bits, its second in the low 11 (R161). -/
def pointBytes (pt : Nat × Nat) : List Byte := bytes3 (pt.1 * 2048 + pt.2)

/-- The points of a table from their bytes (R161). -/
def readPoints : List Byte → List (Nat × Nat)
  | a :: b :: c :: rest =>
    let n := a.toNat * 65536 + nat2 b c
    (n / 2048, n % 2048) :: readPoints rest
  | _ => []

/-- A parameter's number and value in the form of R161; `ch` is the channel of P96. -/
def paramBytes (p : Params) (n : Nat) (ch : Channel) : List Byte :=
  byteOf n ::
    (if n = 51 ∨ n = 52 then (getTable n p).flatMap pointBytes
     else if n = 96 then
       byteOf ch.val :: (bytes2 p.p96[ch.val].zeroCount ++ bytes2 p.p96[ch.val].fullCount ++
         bytes2 p.p96[ch.val].fullScale)
     else signed2 (readWord n p))

/-- The channel a byte names (R161). -/
def channelOf (b : Byte) : Option Channel := if h : b.toNat < 8 then some ⟨b.toNat, h⟩ else none

/-- A value of P10, P11 or P14 clamped into [P12, P13] (R170 step 4). -/
def clampHeights (n : Nat) (p : Params) : Params :=
  match n with
  | 10 => { p with p10 := clampNat p.p12 p.p13 p.p10 }
  | 11 => { p with p11 := clampNat p.p12 p.p13 p.p11 }
  | 14 => { p with p14 := clampNat p.p12 p.p13 p.p14 }
  | _ => p

/-- A calibration written (R170 step 2): the configuration with it, and whether a clamp moved a value. -/
def writeCalibration (ch : Channel) (c : Calibration) (p : Params) : Params × Bool :=
  ({ p with p96 := p.p96.set ch.val (clampCalibration ch c) }, clampCalibration ch c ≠ c)

/-- Steps 1 to 3 of R170 after the code tests of R161: the proposed configuration, the channel of P96, and whether
a value was moved. `running` is whether the control state is RUNNING. -/
def propose (p : Params) (running : Bool) (n : Nat) (value : List Byte) : Except Reason (Params × Channel × Bool) :=
  if n = 51 ∨ n = 52 then
    if running then .error .notSuspended
    else
      let pts := readPoints value
      let clamped := pts.map (clampPoint n)
      if tableSound n clamped then .ok (setTable n clamped p, 0, clamped ≠ pts) else .error .badArgument
  else match value with
    | [hi, lo] => match writeWord n (word2 hi lo) p with
      | none => .error .badArgument
      | some (p', moved) => if isGuarded n ∧ running then .error .notSuspended else .ok (p', 0, moved)
    | [ch, a, b, c, d, e, f] => match channelOf ch with
      | none => .error .badArgument
      | some ch =>
        let r := writeCalibration ch ⟨nat2 a b, nat2 c d, nat2 e f⟩ p
        .ok (r.1, ch, r.2)
    | _ => .error .badLength

/-- Steps 4 and 5 of R170. -/
def acceptProposal (p : Params) (running : Bool) (n : Nat) (q : Params × Channel × Bool) :
    Except Reason (Params × Channel × Bool) :=
  let p' := if running then clampHeights n q.1 else q.1
  if consistent p ∧ !consistent p' then .error .badConfig else .ok (p', q.2.1, q.2.2 || p' ≠ q.1)

/-! ### Presence (R5 to R7) -/

/-- How the configuration is applied or changed at the Load Estimator and the Circuit Table: the stages of each
side, whether presence is compared, whether the tyres are renumbered, and whether frozen targets are clamped
afresh. -/
structure Application where
  left : Stages
  right : Stages
  presence : Bool
  renumber : Bool
  reclamp : Bool
deriving DecidableEq, Repr

namespace State

/-- A circuit becomes ABSENT (R7). -/
def makeAbsent (s : State) (c : CircuitId) : State :=
  let s := ((s.setCircuit c CircuitRecord.initial).clearCircuit c).clearFaults (ownValves c)
  match circuitSide c, circuitTyre c with
  | some _, _ => s
  | none, some t => s.setTyre t TyreItems.initial
  | none, none => s.liftAbsent

/-- A circuit is to become ABSENT: it is present, and not configured or to be renumbered (R5). -/
def mustDrop (s : State) (renumber : Bool) (c : CircuitId) : Bool :=
  s.isPresent c && (!configured s.params c || (renumber && (circuitTyre c).isSome))

/-- The circuits the configuration no longer includes, or renumbers, become ABSENT (R5). -/
def dropCircuits (s : State) (renumber : Bool) : State :=
  (allCircuits.filter (s.mustDrop renumber)).foldl makeAbsent s

/-- The circuits that are to become present (R5). -/
def circuitsToAppear (s : State) : List CircuitId :=
  allCircuits.filter fun c => !s.isPresent c && configured s.params c

/-- The record of a circuit that becomes present (R6, R57). -/
def presentRecord (s : State) (c : CircuitId) : CircuitRecord :=
  match circuitSide c, circuitTyre c with
  | some side, _ => { CircuitRecord.initial with
      state := .idle, measured := s.validValue (heightChannel side), target := s.height.target }
  | none, some t => { CircuitRecord.initial with
      state := .idle, probeDue := true, frozen := s.frozenFor t
      target := (s.sideRecord (tyreSide s.params t)).target }
  | none, none => { CircuitRecord.initial with state := .idle, measured := s.validValue 3 }

/-- A circuit becomes present (R6). Its height target, written into a side's record here, is not taken as a change of
the side height target (R44): no stage C runs for it (DESIGN CHOICE, log entry 43). -/
def becomePresent (s : State) (c : CircuitId) : State :=
  let s := s.setCircuit c (s.presentRecord c)
  match circuitTyre c with
  | some t => s.setTyre t TyreItems.initial
  | none => s

/-- A circuit that has become present: a side already overloaded is reported (R52), and the evaluator makes its
first evaluation (R6). That TYRE_OVERLOAD comes after the loads handed on and the targets written, just before the
side's own evaluation, is DESIGN CHOICE (log entry 33). -/
def firstEvaluation (s : State) (c : CircuitId) : State :=
  let s := match circuitSide c with
    | some side =>
      if (s.sideRecord side).overload then s.raiseOverload side ((s.sideRecord side).perTyre.getD 0) else s
    | none => s
  s.evaluateCircuit c

/-- The configuration applied or changed at the Load Estimator and the Circuit Table, as one change (R5, R57,
R58): side records, presence, frozen flags, clamped frozen targets, loads, targets, evaluations. -/
def applyChange (s : State) (a : Application) : State :=
  let s := (s.recomputeRecord .left a.left).recomputeRecord .right a.right
  let s := if a.presence then s.dropCircuits a.renumber else s
  let frozen := if a.presence then s.tyresToFreeze else []
  let s := frozen.foldl writeFrozen s
  let clamped := if a.reclamp then s.tyresToReclamp else []
  let s := clamped.foldl writeReclamped s
  let new := if a.presence then s.circuitsToAppear else []
  let s := new.foldl becomePresent s
  let s := (s.handLoads .left a.left).handLoads .right a.right
  let s := (s.writeTargets .left).writeTargets .right
  let s := frozen.foldl evaluateTyre (clamped.foldl tyreTargetChanged s)
  new.foldl firstEvaluation s

/-- The configuration applied at the end of start-up (R5, R57, R176). -/
def applyConfiguration (s : State) : State :=
  s.applyChange ⟨.fromE, .fromE, true, false, false⟩

/-! ### A change of the running configuration -/

/-- P01, P02 or P03 differs. -/
def presenceDiffers (p q : Params) : Bool := p.p01 ≠ q.p01 || p.p02 ≠ q.p02 || p.p03 ≠ q.p03

/-- The stages a change runs for a side (R58): those of each parameter that differs, and those of the parameter
`written` by a SET_PARAM that has been taken, whether or not its value differs. -/
def changedStages (s : State) (old : Params) (written : Option Nat) (allowanceMoved : Bool) (side : Side) :
    Stages :=
  let p := s.params
  let r := s.sideRecord side
  { c := p.p51 ≠ old.p51 || written = some 51 ||
      ((p.p10 ≠ old.p10 || written = some 10) && r.heightSource = .ride && r.source = .live)
    e := p.p50 ≠ old.p50 || written = some 50 || presenceDiffers p old
    f := p.p52 ≠ old.p52 || written = some 52
    g := p.p53 ≠ old.p53 || written = some 53 || p.p54 ≠ old.p54 || written = some 54 || p.p55 ≠ old.p55 ||
      written = some 55 || allowanceMoved }

/-- The change at the Load Estimator and the Circuit Table (R58), allowance in force included (R53). Until start-up
ends the configuration is not applied to the Circuit Table (R4, R5). The reconciliation for P03 and the allowance come
before the side records (DESIGN CHOICE, log entry 61). -/
def changeCircuits (s : State) (old : Params) (written : Option Nat) : State :=
  let p := s.params
  let apply := presenceDiffers p old && s.supervisor.control ≠ .starting
  let s := if apply ∧ p.p03 = .fitted ∧ old.p03 = .notFitted then s.reconcileLift else s
  let moved := (p.p56 ≠ old.p56 || written = some 56) && s.allowanceNow ≠ s.estimator.allowance
  let s := if moved then s.setAllowance s.allowanceNow else s
  s.applyChange
    { left := s.changedStages old written moved .left
      right := s.changedStages old written moved .right
      presence := apply
      renumber := p.p01 ≠ old.p01 || p.p02 ≠ old.p02
      reclamp := p.p53 ≠ old.p53 || p.p54 ≠ old.p54 }

/-- The change at the Sensing Block: calibrations and the height window (R25, R28). The channels are computed again in
their order, each handed on before the next is computed (DESIGN CHOICE, log entries 53 and 54). -/
def changeSensing (s : State) (old : Params) (windowWas : Nat) : State :=
  let windowMoved := s.window 5 ≠ windowWas
  allChannels.foldl (fun s ch =>
    if s.params.p96[ch.val] ≠ old.p96[ch.val] ∨ (windowMoved ∧ (ch.val = 5 ∨ ch.val = 6)) then s.recomputeChannel ch
    else s) s

/-- The change at the Height Controller (R105, R109, R110, R115). The order of its parts is DESIGN CHOICE (log entry
61). -/
def changeHeight (s : State) (old : Params) : State :=
  let p := s.params
  let s := if p.p12 ≠ old.p12 ∨ p.p13 ≠ old.p13 then
      s.setHeight { s.height with customHeight := clampNat p.p12 p.p13 s.height.customHeight }
    else s
  let s := if p.p10 ≠ old.p10 ∨ p.p11 ≠ old.p11 ∨ p.p12 ≠ old.p12 ∨ p.p13 ≠ old.p13 then s.formTarget else s
  let s := if p.p13 ≠ old.p13 ∨ p.p14 ≠ old.p14 ∨ p.p15 ≠ old.p15 ∨ p.p16 ≠ old.p16 ∨ p.p17 ≠ old.p17 ∨
      p.p18 ≠ old.p18 then s.evaluateSides else s
  let s := if p.p21 ≠ old.p21 then s.returnToRide else s
  if p.p91 ≠ old.p91 then s.ageSpeed else s

/-- The change at Tyre Upkeep (R125, R128, R132, R133): isolation tests, evaluations, intervals, TYRE_LOW, in this
order (DESIGN CHOICE, log entry 60). At a change of P62 or P63 each tyre is made probe due and evaluated before the next
one becomes probe due (DESIGN CHOICE, log entry 59). -/
def changeUpkeep (s : State) (old : Params) : State :=
  let p := s.params
  let s := if p.p53 ≠ old.p53 then s.testIsolations else s
  let s := if p.p53 ≠ old.p53 ∨ p.p60 ≠ old.p60 ∨ p.p61 ≠ old.p61 then s.evaluateTyres else s
  let s := if p.p62 ≠ old.p62 ∨ p.p63 ≠ old.p63 then allTyres.foldl judgeInterval s else s
  if p.p66 ≠ old.p66 then allTyres.foldl judgeLow s else s

/-- The change at the other blocks: the reserve (R140), promotion (R66), the lift mode (R117), the link timeout
(R160) and summary due (R159). R66 gives no order to the demands that one change of P75 promotes; the order of the
circuit identifiers is DESIGN CHOICE (log entry 45). -/
def changeOthers (s : State) (old : Params) : State :=
  let p := s.params
  let s := if p.p30 ≠ old.p30 ∨ p.p31 ≠ old.p31 ∨ p.p32 ≠ old.p32 then s.rejudgeReserve else s
  let s := if p.p75 ≠ old.p75 then allCircuits.foldl promote s else s
  let s := if p.p84 ≠ old.p84 ∧ p.p84 = .manual then s.setLift { s.lift with dwellSince := none } else s
  let s := if p.p90 ≠ old.p90 then s.judgeLink else s
  if p.p92 ≠ old.p92 then s.startSummary else s

/-- The running configuration replaced, told to each block as one change (R58, R170 step 6, R175); `written` is the
parameter of a SET_PARAM that has been taken. A value equal to the one held is told to the Load Estimator, which
runs the stages of R58; the results of the other blocks stand as before (R170; log entry 23). -/
def replaceConfig (s : State) (written : Option Nat) (new : Params) : State :=
  let old := s.params
  let windowWas := s.window 5
  let s := s.setParams new
  let s := if new.p03 ≠ old.p03 then s.resetLiftChannel else s
  let s := s.changeCircuits old written
  let s := s.changeSensing old windowWas
  ((s.changeHeight old).changeUpkeep old).changeOthers old

/-- A replacement by a loader run, or a write of P84 by a LIFT request, for which R58 names no stage: the
parameters that differ are acted on (R175, R117). -/
def reconfigure (s : State) (new : Params) : State := s.replaceConfig none new

/-! ### Requests -/

/-- The SET_PARAM request (R170). -/
def answerSetParam (s : State) (n : Nat) (value : List Byte) : Answer × State :=
  match (propose s.params s.isRunning n value).bind (acceptProposal s.params s.isRunning n) with
  | .error reason => (.refused reason, s)
  | .ok (p, ch, moved) => (.taken moved (paramBytes p n ch), s.replaceConfig (some n) p)

/-- The GET_PARAM request (R161, R170). -/
def answerGetParam (s : State) (n : Nat) (channel : Option Byte) : Answer × State :=
  match channelOf (channel.getD 0#8) with
  | some ch => (.done (paramBytes s.params n ch), s)
  | none => (.refused .badArgument, s)

/-- P84 written as a SET_PARAM of it would be (R117). -/
def setLiftMode (s : State) (m : LiftMode) : State := s.reconfigure { s.params with p84 := m }

/-- RAISE taken in DOWN while RUNNING: the raise permission of R118. -/
def tryRaise (s : State) : Answer × State :=
  if s.liftBarred then (.refused .stalled, s)
  else if !s.liftClear then (.refused .interlocked, s)
  else if !(s.loadAllows .left && s.loadAllows .right) then (.refused .load, s)
  else (.accepted, s.startRaise)

/-- The LIFT request (R117). -/
def answerLift (s : State) (a : LiftAction) : Answer × State :=
  if !s.liftFitted then (.refused .noSuchCircuit, s)
  else match a with
    | .auto => (.done [], s.setLiftMode .auto)
    | .manual => (.done [], s.setLiftMode .manual)
    | .lower => match s.lift.state with
      | .down => (.done [], s)
      | .lowering => (.done [], s)
      | _ => (.accepted, s.lower .lift)
    | .raise => match s.supervisor.control, s.lift.state with
      | .unconfigured, _ => (.refused .unconfigured, s)
      | .suspended, _ => (.refused .interlocked, s)
      | _, .raising => (.done [], s)
      | _, .up => (.done [], s)
      | _, .lowering => (.refused .busy, s)
      | _, .down => s.tryRaise

end State
end Sys2Proof.Machine
end

