-- ==== Sys2Proof/Machine/Store.lean ====
section
/-! DEFINITION. The Profile Store (R172, R173), the loader (R174, R175) and the end of start-up (R176). -/

namespace Sys2Proof.Machine

/-- The profile image. -/
abbrev Image := Vector Word 512

/-- The erased value (R162). -/
def erased : Word := 0xFFFF#16
/-- Word 0 (R162). -/
def idWord0 : Word := 0x4D31#16
/-- Word 1 (R162). -/
def idWord1 : Word := 0x5412#16
/-- The end marker (R162). -/
def endMarker : Word := 0xE0E0#16

/-- A word of the image, FFFFh beyond word 511 (R162). -/
def wordAt (image : Image) (i : Nat) : Word := if h : i < 512 then image[i] else erased

/-- A word of the image written. -/
def setWordAt (image : Image) (i : Nat) (w : Word) : Image := if h : i < 512 then image.set i w else image

/-- Words written one after another from an index. -/
def writeWords (image : Image) (i : Nat) : List Word → Image
  | [] => image
  | w :: rest => writeWords (setWordAt image i w) (i + 1) rest

/-- The words written and what stood in their places before (R173). -/
def wordsWritten (image : Image) (i : Nat) : List Word → List WordWritten
  | [] => []
  | _ :: rest => ⟨i, wordAt image i⟩ :: wordsWritten image (i + 1) rest

/-- The words of a list put back as they stood before. -/
def putBack (image : Image) (ws : List WordWritten) : Image :=
  ws.foldl (fun image w => setWordAt image w.index w.before) image

/-- The 16-bit sum, carries dropped, of words 0 to `last` (R162, R174). -/
def imageSum (image : Image) (last : Nat) : Word := (image.toList.take (last + 1)).foldl (· + ·) 0#16

/-- The image after PROFILE_BEGIN (R172). -/
def beginImage : Image := ((Vector.replicate 512 erased).set 0 idWord0).set 1 idWord1

/-- The image a write in progress leaves when a reset stops it: the words that 4 ms each have let it write stay,
the later ones are as before (R173; log entry 11). -/
def interruptedImage (store : ProfileStore) (now : Nat) : Image :=
  match store.write with
  | none => store.image
  | some w => match w.request with
    | .begin => store.image
    | _ => putBack store.image (w.words.drop ((now - w.start) / Fixed.storeWord))

/-! ### The loader -/

/-- A candidate configuration: the parameters, and the tables as their counts and items (R174). -/
structure Candidate where
  params : Params
  areaCount : Nat
  areaItems : List Nat
  loadCount : Nat
  loadItems : List Nat
deriving DecidableEq, Repr

/-- The items of a table's points, first and second value in turn (R162). -/
def tableItems (pts : List (Nat × Nat)) : List Nat := pts.flatMap fun pt => [pt.1, pt.2]

/-- The points of a list of items. -/
def itemPoints : List Nat → List (Nat × Nat)
  | a :: b :: rest => (a, b) :: itemPoints rest
  | _ => []

/-- A table item clamped into its range (R170 step 3, R174): items 1, 3, 5, ... are first values. -/
def clampItem (n index value : Nat) : Nat :=
  if index % 2 = 1 then (clampPoint n (value, 0)).1 else (clampPoint n (0, value)).2

/-- The items that no default point gives: free values (log entry 14). -/
def unsetItems (group n : Nat) (indexes : List Nat) : List Nat :=
  indexes.map fun i => clampItem n i (Config.unsetTableItem group i)

/-- The candidate the loader starts from (R174). -/
def Candidate.initial : Candidate where
  params := Params.defaults
  areaCount := defaultAreaTable.length
  areaItems := tableItems defaultAreaTable ++ unsetItems 2 51 [11, 12, 13, 14, 15, 16]
  loadCount := defaultLoadTable.length
  loadItems := tableItems defaultLoadTable ++
    unsetItems 3 52 [11, 12, 13, 14, 15, 16, 17, 18, 19, 20, 21, 22, 23, 24]

/-- The configuration a candidate stands for. -/
def Candidate.config (c : Candidate) : Params :=
  { c.params with
    p51 := (itemPoints c.areaItems).take c.areaCount
    p52 := (itemPoints c.loadItems).take c.loadCount }

/-- A value of group 1 (R174). -/
def takeParamValue (c : Candidate) (index : Nat) (w : Word) : Candidate :=
  if isWordParam index then
    match writeWord index w c.params with
    | some (p, _) => { c with params := p }
    | none => c
  else c

/-- A value of group 2 (R174). -/
def takeAreaValue (c : Candidate) (index : Nat) (w : Word) : Candidate :=
  if index = 0 then { c with areaCount := clampNat 2 8 w.toNat }
  else { c with areaItems := c.areaItems.set (index - 1) (clampItem 51 index w.toNat) }

/-- A value of group 3 (R174). -/
def takeLoadValue (c : Candidate) (index : Nat) (w : Word) : Candidate :=
  if index = 0 then { c with loadCount := clampNat 2 12 w.toNat }
  else { c with loadItems := c.loadItems.set (index - 1) (clampItem 52 index w.toNat) }

/-- An item of a calibration replaced (R162). -/
def setCalibrationItem (c : Calibration) (item value : Nat) : Calibration :=
  match item with
  | 0 => { c with zeroCount := value }
  | 1 => { c with fullCount := value }
  | _ => { c with fullScale := value }

/-- A value of group 4 (R174). -/
def takeCalibrationValue (c : Candidate) (index : Nat) (w : Word) : Candidate :=
  if h : index / 3 < 8 then
    let ch : Channel := ⟨index / 3, h⟩
    let x := clampCalibration ch (setCalibrationItem c.params.p96[ch.val] (index % 3) w.toNat)
    { c with params := { c.params with p96 := c.params.p96.set ch.val x } }
  else c

/-- One value of a record (R174). -/
def takeValue (c : Candidate) (group index : Nat) (w : Word) : Candidate :=
  match group with
  | 1 => takeParamValue c index w
  | 2 => takeAreaValue c index w
  | 3 => takeLoadValue c index w
  | _ => takeCalibrationValue c index w

/-- The values of a record taken in turn: `count` words from word `i`, for indexes from `index` (R174). -/
def takeRecord (image : Image) (group : Nat) : Nat → Nat → Nat → Candidate → Candidate
  | 0, _, _, c => c
  | count + 1, i, index, c => takeRecord image group count (i + 1) (index + 1) (takeValue c group index (wordAt image i))

/-- The index space of a group: lowest index, highest index (R162). -/
def indexSpace (group : Nat) : Nat × Nat :=
  match group with
  | 1 => (1, 95)
  | 2 => (0, 16)
  | 3 => (0, 24)
  | _ => (0, 23)

/-- The signature, the group and the count of a head that the store and the loader accept (R172, R174). -/
def headSound (head : Word) : Bool :=
  headSignature head = 10 && decide (1 ≤ headGroup head) && decide (headGroup head ≤ 4) &&
    decide (headCount head ≤ 20)

/-- A record at word `i` is free of format faults (R174 step 2). -/
def recordSound (image : Image) (i : Nat) : Bool :=
  let head := wordAt image i
  let first := (wordAt image (i + 1)).toNat
  let space := indexSpace (headGroup head)
  headSound head && decide (space.1 ≤ first) && decide (first + headCount head ≤ space.2 + 1) &&
    decide (i + 2 + headCount head ≤ 512)

/-- The records read from word `i` on: the place of the end marker and the candidate, or none at a format fault
(R174 steps 2 and 3). -/
def readRecords (image : Image) : Nat → Nat → Candidate → Option (Nat × Candidate)
  | 0, _, _ => none
  | fuel + 1, i, c =>
    if 510 < i then none
    else if wordAt image i = endMarker then some (i, c)
    else if recordSound image i then
      let head := wordAt image i
      readRecords image fuel (i + 2 + headCount head)
        (takeRecord image (headGroup head) (headCount head) (i + 2) (wordAt image (i + 1)).toNat c)
    else none

/-- The loader's finding and the running configuration it sets (R174, R175). -/
def loadImage (image : Image) : BootCode × Params :=
  if wordAt image 0 ≠ idWord0 ∨ wordAt image 1 ≠ idWord1 then (.noProfile, Params.defaults)
  else match readRecords image 512 2 Candidate.initial with
    | none => (.format, Params.defaults)
    | some (marker, c) =>
      if imageSum image marker ≠ wordAt image (marker + 1) then (.check, Params.defaults)
      else if consistent c.config then (.loaded, c.config)
      else (.inconsistent, c.config)

namespace State

/-! ### Requests of the store (R172) -/

/-- The store replaced by an answer to its request, refused with STORE_BUSY while it is busy (R172). -/
def ifStoreFree (s : State) (x : Answer × State) : Answer × State :=
  if s.store.busyUntil.isSome then (.refused .storeBusy, s) else x

/-- A write begun. -/
def beginWrite (s : State) (req : StoreRequest) (image : Image) (words : List WordWritten) (index : Nat)
    (busy : Nat) : State :=
  s.setStore ⟨image, some index, some (s.now + busy), some ⟨req, s.now, words⟩⟩

/-- The PROFILE_BEGIN request (R172). -/
def answerProfileBegin (s : State) : Answer × State :=
  s.ifStoreFree (.accepted, s.beginWrite .begin beginImage [⟨0, erased⟩, ⟨1, erased⟩] 2 Fixed.storeErase)

/-- The PROFILE_PUT request (R172). -/
def answerProfilePut (s : State) (head first : Word) (values : List Word) : Answer × State :=
  s.ifStoreFree (match s.store.writeIndex with
    | none => (.refused .noProfile, s)
    | some i =>
      if !headSound head then (.refused .badArgument, s)
      else if 510 < i + 2 + headCount head then (.refused .storeFull, s)
      else
        let ws := head :: first :: values
        (.accepted, s.beginWrite .put (writeWords s.store.image i ws) (wordsWritten s.store.image i ws)
          (i + ws.length) (Fixed.storeWord * ws.length)))

/-- The words PROFILE_END writes: the end marker and the check word (R172, R162). -/
def closingWords (image : Image) (i : Nat) : List Word :=
  [endMarker, imageSum (setWordAt image i endMarker) i]

/-- The PROFILE_END request (R172). -/
def answerProfileEnd (s : State) : Answer × State :=
  s.ifStoreFree (match s.store.writeIndex with
    | none => (.refused .noProfile, s)
    | some i =>
      let ws := closingWords s.store.image i
      (.accepted, s.beginWrite .finish (writeWords s.store.image i ws) (wordsWritten s.store.image i ws) i
        (Fixed.storeWord * ws.length)))

/-- Eight words of the image from an index (R172). -/
def readEight (image : Image) (i : Nat) : List Word :=
  [0, 1, 2, 3, 4, 5, 6, 7].map fun k => wordAt image (i + k)

/-- The PROFILE_READ request (R172). -/
def answerProfileRead (s : State) (index : Word) : Answer × State :=
  s.ifStoreFree (if 511 < index.toNat then (.refused .badArgument, s)
    else (.done (bytesOf (readEight s.store.image index.toNat)), s))

/-- The loader started by PROFILE_RELOAD (R172, R174). -/
def startReload (s : State) : State :=
  (s.setStore { s.store with busyUntil := some (s.now + Fixed.loaderRun) }).setStartUp
    { s.startUp with loader := some ⟨s.now + Fixed.loaderRun, true⟩ }

/-- The PROFILE_RELOAD request (R172). -/
def answerProfileReload (s : State) : Answer × State :=
  s.ifStoreFree (
    if s.isRunning then (.refused .notSuspended, s)
    else if s.store.writeIndex.isSome then (.refused .storeBusy, s)
    else (.accepted, s.startReload))

/-! ### Ends of writes (R172, R173) -/

/-- A write of one of these requests is in progress and its busy time has passed. -/
def writeDone (s : State) (closing : Bool) : Bool :=
  match s.store.write with
  | some w => (w.request = .finish) = closing && s.reached s.store.busyUntil
  | none => false

/-- The busy time of PROFILE_END ends (R172). -/
def endProfile (s : State) : State :=
  let check := s.store.writeIndex.map (· + 1)
  (s.setStore { s.store with writeIndex := none, busyUntil := none, write := none }).logEvent .storeWritten
    .advisory none (check.map Int.ofNat)

/-- The busy time of a BEGIN or PUT ends (R172). -/
def endBusy (s : State) : State := s.setStore { s.store with busyUntil := none, write := none }

/-- The words of a write that follow the word at an index. -/
def wordsAfter (index : Nat) : List WordWritten → List WordWritten
  | [] => []
  | w :: rest => if w.index = index then rest else wordsAfter index rest

/-- A word of the write in progress does not read back as written (R173). -/
def readBackFails (s : State) (index : Nat) (found : Word) : Bool :=
  match s.store.write with
  | some w => w.words.any (fun x => x.index = index) && wordAt s.store.image index ≠ found
  | none => false

/-- A store failure (R173): the words written before stay, the failing word reads as found, the later ones have
not been written. -/
def failStore (s : State) (index : Nat) (found : Word) : State :=
  let later := wordsAfter index ((s.store.write.map StoreWrite.words).getD [])
  (s.setStore ⟨setWordAt (putBack s.store.image later) index found, none, none, none⟩).logEvent .storeFailed
    .degraded none (some index)

/-! ### The loader (R175) and the end of start-up (R176) -/

/-- The event of a load (R175). -/
def logLoad (s : State) (boot : BootCode) : State :=
  if boot = .loaded then s.logEvent .profileLoaded .advisory none (some boot.code)
  else s.logEvent .profileFailed .degraded none (some boot.code)

/-- A load has ended: the loader stops, the store's busy time ends, the boot code is held (R174, R175). -/
def closeLoad (s : State) (boot : BootCode) : State :=
  (s.setStore { s.store with busyUntil := none }).setStartUp
    { s.startUp with loader := none, bootCode := some boot, loadEnded := true }

/-- The control state after a load started by PROFILE_RELOAD (R175, R144). -/
def moveAfterReload (s : State) (boot : BootCode) : State :=
  if boot = .loaded then (if s.supervisor.control = .unconfigured then s.beginControl else s)
  else if s.isRunning then s.leaveRunning .unconfigured
  else s.setControl .unconfigured

/-- The end of a loader run (R175): the configuration is replaced, then the event is logged, then the control state
moves (DESIGN CHOICE, log entry 29). -/
def endLoad (s : State) (run : LoaderRun) : State :=
  let found := loadImage s.store.image
  let s := ((s.closeLoad found.1).reconfigure found.2).logLoad found.1
  if run.reload then s.moveAfterReload found.1 else s

/-- The load of this start-up aborted, unless it has been already (R155, R175). -/
def abortLoad (s : State) : State :=
  if s.startUp.bootCode = some .aborted then s
  else
    let s := if s.startUp.loader.isSome then s.setStore { s.store with busyUntil := none } else s
    let s := s.setStartUp { s.startUp with loader := none, bootCode := some .aborted, loadEnded := true }
    (s.reconfigure Params.defaults).logLoad .aborted

/-- Start-up has reached its end (R176). -/
def startUpDone (s : State) : Bool :=
  s.supervisor.control = .starting && s.startUp.loadEnded && decide (s.startUp.resetAt + Fixed.startUp ≤ s.now)

/-- The end of start-up, as one act (R176). -/
def endStartUp (s : State) : State :=
  let s := ((s.judgeUnjudged.judgeHeightLost).reconcileLift).applyConfiguration
  if s.startUp.bootCode = some .loaded then s.beginControl else s.setControl .unconfigured

end State
end Sys2Proof.Machine
end

