-- ==== Sys2Proof/Machine/Requests.lean ====
section
/-! DEFINITION. The requests as their owners answer them: reads (R2, R41, R59, R156), CIRCUIT and SURVEY (R9, R135
to R138), CONTROL (R147), and those of the Event Unit (R156, R163, R165, R168). -/

namespace Sys2Proof.Machine

/-- The circuit an identifier names, 0 to 14 (R1). -/
def circuitOf (b : Byte) : Option CircuitId := if h : b.toNat < 15 then some ⟨b.toNat, h⟩ else none

/-- The side an identifier names (R59). -/
def sideOf (b : Byte) : Option Side :=
  match b.toNat with
  | 0 => some .left
  | 1 => some .right
  | _ => none

/-- The valves whose flags CLEAR clears in every case (R15). -/
def sharedValves : List ValveId := [supplyValve, galleryFillValve, galleryExhaustValve]

namespace State

/-! ### Reads -/

/-- The READ_CIRCUIT request (R2, R154). -/
def answerReadCircuit (s : State) (id : Byte) : Answer :=
  match circuitOf id with
  | some c => .done (s.circuitBlock c)
  | none => .refused .badArgument

/-- The READ_SIDE request (R59). -/
def answerReadSide (s : State) (side : Byte) : Answer :=
  match sideOf side with
  | some x => .done (s.sideBlock x)
  | none => .refused .badArgument

/-! ### CIRCUIT and SURVEY -/

/-- A resumed tyre becomes probe due; a resumed LIFT clears LIFT_UNAVAILABLE (R9, R122). -/
def tellResumed (s : State) (c : CircuitId) : State :=
  match circuitTyre c with
  | some t => s.setProbeDue t
  | none => if c = liftCircuit then s.clear .liftUnavailable else s

/-- RESUME of a STALLED circuit (R9). -/
def resumeStalled (s : State) (c : CircuitId) : State :=
  let s := s.setCircuit c { s.circuit c with state := .idle, strikes := 0 }
  let s := (s.clearFaults (ownValves c)).clear (.circuitStalled c)
  let s := (s.logEvent .circuitResumed .advisory (some c) none).tellResumed c
  s.evaluateCircuit c

/-- RESUME of a present circuit that is not ACTIVE (R9, R136). -/
def resumeCircuit (s : State) (c : CircuitId) : State :=
  match (s.circuit c).state, circuitTyre c with
  | .stalled, _ => s.resumeStalled c
  | .isolated, some t => s.resumeIsolated t
  | _, _ => s

/-- CIRCUIT with action RESUME (R9). -/
def answerResume (s : State) (id : Byte) : Answer × State :=
  match circuitOf id with
  | none => (.refused .badArgument, s)
  | some c => match (s.circuit c).state with
    | .absent => (.refused .noSuchCircuit, s)
    | .active => (.refused .busy, s)
    | _ => (.done [], s.resumeCircuit c)

/-- The present tyre that ISOLATE or PROBE names, or the refusal (R135, R137). -/
def namedTyre (s : State) (id : Byte) : Except Reason TyreId :=
  match circuitOf id with
  | none => .error .badArgument
  | some c =>
    if !s.isPresent c then .error .noSuchCircuit
    else match circuitTyre c with
      | some t => .ok t
      | none => .error .badArgument

/-- CIRCUIT with action ISOLATE (R135). -/
def answerIsolate (s : State) (id : Byte) : Answer × State :=
  match s.namedTyre id with
  | .error reason => (.refused reason, s)
  | .ok t => match (s.circuit (tyreCircuit t)).state with
    | .active => (.refused .busy, s)
    | .stalled => (.refused .stalled, s)
    | .isolated => (.done [], s)
    | _ => (.done [], s.isolate t .request 0)

/-- A tyre made probe due by a request, and evaluated (R125, R137). -/
def demandProbe (s : State) (t : TyreId) : State := (s.setProbeDue t).evaluateTyre t

/-- CIRCUIT with action PROBE (R137). -/
def answerProbe (s : State) (id : Byte) : Answer × State :=
  match s.namedTyre id with
  | .error reason => (.refused reason, s)
  | .ok t => match (s.circuit (tyreCircuit t)).state with
    | .active => (.refused .busy, s)
    | .stalled => (.refused .stalled, s)
    | .isolated => (.refused .interlocked, s)
    | _ => (.done [], s.demandProbe t)

/-- The CIRCUIT request (R9, R135, R137). -/
def answerCircuit (s : State) (a : CircuitAction) (id : Byte) : Answer × State :=
  match a with
  | .resume => s.answerResume id
  | .isolate => s.answerIsolate id
  | .probe => s.answerProbe id

/-- The tyres SURVEY makes probe due (R138). -/
def tyresToSurvey (s : State) : List TyreId :=
  allTyres.filter fun t =>
    let r := s.circuit (tyreCircuit t)
    r.state ≠ .absent && r.state ≠ .stalled && r.state ≠ .isolated && !r.probeDue

/-- The SURVEY request (R138). Probe due is set on every tyre concerned before the first is evaluated, and the
evaluations follow the order of the positions (DESIGN CHOICE, log entry 50). -/
def answerSurvey (s : State) : Answer × State :=
  let ts := s.tyresToSurvey
  (.done [byteOf ts.length], ts.foldl evaluateTyre (ts.foldl setProbeDue s))

/-! ### CONTROL -/

/-- Reason CAB set or cleared. -/
def setCab (s : State) (b : Bool) : State := s.setSupervisor { s.supervisor with reasonCab := b }

/-- An effect, answered DONE with the control reply data as they stand after it (R147). -/
def controlDone (s : State) : Answer × State := (.done s.controlData, s)

/-- CONTROL RUN (R147). -/
def answerRun (s : State) : Answer × State :=
  if s.reloadRunning then (.refused .storeBusy, s)
  else match s.supervisor.control with
    | .starting => (.refused .starting, s)
    | .running => (s.setCab false).controlDone
    | .suspended =>
      if s.supervisor.reasonSupply then (s.setCab false).controlDone else (s.setCab false).enterRunning.controlDone
    | .unconfigured =>
      if consistent s.params then (s.setCab false).beginControl.controlDone else (.refused .badConfig, s)

/-- CONTROL HOLD (R147). -/
def answerHold (s : State) : Answer × State :=
  let t := s.setCab true
  if s.isRunning then (t.leaveRunning .suspended).controlDone else t.controlDone

/-- CONTROL RESTART: the restart is pending from the moment its reply is queued (R147, R148). -/
def answerRestart (s : State) : Answer × State :=
  (s.setLink { s.link with restartPending := true }).controlDone

/-- The CONTROL request (R147). -/
def answerControl (s : State) (a : ControlAction) : Answer × State :=
  match a with
  | .run => s.answerRun
  | .hold => s.answerHold
  | .restart => s.answerRestart

/-! ### The Event Unit's requests -/

/-- The EVENTS data (R165, R162). -/
def eventsData (s : State) : List Byte :=
  let q := s.events.queue
  [byteOf (q.take 4).length, byteOf (q.drop 4).length, byteOf (bitAt 0 s.events.overrun)] ++
    (q.take 4).flatMap eventBlock

/-- The EVENTS request (R165). -/
def answerEvents (s : State) : Answer × State :=
  (.done s.eventsData, s.setEvents { s.events with queue := s.events.queue.drop 4, overrun := false })

/-- The CLEAR request (R156, R15). Each flag of valves 1 to 3 that it clears runs a serving pass (R75, R73). All flags
are cleared before the first of these passes (DESIGN CHOICE, log entry 41). -/
def answerClear (s : State) : Answer × State :=
  let cleared := sharedValves.filter fun v => (s.valve v).fault
  let t := (s.setEvents { s.events with detected := 0 }).clearFaults sharedValves
  let t := if s.isPresent liftCircuit then t else t.clearFault isolationValve
  (.done [], cleared.foldl (fun t _ => t.pass) t)

/-- The TIME request (R163). -/
def answerTime (s : State) (v : BitVec 32) : Answer × State := (.done [], s.setEvents { s.events with timeTag := v })

/-- The LAMP_TEST request (R168). -/
def answerLampTest (s : State) : Answer × State :=
  (.done [], (s.setEvents { s.events with testEnd := some (s.now + Fixed.lampTest) }).deriveLamp)

/-! ### Dispatch -/

/-- A request that has passed its tests carried out by its owner (R153 step 5, R154). -/
def answer (s : State) (r : Request) : Answer × State :=
  match r with
  | .status => (.done s.statusBlock, s)
  | .readCircuit id => (s.answerReadCircuit id, s)
  | .readSide side => (s.answerReadSide side, s)
  | .readSensors => (.done s.sensorBlock, s)
  | .setMode mode height => s.answerSetMode mode height
  | .stepHeight step => s.answerStepHeight step
  | .lift a => s.answerLift a
  | .circuit a id => s.answerCircuit a id
  | .survey => s.answerSurvey
  | .speed v => s.answerSpeed v
  | .getParam n ch => s.answerGetParam n ch
  | .setParam n value => s.answerSetParam n value
  | .events => s.answerEvents
  | .clear => s.answerClear
  | .time v => s.answerTime v
  | .control a => s.answerControl a
  | .lampTest => s.answerLampTest
  | .profileBegin => s.answerProfileBegin
  | .profilePut head first values => s.answerProfilePut head first values
  | .profileEnd => s.answerProfileEnd
  | .profileReload => s.answerProfileReload
  | .profileRead index => s.answerProfileRead index

end State
end Sys2Proof.Machine
end

