-- ==== Sys2Proof/Machine/Link.lean ====
section
/-! DEFINITION. The Link Port: the framer (R151), the check (R152) and the handling of a valid telegram (R153),
the sending of the Transmit Queue (R157) and the resets (R148). -/

namespace Sys2Proof.Machine
namespace State

/-! ### Resets -/

/-- A power-on reset: every block at its reset values but for the profile image, which a write in progress leaves
as far as it has come (R148, R173). The input pins stay as they are, and so do the waiting commands (log entries
6, 8 and 26). -/
def powerOn (s : State) : State :=
  afterReset 0 (interruptedImage s.store s.now) s.sensing.ramp.noClosed s.sensing.ramp.ncClosed
    s.sensing.position.raw s.pending

/-- The Event Unit after a restart: it keeps the queue, the overrun flag, the detected flags and the time tag
(R148). -/
def keptEvents (s : State) : EventUnit :=
  { EventUnit.initial s.now Params.defaults with
    timeTag := s.events.timeTag
    nextAdvance := s.events.nextAdvance
    queue := s.events.queue
    overrun := s.events.overrun
    detected := s.events.detected }

/-- A restart takes effect (R148). -/
def doRestart (s : State) : State :=
  let t := afterReset s.now (interruptedImage s.store s.now) s.sensing.ramp.noClosed s.sensing.ramp.ncClosed
    s.sensing.position.raw s.pending
  (t.setEvents s.keptEvents).logEvent .restarted .advisory none (some 0)

/-- The telegram at the head of the Transmit Queue is the reply to CONTROL RESTART (R148). -/
def restartAtHead (s : State) : Bool :=
  match s.link.queue with
  | t :: _ => t.cls = .restartReply
  | [] => false

/-- The last character of the oldest telegram has been sent (R157); after that of the CONTROL RESTART reply the
restart takes effect (R148). -/
def telegramSent (s : State) : State :=
  if s.restartAtHead ∧ s.link.restartPending then s.doRestart else s.setQueue (s.link.queue.drop 1)

/-! ### Handling a request -/

/-- The reply to a request (R153, R162). -/
def replyTo (kind tag : Byte) (a : Answer) (cls : TelegramClass) : Telegram :=
  ⟨cls, frame (kind + 0x80#8) tag a.body⟩

/-- What every refusal does: the REFUSED flag and the event REQUEST_REFUSED (R153). -/
def noteRefusal (s : State) (kind : Byte) (a : Answer) : State :=
  match a with
  | .refused reason =>
    s.logEvent .requestRefused .refused none (some ((kind.toNat * 256 + reason.code : Nat) : Int))
  | _ => s

/-- The judgement of R153 step 4 down to the owner's own tests: the refusal, or the request to be carried out. -/
def judgeRequest (s : State) (kind : Byte) (body : List Byte) : Except Reason Request :=
  match kindOf kind with
  | none => .error .unknownKind
  | some k =>
    if s.supervisor.control = .starting ∧ !k.servedStarting then .error .starting
    else readBody isParam k body

/-- The refusal with STARTING aborts the load (R155). -/
def mustAbortLoad (s : State) (kind : Byte) : Bool :=
  s.supervisor.control = .starting &&
    match kindOf kind with
    | some k => k.abortsLoad
    | none => false

/-- Steps 4 and 5 of R153: the answer, with the request carried out or the refusal noted. The hand-offs of the
act are taken before the reply is placed (R158; log entry 15). -/
def judgeAndCarryOut (s : State) (kind : Byte) (body : List Byte) : Answer × State :=
  match s.judgeRequest kind body with
  | .error reason =>
    let t := s.noteRefusal kind (.refused reason)
    (.refused reason, if s.mustAbortLoad kind then t.abortLoad.settle else t)
  | .ok r =>
    let x := s.answer r
    (x.1, x.2.settle.noteRefusal kind x.1)

/-- Steps 3 to 6 of R153. -/
def carryOut (s : State) (kind tag : Byte) (body : List Byte) : State :=
  match s.securePlace with
  | none => s
  | some t =>
    let x := t.judgeAndCarryOut kind body
    let cls := if x.2.link.restartPending then .restartReply else .reply
    x.2.placeReply (replyTo kind tag x.1 cls)

/-- A valid telegram handled, as one act (R153). -/
def handle (s : State) (kind tag : Byte) (body : List Byte) : State :=
  let s := s.linkHeard
  if s.link.restartPending then s else s.carryOut kind tag body

/-- A complete telegram checked, and handled when it is valid (R152, R153). -/
def receive (s : State) (chars : List Byte) : State :=
  match validTelegram chars with
  | some t => s.handle t.kind t.tag t.body
  | none => s

/-! ### The framer -/

/-- The framer's items replaced. -/
def setFramer (s : State) (st : FramerState) (part : List Byte) : State :=
  s.setLink { s.link with framer := st, partialTelegram := part }

/-- The partial telegram dropped (R151). -/
def dropPartial (s : State) : State := s.setFramer .hunt []

/-- LENGTH of the partial telegram. -/
def partialLength (part : List Byte) : Nat :=
  match part with
  | _ :: len :: _ => len.toNat
  | _ => 0

/-- A character taken by framer state (R151). -/
def frameChar (s : State) (c : Byte) : State :=
  let part := s.link.partialTelegram ++ [c]
  match s.link.framer with
  | .hunt => if c = syncChar then s.setFramer .length [c] else s
  | .length => if c.toNat ≤ 48 then s.setFramer .kind part else s.dropPartial
  | .kind => s.setFramer .tag part
  | .tag => s.setFramer (if partialLength part = 0 then .check else .body) part
  | .body => s.setFramer (if part.length = partialLength part + 4 then .check else .body) part
  | .check =>
    if part.length = partialLength part + 6 then (s.dropPartial).receive part else s.setFramer .check part

/-- More than 5 ms have passed since the character before (R151; log entry 17). -/
def gapPassed (s : State) : Bool :=
  match s.link.lastChar with
  | some m => decide (m + Fixed.characterGap < s.now)
  | none => false

/-- The end of a character noted. -/
def noteChar (s : State) : State := s.setLink { s.link with lastChar := some s.now }

/-- A received character (R151). -/
def takeChar (s : State) (c : Byte) : State :=
  let s := if s.gapPassed then s.dropPartial else s
  s.noteChar.frameChar c

end State
end Sys2Proof.Machine
end

