-- ==== Sys2Proof/Machine/Resets.lean ====
section
/-! DEFINITION. The two resets as commands (R148). -/

namespace Sys2Proof.Machine

/-- What a meaning answers: the state after its act, with the hand-offs the act left taken. -/
def finish (s : State) : Host.Outcome State Fault Refusal := .next s.settle

/-- POWER_ON_RESET (R148). -/
def execPowerOnReset (s : State) : Host.Outcome State Fault Refusal := finish s.powerOn

/-- RESTART (R148): without a restart reply whose last character can have been sent, nothing happens. -/
def execRestart (s : State) : Host.Outcome State Fault Refusal :=
  finish (if s.restartAtHead ∧ s.link.restartPending then s.doRestart else s)

end Sys2Proof.Machine
end

