-- ==== Sys2Proof/Machine/SensingCommands.lean ====
section
/-! DEFINITION. The commands of the Sensing Block: readings, contact changes and debounced readings (R22, R38,
R39). -/

namespace Sys2Proof.Machine

/-- ANALOG_READING (R22). -/
def execAnalogReading (channel : Channel) (raw : RawReading) (s : State) : Host.Outcome State Fault Refusal :=
  finish (s.takeReading channel raw)

/-- RAMP_CONTACT_CHANGE (R38). -/
def execRampContactChange (noClosed ncClosed : Bool) (s : State) : Host.Outcome State Fault Refusal :=
  finish (s.changeContacts noClosed ncClosed)

/-- DEBOUNCED_RAMP_READING (R38, R108). -/
def execDebouncedRampReading (s : State) : Host.Outcome State Fault Refusal :=
  finish (if s.rampDue then s.takeDebouncedRamp else s)

/-- POSITION_SWITCH_CHANGE (R39). -/
def execPositionSwitchChange (position : Position) (s : State) : Host.Outcome State Fault Refusal :=
  finish (s.changePosition position)

/-- DEBOUNCED_POSITION (R39). -/
def execDebouncedPosition (s : State) : Host.Outcome State Fault Refusal :=
  finish (if s.positionDue then s.takePosition else s)

end Sys2Proof.Machine
end

