-- ==== Sys2Proof/Machine/StoreCommands.lean ====
section
/-! DEFINITION. The moments of the Profile Store, the loader and start-up (R172 to R176). One that is not due
changes nothing (log entry 3). -/

namespace Sys2Proof.Machine

/-- STORE_WRITTEN (R172). -/
def execStoreWritten (s : State) : Host.Outcome State Fault Refusal :=
  finish (if s.writeDone true then s.endProfile else s)

/-- STORE_BUSY_END (R172). -/
def execStoreBusyEnd (s : State) : Host.Outcome State Fault Refusal :=
  finish (if s.writeDone false then s.endBusy else s)

/-- STORE_FAILED (R173). -/
def execStoreFailed (index : Fin 512) (found : Word) (s : State) : Host.Outcome State Fault Refusal :=
  finish (if s.readBackFails index.val found then s.failStore index.val found else s)

/-- LOADER_END (R174, R175). -/
def execLoaderEnd (s : State) : Host.Outcome State Fault Refusal :=
  finish (match s.startUp.loader with
    | some run => if run.ends ≤ s.now then s.endLoad run else s
    | none => s)

/-- START_UP_END (R176). -/
def execStartUpEnd (s : State) : Host.Outcome State Fault Refusal :=
  finish (if s.startUpDone then s.endStartUp else s)

end Sys2Proof.Machine
end

