-- ==== Sys2Proof/Machine/TimedCommands.lean ====
section
/-! DEFINITION. The moments of internal time at the scheduler, the engine, the controllers, the Supervisor and the
Event Unit. One that is not due changes nothing (log entry 3). -/

namespace Sys2Proof.Machine
namespace State

/-- The transaction of a circuit whose phase has come to its end (R84). -/
def phaseDue (s : State) (c : CircuitId) : Option Transaction :=
  (s.transactionOn c).filter fun t => decide (t.phaseEnd ≤ s.now)

/-- Holdoff remaining of a circuit has reached 0 (R96). -/
def holdoffDue (s : State) (c : CircuitId) : Bool :=
  (s.circuit c).state = .holdoff && s.reached (s.circuit c).holdoffEnd

/-- The end of a holdoff (R96). -/
def endHoldoff (s : State) (c : CircuitId) : State :=
  ((s.setCircuit c { s.circuit c with state := .idle, holdoffEnd := none }).pass).evaluateCircuit c

/-- The persistence of a side has come to its expiry (R114). -/
def persistenceDue (s : State) (side : Side) : Bool := s.reached (s.sideControl side).expiry

/-- The expiry of a side's persistence (R114). -/
def endPersistence (s : State) (side : Side) : State :=
  (s.setSideControl side { s.sideControl side with expiry := none }).evaluateSide side

/-- The dwell of an AUTO raise has run its 10 s (R121). -/
def dwellDue (s : State) : Bool := s.reached (s.lift.dwellSince.map (· + Fixed.liftDwell))

/-- The raise permission tested at the end of the dwell (R121). -/
def endDwell (s : State) : State :=
  if s.mayRaise then s.startRaise else s.setLift { s.lift with dwellSince := some s.now }

/-- The time tag is to advance (R163). -/
def tagDue (s : State) : Bool := decide (s.events.nextAdvance ≤ s.now)

/-- The time tag advances; from FFFFFFFFh it becomes 0 and TIME_ROLLOVER is logged (R163). -/
def advanceTag (s : State) : State :=
  let full := s.events.timeTag = BitVec.allOnes 32
  let s := s.setEvents { s.events with
    timeTag := s.events.timeTag + 1, nextAdvance := s.events.nextAdvance + s.params.p95 }
  if full then s.logEvent .timeRollover .advisory none none else s

end State

/-- PROMOTION (R66). -/
def execPromotion (circuit : CircuitId) (s : State) : Host.Outcome State Fault Refusal :=
  finish (s.promote circuit)

/-- PHASE_END (R84). -/
def execPhaseEnd (circuit : CircuitId) (s : State) : Host.Outcome State Fault Refusal :=
  finish (match s.phaseDue circuit with
    | some t => s.endPhase t
    | none => s)

/-- HOLDOFF_END (R96). -/
def execHoldoffEnd (circuit : CircuitId) (s : State) : Host.Outcome State Fault Refusal :=
  finish (if s.holdoffDue circuit then s.endHoldoff circuit else s)

/-- SPEED_AGE_OUT (R109). -/
def execSpeedAgeOut (s : State) : Host.Outcome State Fault Refusal := finish s.ageSpeed

/-- PERSISTENCE_EXPIRY (R114). -/
def execPersistenceExpiry (side : Side) (s : State) : Host.Outcome State Fault Refusal :=
  finish (if s.persistenceDue side then s.endPersistence side else s)

/-- LIFT_DWELL_END (R121). -/
def execLiftDwellEnd (s : State) : Host.Outcome State Fault Refusal :=
  finish (if s.dwellDue then s.endDwell else s)

/-- PROBE_INTERVAL_EXPIRY (R128). -/
def execProbeIntervalExpiry (tyre : TyreId) (s : State) : Host.Outcome State Fault Refusal :=
  finish (s.judgeInterval tyre)

/-- SUPPLY_RESTORED (R142, R143). -/
def execSupplyRestored (s : State) : Host.Outcome State Fault Refusal :=
  finish (if s.supplySteadyDue then s.restoreSupply else s)

/-- TIME_TAG_ADVANCE (R163). -/
def execTimeTagAdvance (s : State) : Host.Outcome State Fault Refusal :=
  finish (if s.tagDue then s.advanceTag else s)

/-- TIME_ROLLOVER (R163): the advance from FFFFFFFFh. -/
def execTimeRollover (s : State) : Host.Outcome State Fault Refusal :=
  finish (if s.tagDue ∧ s.events.timeTag = BitVec.allOnes 32 then s.advanceTag else s)

end Sys2Proof.Machine
end

