-- ==== Sys2Proof/Machine/ValveCommands.lean ====
section
/-! DEFINITION. The commands of the Valve Driver: electrical checks (R12, R13), the isolation pulse and its watch
(R17), and the lamp (R20, R168). -/

namespace Sys2Proof.Machine
namespace State

/-- The switch of the isolation valve ends FAILED as a fault on valve 10 (R13, R14, R17). -/
def failSwitch (s : State) : State :=
  ((s.endSwitch.setFault isolationValve).liftSwitchFailed).faultOutOfService isolationValve

/-- A FAULTY verdict (R13, R14). -/
def faultyVerdict (s : State) (v : ValveId) : State :=
  if v = isolationValve then s.failSwitch else (((s.endCheck v).closeValve v).setFault v).faultOutOfService v

/-- The verdict of an electrical check (R12). -/
def takeVerdict (s : State) (v : ValveId) (verdict : CoilVerdict) : State :=
  match verdict with
  | .healthy => s.endCheck v
  | .faulty => s.faultyVerdict v

/-- The isolation pulse has run its 150 ms (R17). -/
def pulseDue (s : State) : Bool :=
  s.driver.isolation.switch = .pulsing && s.reached (s.driver.isolation.pulseStart.map (· + Fixed.isolationPulse))

/-- The watch has run its 500 ms (R17). -/
def watchDue (s : State) : Bool :=
  s.watching && s.reached (s.driver.isolation.pulseStart.map (· + Fixed.positionWatch))

/-- The lamp output toggles at the end of a half-period of BLINK (R20). -/
def toggleLamp (s : State) : State :=
  let x := s.driver.lamp
  s.setDriver { s.driver with
    lamp := { x with lit := !x.lit, nextToggle := x.nextToggle.map (· + Fixed.blinkHalf) } }

/-- The half-period of BLINK has ended (R20). -/
def blinkDue (s : State) : Bool := s.reached s.driver.lamp.nextToggle

/-- The lamp test has run its 3 s (R168). -/
def testDue (s : State) : Bool := s.reached s.events.testEnd

/-- The lamp test ends and the derived state is handed over (R168). -/
def endLampTest (s : State) : State := (s.setEvents { s.events with testEnd := none }).deriveLamp

end State

/-- ELECTRICAL_CHECK (R12, R13). -/
def execElectricalCheck (valve : ValveId) (verdict : CoilVerdict) (s : State) :
    Host.Outcome State Fault Refusal :=
  finish (if s.checkDue valve then s.takeVerdict valve verdict else s)

/-- ISOLATION_PULSE_END (R17). -/
def execIsolationPulseEnd (s : State) : Host.Outcome State Fault Refusal :=
  finish (if s.pulseDue then s.setIsolation { s.driver.isolation with switch := .checking } else s)

/-- POSITION_WATCH_EXPIRY (R17). -/
def execPositionWatchExpiry (s : State) : Host.Outcome State Fault Refusal :=
  finish (if s.watchDue then s.failSwitch else s)

/-- LAMP_BLINK (R20). -/
def execLampBlink (s : State) : Host.Outcome State Fault Refusal :=
  finish (if s.blinkDue then s.toggleLamp else s)

/-- LAMP_TEST_END (R168). -/
def execLampTestEnd (s : State) : Host.Outcome State Fault Refusal :=
  finish (if s.testDue then s.endLampTest else s)

end Sys2Proof.Machine
end

