-- ==== Sys2Proof/Machine/Clock.lean ====
section
/-! DEFINITION. The clock: one tick of internal time, and the moments that fall due at it, put into the queue in
one order (log entries 1 and 2). -/

namespace Sys2Proof.Machine

/-- A command that is due, or nothing. -/
def dueIf (due : Bool) (c : Instr) : List Instr := if due then [c] else []

namespace State

/-- A gap after which the partial telegram is dropped (R151). -/
def gapDue (s : State) : Bool := s.link.framer ≠ .hunt && s.gapPassed

/-- The loader run has come to its end (R174). -/
def loaderDue (s : State) : Bool := s.reached (s.startUp.loader.map LoaderRun.ends)

/-- The moments due at the Event Unit, the lamp, the store, start-up and the link. -/
def dueGeneral (s : State) : List Instr :=
  dueIf (s.tagDue && s.events.timeTag ≠ BitVec.allOnes 32) .timeTagAdvance ++
  dueIf (s.tagDue && s.events.timeTag = BitVec.allOnes 32) .timeRollover ++
  dueIf s.blinkDue .lampBlink ++ dueIf s.testDue .lampTestEnd ++
  dueIf (s.writeDone true) .storeWritten ++ dueIf (s.writeDone false) .storeBusyEnd ++
  dueIf s.loaderDue .loaderEnd ++ dueIf s.startUpDone .startUpEnd ++
  dueIf s.gapDue .framerGap ++ dueIf s.linkTimedOut .linkLost ++ dueIf s.summaryReached .summary

/-- The moments due at the inputs, the isolation valve, the Supervisor, the speed record and the lift dwell. -/
def dueControl (s : State) : List Instr :=
  dueIf s.rampDue .debouncedRampReading ++ dueIf s.positionDue .debouncedPosition ++
  dueIf s.pulseDue .isolationPulseEnd ++ dueIf s.watchDue .positionWatchExpiry ++
  dueIf s.supplySteadyDue .supplyRestored ++ dueIf s.speedAged .speedAgeOut ++ dueIf s.dwellDue .liftDwellEnd

/-- The moments due at the engine, the scheduler, the sides and the tyres. R66 gives no order to several promotions
that fall due at one moment: that they are queued in the order of the Demand List is DESIGN CHOICE (log entry 2). -/
def dueAir (s : State) : List Instr :=
  (allCircuits.flatMap fun c => dueIf (s.phaseDue c).isSome (.phaseEnd c)) ++
  (allCircuits.flatMap fun c => dueIf (s.holdoffDue c) (.holdoffEnd c)) ++
  (s.scheduler.demands.flatMap fun d => dueIf (s.promotable d) (.promotion d.circuit)) ++
  dueIf (s.persistenceDue .left) (.persistenceExpiry .left) ++
  dueIf (s.persistenceDue .right) (.persistenceExpiry .right) ++
  (allTyres.flatMap fun t => dueIf (s.intervalExpired t) (.probeIntervalExpiry t))

/-- The commands that are due. -/
def dueCommands (s : State) : List Instr := s.dueGeneral ++ s.dueControl ++ s.dueAir

/-- One millisecond of internal time passes, and the moments due at its end are put into the queue. -/
def tick (s : State) : State :=
  let s := s.setNow (s.now + 1)
  s.setPending (s.pending ++ s.dueCommands)

end State
end Sys2Proof.Machine
end

