-- ==== Sys2Proof/Machine/LinkCommands.lean ====
section
/-! DEFINITION. The commands of the Link Port: characters and telegrams received (R151 to R153), telegrams sent
(R157), the link timeout (R160) and the summary (R159). -/

namespace Sys2Proof.Machine

/-- TELEGRAM_RECEIVED (R152, R153). -/
def execTelegramReceived (chars : List Byte) (s : State) : Host.Outcome State Fault Refusal :=
  finish (s.receive chars)

/-- FRAMER_GAP (R151). -/
def execFramerGap (s : State) : Host.Outcome State Fault Refusal := finish s.dropPartial

/-- CHARACTER_RECEIVED (R151). -/
def execCharacterReceived (c : Byte) (s : State) : Host.Outcome State Fault Refusal := finish (s.takeChar c)

/-- FRAMING_ERROR (R151): the character is discarded and the partial telegram dropped. -/
def execFramingError (s : State) : Host.Outcome State Fault Refusal := finish s.noteChar.dropPartial

/-- TELEGRAM_SENT (R157, R148). -/
def execTelegramSent (s : State) : Host.Outcome State Fault Refusal := finish s.telegramSent

/-- LINK_LOST (R160). -/
def execLinkLost (s : State) : Host.Outcome State Fault Refusal := finish s.judgeLink

/-- SUMMARY (R159). -/
def execSummary (s : State) : Host.Outcome State Fault Refusal :=
  finish (if s.summaryReached then s.offerSummary else s)

end Sys2Proof.Machine
end

