-- ==== Sys2Proof/Machine/RequestCommands.lean ====
section
/-! DEFINITION. The requests as commands: each is the handling (R153) of a valid telegram of its kind with the
body its operands spell (R154; log entry 5). -/

namespace Sys2Proof.Machine

/-- The handling of a request of a kind. -/
def request (k : Kind) (tag : Byte) (body : List Byte) (s : State) : Host.Outcome State Fault Refusal :=
  finish (s.handle k.code tag body)

/-- The two bytes of a word (R162). -/
def wordBytes (w : Word) : List Byte := bytes2 w.toNat

/-- STATUS (R156). -/
def execStatus (tag : Byte) (s : State) : Host.Outcome State Fault Refusal := request .status tag [] s

/-- READ_CIRCUIT (R2). -/
def execReadCircuit (tag id : Byte) (s : State) : Host.Outcome State Fault Refusal :=
  request .readCircuit tag [id] s

/-- READ_SIDE (R59). -/
def execReadSide (tag side : Byte) (s : State) : Host.Outcome State Fault Refusal :=
  request .readSide tag [side] s

/-- READ_SENSORS (R41). -/
def execReadSensors (tag : Byte) (s : State) : Host.Outcome State Fault Refusal := request .readSensors tag [] s

/-- SET_MODE (R106). -/
def execSetMode (tag mode : Byte) (height : Option Word) (s : State) : Host.Outcome State Fault Refusal :=
  request .setMode tag (mode :: (height.map wordBytes).getD []) s

/-- STEP_HEIGHT (R107). -/
def execStepHeight (tag step : Byte) (s : State) : Host.Outcome State Fault Refusal :=
  request .stepHeight tag [step] s

/-- LIFT with action RAISE (R117, R118). -/
def execLiftRaise (tag : Byte) (s : State) : Host.Outcome State Fault Refusal := request .lift tag [0#8] s

/-- LIFT with action LOWER (R117, R120). -/
def execLiftLower (tag : Byte) (s : State) : Host.Outcome State Fault Refusal := request .lift tag [1#8] s

/-- LIFT with action AUTO (R117). -/
def execLiftAuto (tag : Byte) (s : State) : Host.Outcome State Fault Refusal := request .lift tag [2#8] s

/-- LIFT with action MANUAL (R117). -/
def execLiftManual (tag : Byte) (s : State) : Host.Outcome State Fault Refusal := request .lift tag [3#8] s

/-- CIRCUIT with action RESUME (R9, R136). -/
def execCircuitResume (tag id : Byte) (s : State) : Host.Outcome State Fault Refusal :=
  request .circuit tag [0#8, id] s

/-- CIRCUIT with action ISOLATE (R135). -/
def execCircuitIsolate (tag id : Byte) (s : State) : Host.Outcome State Fault Refusal :=
  request .circuit tag [1#8, id] s

/-- CIRCUIT with action PROBE (R137). -/
def execCircuitProbe (tag id : Byte) (s : State) : Host.Outcome State Fault Refusal :=
  request .circuit tag [2#8, id] s

/-- SURVEY (R138). -/
def execSurvey (tag : Byte) (s : State) : Host.Outcome State Fault Refusal := request .survey tag [] s

/-- SPEED (R109). -/
def execSpeed (tag kmh : Byte) (s : State) : Host.Outcome State Fault Refusal := request .speed tag [kmh] s

/-- GET_PARAM (R161, R170). -/
def execGetParam (tag number : Byte) (channel : Option Byte) (s : State) : Host.Outcome State Fault Refusal :=
  request .getParam tag (number :: channel.toList) s

/-- SET_PARAM (R161, R170). -/
def execSetParam (tag number : Byte) (value : List Byte) (s : State) : Host.Outcome State Fault Refusal :=
  request .setParam tag (number :: value) s

/-- EVENTS (R165). -/
def execEvents (tag : Byte) (s : State) : Host.Outcome State Fault Refusal := request .events tag [] s

/-- CLEAR (R156, R15). -/
def execClear (tag : Byte) (s : State) : Host.Outcome State Fault Refusal := request .clear tag [] s

/-- TIME (R163). -/
def execTime (tag : Byte) (value : BitVec 32) (s : State) : Host.Outcome State Fault Refusal :=
  request .time tag (bytes4 value.toNat) s

/-- CONTROL with action RUN (R147). -/
def execControlRun (tag : Byte) (s : State) : Host.Outcome State Fault Refusal := request .control tag [0#8] s

/-- CONTROL with action HOLD (R147). -/
def execControlHold (tag : Byte) (s : State) : Host.Outcome State Fault Refusal := request .control tag [1#8] s

/-- CONTROL with action RESTART (R147, R148). -/
def execControlRestart (tag : Byte) (s : State) : Host.Outcome State Fault Refusal := request .control tag [2#8] s

/-- LAMP_TEST (R168). -/
def execLampTest (tag : Byte) (s : State) : Host.Outcome State Fault Refusal := request .lampTest tag [] s

/-- PROFILE_BEGIN (R172). -/
def execProfileBegin (tag : Byte) (s : State) : Host.Outcome State Fault Refusal := request .profileBegin tag [] s

/-- PROFILE_PUT (R172). -/
def execProfilePut (tag : Byte) (head first : Word) (values : List Word) (s : State) :
    Host.Outcome State Fault Refusal :=
  request .profilePut tag (wordBytes head ++ wordBytes first ++ bytesOf values) s

/-- PROFILE_END (R172). -/
def execProfileEnd (tag : Byte) (s : State) : Host.Outcome State Fault Refusal := request .profileEnd tag [] s

/-- PROFILE_RELOAD (R172). -/
def execProfileReload (tag : Byte) (s : State) : Host.Outcome State Fault Refusal :=
  request .profileReload tag [] s

/-- PROFILE_READ (R172). -/
def execProfileRead (tag : Byte) (index : Word) (s : State) : Host.Outcome State Fault Refusal :=
  request .profileRead tag (wordBytes index) s

end Sys2Proof.Machine
end

