-- ==== Sys2Proof/Machine/Dispatch.lean ====
section
/-! DEFINITION. One arm per command; each calls the command's meaning. -/

namespace Sys2Proof.Machine

/-- The effect of a command on everything but the queue. -/
def exec (i : Instr) (s : State) : Host.Outcome State Fault Refusal :=
  match i with
  | .powerOnReset => Sys2Proof.Machine.execPowerOnReset s
  | .restart => Sys2Proof.Machine.execRestart s
  | .telegramReceived chars => Sys2Proof.Machine.execTelegramReceived chars s
  | .framerGap => Sys2Proof.Machine.execFramerGap s
  | .telegramSent => Sys2Proof.Machine.execTelegramSent s
  | .linkLost => Sys2Proof.Machine.execLinkLost s
  | .summary => Sys2Proof.Machine.execSummary s
  | .status tag => Sys2Proof.Machine.execStatus tag s
  | .readCircuit tag id => Sys2Proof.Machine.execReadCircuit tag id s
  | .readSide tag side => Sys2Proof.Machine.execReadSide tag side s
  | .readSensors tag => Sys2Proof.Machine.execReadSensors tag s
  | .setMode tag mode height => Sys2Proof.Machine.execSetMode tag mode height s
  | .stepHeight tag step => Sys2Proof.Machine.execStepHeight tag step s
  | .liftRaise tag => Sys2Proof.Machine.execLiftRaise tag s
  | .liftLower tag => Sys2Proof.Machine.execLiftLower tag s
  | .liftAuto tag => Sys2Proof.Machine.execLiftAuto tag s
  | .liftManual tag => Sys2Proof.Machine.execLiftManual tag s
  | .circuitResume tag id => Sys2Proof.Machine.execCircuitResume tag id s
  | .circuitIsolate tag id => Sys2Proof.Machine.execCircuitIsolate tag id s
  | .circuitProbe tag id => Sys2Proof.Machine.execCircuitProbe tag id s
  | .survey tag => Sys2Proof.Machine.execSurvey tag s
  | .speed tag kmh => Sys2Proof.Machine.execSpeed tag kmh s
  | .getParam tag number channel => Sys2Proof.Machine.execGetParam tag number channel s
  | .setParam tag number value => Sys2Proof.Machine.execSetParam tag number value s
  | .events tag => Sys2Proof.Machine.execEvents tag s
  | .clear tag => Sys2Proof.Machine.execClear tag s
  | .time tag value => Sys2Proof.Machine.execTime tag value s
  | .controlRun tag => Sys2Proof.Machine.execControlRun tag s
  | .controlHold tag => Sys2Proof.Machine.execControlHold tag s
  | .controlRestart tag => Sys2Proof.Machine.execControlRestart tag s
  | .lampTest tag => Sys2Proof.Machine.execLampTest tag s
  | .lampTestEnd => Sys2Proof.Machine.execLampTestEnd s
  | .profileBegin tag => Sys2Proof.Machine.execProfileBegin tag s
  | .profilePut tag head first values => Sys2Proof.Machine.execProfilePut tag head first values s
  | .profileEnd tag => Sys2Proof.Machine.execProfileEnd tag s
  | .profileReload tag => Sys2Proof.Machine.execProfileReload tag s
  | .profileRead tag index => Sys2Proof.Machine.execProfileRead tag index s
  | .storeWritten => Sys2Proof.Machine.execStoreWritten s
  | .storeBusyEnd => Sys2Proof.Machine.execStoreBusyEnd s
  | .storeFailed index found => Sys2Proof.Machine.execStoreFailed index found s
  | .loaderEnd => Sys2Proof.Machine.execLoaderEnd s
  | .startUpEnd => Sys2Proof.Machine.execStartUpEnd s
  | .analogReading channel raw => Sys2Proof.Machine.execAnalogReading channel raw s
  | .rampContactChange noClosed ncClosed => Sys2Proof.Machine.execRampContactChange noClosed ncClosed s
  | .debouncedRampReading => Sys2Proof.Machine.execDebouncedRampReading s
  | .positionSwitchChange position => Sys2Proof.Machine.execPositionSwitchChange position s
  | .debouncedPosition => Sys2Proof.Machine.execDebouncedPosition s
  | .electricalCheck valve verdict => Sys2Proof.Machine.execElectricalCheck valve verdict s
  | .isolationPulseEnd => Sys2Proof.Machine.execIsolationPulseEnd s
  | .positionWatchExpiry => Sys2Proof.Machine.execPositionWatchExpiry s
  | .lampBlink => Sys2Proof.Machine.execLampBlink s
  | .promotion circuit => Sys2Proof.Machine.execPromotion circuit s
  | .phaseEnd circuit => Sys2Proof.Machine.execPhaseEnd circuit s
  | .holdoffEnd circuit => Sys2Proof.Machine.execHoldoffEnd circuit s
  | .speedAgeOut => Sys2Proof.Machine.execSpeedAgeOut s
  | .persistenceExpiry side => Sys2Proof.Machine.execPersistenceExpiry side s
  | .liftDwellEnd => Sys2Proof.Machine.execLiftDwellEnd s
  | .probeIntervalExpiry tyre => Sys2Proof.Machine.execProbeIntervalExpiry tyre s
  | .supplyRestored => Sys2Proof.Machine.execSupplyRestored s
  | .timeTagAdvance => Sys2Proof.Machine.execTimeTagAdvance s
  | .timeRollover => Sys2Proof.Machine.execTimeRollover s
  | .characterReceived char => Sys2Proof.Machine.execCharacterReceived char s
  | .framingError => Sys2Proof.Machine.execFramingError s

end Sys2Proof.Machine
end

