-- ==== Sys2Proof/Safety.lean ====
section
/-! DEFINITION. What counts as a safe unit: the laws that the chapters state of every moment, as properties of a
state. Each is kept by every command and by the passing of internal time. -/

namespace Sys2Proof.Machine
namespace State

/-- Nothing moves air: no demand waits, no transaction is in flight, and every valve output but the latching
isolation valve's is CLOSED (R77, R101, R145). -/
def AirAtRest (s : State) : Prop :=
  s.scheduler.demands = [] ∧ s.engine = [] ∧ ∀ v : ValveId, v ≠ isolationValve → (s.valve v).isOpen = false

/-- Air is moved in RUNNING alone (R63, R77, R101, R145). -/
def QuietUnlessRunning (s : State) : Prop := s.isRunning = false → s.AirAtRest

/-- The Demand List is in the order of R62: no demand stands behind one that it goes before. -/
def DemandsOrdered (s : State) : Prop := s.scheduler.demands.Pairwise fun d e => e.before d = false

/-- At most one wheel valve is open (R11). -/
def OneWheelOpen (s : State) : Prop :=
  ∀ t u : TyreId, (s.valve (wheelValve t)).isOpen = true → (s.valve (wheelValve u)).isOpen = true → t = u

/-- The strike count of every circuit is 0, 1 or 2 (R4, R95). -/
def StrikesBounded (s : State) : Prop := ∀ c : CircuitId, (s.circuit c).strikes ≤ 2

/-- The engine has at most five transactions (R80), the Event Queue at most 48 records (R165), and the Transmit
Queue at most 8 telegrams, the place secured for a reply counted (R157). -/
def QueuesBounded (s : State) : Prop :=
  s.engine.length ≤ Fixed.slots ∧ s.events.queue.length ≤ Fixed.eventPlaces ∧
    s.link.queue.length + bitAt 0 s.link.secured ≤ Fixed.transmitPlaces

/-- The history of every channel is within its capacity (R21, R26), its bad score within 20 and its good run
within 25 (R30). -/
def ChannelsBounded (s : State) : Prop :=
  ∀ ch : Channel, (s.channel ch).history.length ≤ historyCapacity ch ∧
    (s.channel ch).badScore ≤ Fixed.badScoreLimit ∧ (s.channel ch).goodRun ≤ Fixed.recoveryRun

/-! ### Terms of the statements about requests -/

/-- The Link Port takes the next request into a free place: the link is UP, no restart is pending, fewer than 8
telegrams are queued (R153, R157); and no hand-off of an earlier act is left. -/
def Ready (s : State) : Prop :=
  s.link.up = true ∧ s.link.restartPending = false ∧ s.link.queue.length < Fixed.transmitPlaces ∧ s.deferred = []

/-- `Ready`, and the control state has left STARTING, so that every kind is served (R155). -/
def Serving (s : State) : Prop := s.Ready ∧ s.supervisor.control ≠ .starting

/-- The state in which the owner of a request takes it: last valid and link seen are written and the reply's place
is secured (R153 steps 1 to 3). -/
def heard (s : State) : State :=
  s.setLink { s.link with lastValid := some s.now, seen := true, up := true, secured := true }

/-- The reply put into its place (R153 step 6): KIND plus 80h, the TAG, the answer's head and data. -/
def replied (s : State) (k : Kind) (tag : Byte) (a : Answer) : State :=
  s.placeReply ⟨.reply, frame (k.code + 0x80#8) tag a.body⟩

/-- An owner's act `t` and answer `a` completed: the act's hand-offs are taken and the reply is placed. -/
def completed (t : State) (k : Kind) (tag : Byte) (a : Answer) : Host.Outcome State Fault Refusal :=
  .next ((t.settle.replied k tag a).settle)

/-- A refused request completed: REQUEST_REFUSED is noted, the reply carries the reason, nothing else happens
(R153). -/
def refusedWith (s : State) (k : Kind) (tag : Byte) (reason : Reason) : Host.Outcome State Fault Refusal :=
  .next ((s.heard.logEvent .requestRefused .refused none (some ((k.code.toNat * 256 + reason.code : Nat) : Int))).replied
    k tag (.refused reason))

end State

/-- A request row as the telegram it stands for: KIND, TAG and BODY (R154). -/
def asTelegram : Instr → Option Incoming
  | .status tag => some ⟨0x01#8, tag, []⟩
  | .readCircuit tag id => some ⟨0x02#8, tag, [id]⟩
  | .readSide tag side => some ⟨0x03#8, tag, [side]⟩
  | .readSensors tag => some ⟨0x04#8, tag, []⟩
  | .setMode tag mode none => some ⟨0x10#8, tag, [mode]⟩
  | .setMode tag mode (some h) => some ⟨0x10#8, tag, [mode, byteOf (h.toNat / 256), byteOf h.toNat]⟩
  | .stepHeight tag step => some ⟨0x11#8, tag, [step]⟩
  | .liftRaise tag => some ⟨0x12#8, tag, [0#8]⟩
  | .liftLower tag => some ⟨0x12#8, tag, [1#8]⟩
  | .liftAuto tag => some ⟨0x12#8, tag, [2#8]⟩
  | .liftManual tag => some ⟨0x12#8, tag, [3#8]⟩
  | .circuitResume tag id => some ⟨0x13#8, tag, [0#8, id]⟩
  | .circuitIsolate tag id => some ⟨0x13#8, tag, [1#8, id]⟩
  | .circuitProbe tag id => some ⟨0x13#8, tag, [2#8, id]⟩
  | .survey tag => some ⟨0x14#8, tag, []⟩
  | .speed tag kmh => some ⟨0x15#8, tag, [kmh]⟩
  | .getParam tag n none => some ⟨0x20#8, tag, [n]⟩
  | .getParam tag n (some ch) => some ⟨0x20#8, tag, [n, ch]⟩
  | .setParam tag n value => some ⟨0x21#8, tag, n :: value⟩
  | .events tag => some ⟨0x30#8, tag, []⟩
  | .clear tag => some ⟨0x31#8, tag, []⟩
  | .time tag v => some ⟨0x32#8, tag, bytes4 v.toNat⟩
  | .controlRun tag => some ⟨0x33#8, tag, [0#8]⟩
  | .controlHold tag => some ⟨0x33#8, tag, [1#8]⟩
  | .controlRestart tag => some ⟨0x33#8, tag, [2#8]⟩
  | .lampTest tag => some ⟨0x34#8, tag, []⟩
  | .profileBegin tag => some ⟨0x40#8, tag, []⟩
  | .profilePut tag head first values =>
    some ⟨0x41#8, tag, bytes2 head.toNat ++ bytes2 first.toNat ++ bytesOf values⟩
  | .profileEnd tag => some ⟨0x42#8, tag, []⟩
  | .profileReload tag => some ⟨0x43#8, tag, []⟩
  | .profileRead tag index => some ⟨0x44#8, tag, bytes2 index.toNat⟩
  | .powerOnReset => none
  | .restart => none
  | .telegramReceived _ => none
  | .framerGap => none
  | .telegramSent => none
  | .linkLost => none
  | .summary => none
  | .lampTestEnd => none
  | .storeWritten => none
  | .storeBusyEnd => none
  | .storeFailed _ _ => none
  | .loaderEnd => none
  | .startUpEnd => none
  | .analogReading _ _ => none
  | .rampContactChange _ _ => none
  | .debouncedRampReading => none
  | .positionSwitchChange _ => none
  | .debouncedPosition => none
  | .electricalCheck _ _ => none
  | .isolationPulseEnd => none
  | .positionWatchExpiry => none
  | .lampBlink => none
  | .promotion _ => none
  | .phaseEnd _ => none
  | .holdoffEnd _ => none
  | .speedAgeOut => none
  | .persistenceExpiry _ => none
  | .liftDwellEnd => none
  | .probeIntervalExpiry _ => none
  | .supplyRestored => none
  | .timeTagAdvance => none
  | .timeRollover => none
  | .characterReceived _ => none
  | .framingError => none

end Sys2Proof.Machine
end

