-- ==== Sys2Proof/WellFormed.lean ====
section
/-! DEFINITION. The commands that the link can deliver: a complete telegram has the frame of R162, and a
request's body is at most 48 characters long. The other operands are of types that admit nothing else. -/

namespace Sys2Proof

/-- The frame of R162: SYNC, a LENGTH of at most 48, and as many characters as LENGTH asks for. -/
def isCompleteTelegram : List Byte → Bool
  | sync :: len :: rest => sync == 0xC3#8 && decide (len.toNat ≤ 48) && rest.length == len.toNat + 4
  | _ => false

/-- The check on a command's operands. -/
def Instr.wellFormed : Instr → Bool
  | .telegramReceived chars => isCompleteTelegram chars
  | .setParam _ _ value => decide (value.length ≤ 47)
  | .profilePut _ _ _ values => decide (values.length ≤ 22)
  | _ => true

end Sys2Proof
end

