-- ==== Sys2Proof/Certificates/Slice0/Obligations.lean ====
section
/-! DEFINITION. The statements for the provers. Each is a property of the model stated from a rule of spec/, or, where
its docstring says so, of a choice the model makes. -/

open Sys2Proof Sys2Proof.Machine

/-- A step runs the command at the front of the queue. For every command c and state s, a step of s with c at the
front of its queue is exec of c on s with the rest of the queue. (95_what_each_step_holds.md.) -/
def Obligations.StepRunsFrontCommand : Prop :=
  ∀ (c : Instr) (rest : List Instr) (s : State), s.pending = c :: rest → step s = exec c (s.setPending rest)

/-- On an empty queue a millisecond passes (the model's choice, log entries 1 and 2). With no command waiting, a
step lets internal time pass by 1 ms and puts the commands then due, in the model's order, into the queue;
nothing else changes. How time passes is the model's choice (log entries 1 and 2). (00_scope.md "Time",
95_what_each_step_holds.md.) -/
def Obligations.IdleStepIsOneTick : Prop :=
  ∀ s : State, s.pending = [] →
    step s = .next ((s.setNow (s.now + 1)).setPending (s.setNow (s.now + 1)).dueCommands)

/-- What the first power-on reset leaves. After the reset: control state STARTING with no reason set, reserve LOW
and valve supply LOW_SUPPLY, neither judged; every circuit ABSENT with no measured value, target, strikes or
outcome; every valve CLOSED with a clear fault flag; the lamp OFF; the Demand List empty and both resources
free; no transaction; mode RIDE with target 290; ramp UNKNOWN, not read; lift DOWN, not reconciled; every
channel UNKNOWN with an empty history; link LOST with an empty Transmit Queue; Event Queue and condition set
empty, no flag set; time tag 0; the default configuration; the loader running for 50 ms. That internal time is
then 0 and busy until the end of the loader run is the model's (log entries 8 and 37). (R4, R19, R40, R78, R104,
R116, R139, R150, R163, R165, R169, R176.) -/
def Obligations.ResetValues : Prop :=
  State.reset.supervisor = ⟨.starting, false, false, .low, false, true, false, none⟩ ∧
  (∀ c : CircuitId, State.reset.circuit c = CircuitRecord.initial ∧ State.reset.isPresent c = false) ∧
  (∀ v : ValveId, State.reset.valve v = ⟨false, false, none, false⟩) ∧
  State.reset.driver.lamp = ⟨.off, false, none⟩ ∧
  State.reset.driver.isolation = ⟨none, .ready, none⟩ ∧
  State.reset.scheduler = ⟨[], none, none⟩ ∧ State.reset.engine = [] ∧
  State.reset.height.mode = .ride ∧ State.reset.height.target = some 290 ∧
  State.reset.height.ramp = .unknown ∧ State.reset.height.rampRead = false ∧ State.reset.height.speed = none ∧
  State.reset.lift.state = .down ∧ State.reset.lift.reconciled = false ∧
  (∀ ch : Channel, State.reset.channel ch = ⟨none, [], none, .unknown, 0, 0⟩) ∧
  State.reset.link = ⟨.hunt, [], none, [], false, false, false, none, none, false⟩ ∧
  State.reset.events.queue = [] ∧ State.reset.events.overrun = false ∧ State.reset.events.detected = 0 ∧
  State.reset.events.conditions = [] ∧ State.reset.events.timeTag = 0 ∧
  State.reset.params = Params.defaults ∧
  State.reset.store.writeIndex = none ∧ State.reset.store.busyUntil = some 50 ∧
  State.reset.startUp = ⟨0, some ⟨50, false⟩, none, false⟩

/-- POWER_ON_RESET keeps the profile image alone. In every state POWER_ON_RESET answers the values after reset:
nothing of any block is kept but the profile image, with the words a stopped write has not yet come to as they
were. The input pins keep their levels and the waiting commands stay (log entries 6, 8 and 26). How far a
stopped write has come is the model's (log entry 11). (R148, R172, R173.) -/
def Obligations.PowerOnResetKeepsTheImage : Prop :=
  ∀ s : State, exec .powerOnReset s = .next (State.afterReset 0 (interruptedImage s.store s.now)
    s.sensing.ramp.noClosed s.sensing.ramp.ncClosed s.sensing.position.raw s.pending)

/-- A restart keeps four items of the Event Unit. When the reply to CONTROL RESTART is being sent and its last
character goes out (TELEGRAM_SENT or RESTART, which the model takes as one moment with one effect: its reading,
log entry 9), every block takes its values after reset; the Event Unit keeps the Event Queue, its overrun flag,
the detected flags and the time tag; RESTARTED (ADVISORY, no circuit, value 0) is captured as the first event of
the new run and sets its detected flag; the Transmit Queue is empty. Internal time, the input pins and the
waiting commands go on (log entries 6, 8 and 26). How far a stopped write has come is the model's (log entry
11). (R148, R163, R165, R166.) -/
def Obligations.RestartKeepsFourItems : Prop :=
  ∀ s : State, s.restartAtHead = true → s.link.restartPending = true →
    let kept := capture ⟨s.events.timeTag, .restarted, .advisory, none, some 0⟩ s.events
    let t := (State.afterReset s.now (interruptedImage s.store s.now) s.sensing.ramp.noClosed
      s.sensing.ramp.ncClosed s.sensing.position.raw s.pending).setEvents
        { timeTag := s.events.timeTag, nextAdvance := s.events.nextAdvance, queue := kept.queue,
          overrun := kept.overrun, detected := s.events.detected ||| 1#4, conditions := [], testEnd := none }
    exec .restart s = .next t ∧ exec .telegramSent s = .next t

/-- Air is moved in RUNNING alone, whatever the unit is commanded. If, while the unit is not RUNNING, no demand
waits, no transaction is in flight and every valve but the isolation valve is CLOSED, then so it is after every
step. In particular every departure from RUNNING (CONTROL HOLD, low supply, a failed reload, a restart) brings
the air to rest as one act. (R63, R77, R101, R145, R19.) -/
def Obligations.StepQuietUnlessRunning : Prop :=
  ∀ s t : State, s.QuietUnlessRunning → step s = .next t → t.QuietUnlessRunning

/-- Every step keeps the Demand List in its order. If no demand of the list stands behind one of a less urgent
class, or behind one of its class with a later entry mark, then so it is after every step: joins, raises,
promotions, removals and grants keep the order. (R62, R63, R64, R66, R74.) -/
def Obligations.StepDemandsOrdered : Prop :=
  ∀ s t : State, s.DemandsOrdered → step s = .next t → t.DemandsOrdered

/-- At most one wheel valve is open after every step. If at most one of the wheel valves W1 to W12 is open, then at
most one is open after every step. (R11.) -/
def Obligations.StepOneWheelOpen : Prop :=
  ∀ s t : State, s.OneWheelOpen → step s = .next t → t.OneWheelOpen

/-- The strike count of every circuit stays 0, 1 or 2. If the strike count of every circuit is at most 2, then so it
is after every step. (R95, R3.) -/
def Obligations.StepStrikesBounded : Prop :=
  ∀ s t : State, s.StrikesBounded → step s = .next t → t.StrikesBounded

/-- No step overfills the engine, the Event Queue or the Transmit Queue. If at most 5 transactions are in flight,
the Event Queue holds at most 48 records and the Transmit Queue, a secured place counted, at most 8 telegrams,
then so it is after every step. (R80, R157, R165.) -/
def Obligations.StepQueuesBounded : Prop :=
  ∀ s t : State, s.QueuesBounded → step s = .next t → t.QueuesBounded

/-- Histories, bad scores and good runs stay within their limits. If every channel's history is within its capacity,
its bad score within 20 and its good run within 25, then so it is after every step. (R26, R30.) -/
def Obligations.StepChannelsBounded : Prop :=
  ∀ s t : State, s.ChannelsBounded → step s = .next t → t.ChannelsBounded

/-- The laws kept by every step hold at reset. At State.reset nothing moves air, the Demand List is in order, at
most one wheel valve is open, and every count is within its bound. (R19, R40, R78, R139, R150, R165.) -/
def Obligations.ResetIsSafe : Prop :=
  State.reset.QuietUnlessRunning ∧ State.reset.DemandsOrdered ∧ State.reset.OneWheelOpen ∧
    State.reset.StrikesBounded ∧ State.reset.QueuesBounded ∧ State.reset.ChannelsBounded

/-- A telegram is checked, discarded or handled, and refused for its KIND, its length or its codes. CHECK computed
over the nine characters 31h to 39h is 29B1h. For every KIND, TAG and body of at most 48 characters: the frame
with the CHECK of R152 is a valid telegram and its reception is the handling of R153; the same characters with
any other CHECK word change nothing at all. A valid telegram that arrives while a restart is pending is
discarded once last valid, link seen and the link state are written. While the Link Port is ready: a KIND that
is none of the 22 of R154 is refused with UNKNOWN_KIND (value KIND x 256 + 1, reply KIND plus 80h modulo 256,
log entry 21), in every control state; a body whose length is not one R154 allows its kind is refused with
BAD_LENGTH, for the kinds served while STARTING in every control state and for the others after it; a GET_PARAM
or SET_PARAM whose first byte names no parameter is refused with BAD_ARGUMENT before its length is tested, and
then with BAD_LENGTH for a length R161 does not allow; a PROFILE_PUT whose length does not match its count is
refused with BAD_LENGTH; an action code beyond those of LIFT, CIRCUIT or CONTROL is refused with BAD_ARGUMENT.
That a LIFT code is tested before the presence of the lift axle is the model's choice (log entry 66). (R148,
R152, R153, R154, R155, R161, R162.) -/
def Obligations.TelegramsAreChecked : Prop :=
  checkWord [0x31#8, 0x32#8, 0x33#8, 0x34#8, 0x35#8, 0x36#8, 0x37#8, 0x38#8, 0x39#8] = 0x29B1#16 ∧
  (∀ (kind tag : Byte) (body : List Byte) (s : State), body.length ≤ 48 →
    exec (.telegramReceived (frame kind tag body)) s = .next (s.handle kind tag body).settle ∧
    ∀ w : Word, w ≠ checkWord (byteOf body.length :: kind :: tag :: body) → s.deferred = [] →
      exec (.telegramReceived ([0xC3#8, byteOf body.length, kind, tag] ++ body ++ bytes2 w.toNat)) s = .next s) ∧
  (∀ (kind tag : Byte) (body : List Byte) (s : State), body.length ≤ 48 → s.link.restartPending = true →
    exec (.telegramReceived (frame kind tag body)) s = .next s.linkHeard.settle) ∧
  (∀ (kind tag : Byte) (body : List Byte) (s : State), body.length ≤ 48 → s.Ready →
    kind.toNat ∉ [0x01, 0x02, 0x03, 0x04, 0x10, 0x11, 0x12, 0x13, 0x14, 0x15, 0x20, 0x21, 0x30, 0x31, 0x32, 0x33, 0x34,
      0x40, 0x41, 0x42, 0x43, 0x44] →
    exec (.telegramReceived (frame kind tag body)) s = .next ((s.heard.logEvent .requestRefused .refused none
      (some ((kind.toNat * 256 + 1 : Nat) : Int))).placeReply ⟨.reply, frame (kind + 0x80#8) tag [3#8, 1#8]⟩)) ∧
  (∀ (tag : Byte) (body : List Byte) (s : State), body.length ≤ 48 → s.Ready →
    let fixedLengths : List (Kind × List Nat) := [(.setMode, [1, 3]), (.stepHeight, [1]), (.lift, [1]), (.circuit, [2]),
      (.survey, [0]), (.speed, [1]), (.clear, [0]), (.time, [4]), (.control, [1]), (.lampTest, [0]),
      (.profileBegin, [0]), (.profileEnd, [0]), (.profileReload, [0]), (.profileRead, [2])]
    let always : List (Kind × List Nat) := [(.status, [0]), (.readCircuit, [1]), (.readSide, [1]), (.readSensors, [0]),
      (.events, [0])]
    (∀ x ∈ always, body.length ∉ x.2 →
      exec (.telegramReceived (frame x.1.code tag body)) s = s.refusedWith x.1 tag .badLength) ∧
    (s.supervisor.control ≠ .starting → ∀ x ∈ fixedLengths, body.length ∉ x.2 →
      exec (.telegramReceived (frame x.1.code tag body)) s = s.refusedWith x.1 tag .badLength)) ∧
  (∀ (tag : Byte) (s : State), s.Serving →
    exec (.telegramReceived (frame 0x20#8 tag [])) s = s.refusedWith .getParam tag .badLength ∧
    exec (.telegramReceived (frame 0x21#8 tag [])) s = s.refusedWith .setParam tag .badLength) ∧
  (∀ (tag n : Byte) (value : List Byte) (s : State), value.length ≤ 47 → s.Serving →
    let name := n.toNat
    let fits := if name = 51 ∨ name = 52 then
        value.length % 3 = 0 ∧ 2 ≤ value.length / 3 ∧ value.length / 3 ≤ (if name = 51 then 8 else 12)
      else if name = 96 then value.length = 7 else value.length = 2
    (isParam name = false →
      exec (.telegramReceived (frame 0x20#8 tag (n :: value))) s = s.refusedWith .getParam tag .badArgument ∧
      exec (.telegramReceived (frame 0x21#8 tag (n :: value))) s = s.refusedWith .setParam tag .badArgument) ∧
    (isParam name = true → value.length ≠ (if name = 96 then 1 else 0) →
      exec (.telegramReceived (frame 0x20#8 tag (n :: value))) s = s.refusedWith .getParam tag .badLength) ∧
    (isParam name = true → ¬fits →
      exec (.telegramReceived (frame 0x21#8 tag (n :: value))) s = s.refusedWith .setParam tag .badLength)) ∧
  (∀ (tag a b c d : Byte) (rest : List Byte) (s : State), rest.length ≤ 44 → s.Serving →
    (∀ short ∈ [[], [a], [a, b], [a, b, c]],
      exec (.telegramReceived (frame 0x41#8 tag short)) s = s.refusedWith .profilePut tag .badLength) ∧
    (rest.length ≠ 2 * (b.toNat % 64 + 1) → exec (.telegramReceived (frame 0x41#8 tag (a :: b :: c :: d :: rest))) s =
      s.refusedWith .profilePut tag .badLength)) ∧
  (∀ (tag a b : Byte) (s : State), s.Serving →
    (3 < a.toNat → exec (.telegramReceived (frame 0x12#8 tag [a])) s = s.refusedWith .lift tag .badArgument) ∧
    (2 < a.toNat → exec (.telegramReceived (frame 0x13#8 tag [a, b])) s = s.refusedWith .circuit tag .badArgument) ∧
    (2 < a.toNat → exec (.telegramReceived (frame 0x33#8 tag [a])) s = s.refusedWith .control tag .badArgument))

/-- A request row is the reception of its telegram. For every well-formed request command, exec of it is exec of the
reception of the telegram with the KIND code of R154, its TAG, and its operands as the body. That a request row
stands for the whole reception of its telegram is the model's reading (log entry 5). (R154, R153, R161.) -/
def Obligations.RequestRowsAreTelegrams : Prop :=
  ∀ (c : Instr) (x : Incoming) (s : State), c.wellFormed = true → asTelegram c = some x →
    x.body.length ≤ 48 ∧ exec c s = exec (.telegramReceived (frame x.kind x.tag x.body)) s

/-- The framer takes a character by its state. The table of R151, for a character after no gap: what each framer
state does with it. After a gap of more than 5 ms, and at a framing error and a FRAMER_GAP, the partial telegram
is dropped and the framer is in HUNT; the character that ends a gap is taken in HUNT. That the gap is measured
in whole milliseconds, and that FRAMER_GAP is the gap itself, is the model's (log entry 17). (R151.) -/
def Obligations.FramerTable : Prop :=
  (∀ (c : Byte) (s : State), s.deferred = [] → s.gapPassed = false →
    let part := s.link.partialTelegram ++ [c]
    let put (f : FramerState) (p : List Byte) : Host.Outcome State Fault Refusal :=
      .next (s.setLink { s.link with lastChar := some s.now, framer := f, partialTelegram := p })
    (s.link.framer = .hunt → c = 0xC3#8 → exec (.characterReceived c) s = put .length [c]) ∧
    (s.link.framer = .hunt → c ≠ 0xC3#8 → exec (.characterReceived c) s = put .hunt s.link.partialTelegram) ∧
    (s.link.framer = .length → c.toNat ≤ 48 → exec (.characterReceived c) s = put .kind part) ∧
    (s.link.framer = .length → 48 < c.toNat → exec (.characterReceived c) s = put .hunt []) ∧
    (s.link.framer = .kind → exec (.characterReceived c) s = put .tag part) ∧
    (s.link.framer = .tag → State.partialLength part = 0 → exec (.characterReceived c) s = put .check part) ∧
    (s.link.framer = .tag → State.partialLength part ≠ 0 → exec (.characterReceived c) s = put .body part) ∧
    (s.link.framer = .body → part.length = State.partialLength part + 4 →
      exec (.characterReceived c) s = put .check part) ∧
    (s.link.framer = .body → part.length ≠ State.partialLength part + 4 →
      exec (.characterReceived c) s = put .body part) ∧
    (s.link.framer = .check → part.length ≠ State.partialLength part + 6 →
      exec (.characterReceived c) s = put .check part) ∧
    (s.link.framer = .check → part.length = State.partialLength part + 6 →
      exec (.characterReceived c) s = exec (.telegramReceived part)
        (s.setLink { s.link with lastChar := some s.now, framer := .hunt, partialTelegram := [] }))) ∧
  (∀ (c : Byte) (s : State), s.gapPassed = true → exec (.characterReceived c) s =
    exec (.characterReceived c)
      (s.setLink { s.link with lastChar := none, framer := .hunt, partialTelegram := [] })) ∧
  (∀ s : State, s.deferred = [] → exec .framingError s =
    .next (s.setLink { s.link with lastChar := some s.now, framer := .hunt, partialTelegram := [] })) ∧
  (∀ s : State, s.deferred = [] → exec .framerGap s =
    .next (s.setLink { s.link with framer := .hunt, partialTelegram := [] }))

/-- A frame taken character by character is handled as a whole. From HUNT with no gap, taking the characters of any
frame of at most 48 body characters one after another is the handling of that telegram, with the framer back in
HUNT. (R151, R152, R162.) -/
def Obligations.FrameArrivesCharacterByCharacter : Prop :=
  ∀ (kind tag : Byte) (body : List Byte) (s : State), body.length ≤ 48 → s.link.framer = .hunt →
    s.gapPassed = false →
    (frame kind tag body).foldl State.takeChar s =
      (s.setLink { s.link with lastChar := some s.now, framer := .hunt, partialTelegram := [] }).handle kind tag body

/-- A place for a reply is found as R157 says, and a telegram sent leaves the queue. With fewer than 8 telegrams
queued the place is the next at the tail. With 8 or more, the oldest notice behind the one being sent is removed
and everything else keeps its order. Where every telegram behind the one being sent is a reply, no place is
found and the request has no effect but that the link was heard. When the last character of the oldest telegram
has been sent and no restart takes effect by it, that telegram leaves the queue; nothing else changes. That the
telegram at the head is the one being sent is the model's (log entry 10). (R157, R153.) -/
def Obligations.TransmitQueue : Prop :=
  (∀ s : State, s.link.queue.length < 8 → s.securePlace = some (s.setLink { s.link with secured := true })) ∧
  (∀ (s : State) (sending n : Telegram) (pre post : List Telegram),
    s.link.queue = sending :: (pre ++ n :: post) → 8 ≤ s.link.queue.length → n.cls = .notice →
    (∀ x ∈ pre, x.cls ≠ .notice) →
    s.securePlace = some (s.setLink { s.link with queue := sending :: (pre ++ post), secured := true })) ∧
  (∀ (s : State) (sending : Telegram) (rest : List Telegram), s.link.queue = sending :: rest →
    8 ≤ s.link.queue.length → (∀ x ∈ rest, x.cls ≠ .notice) → s.link.up = true →
    ∀ (kind tag : Byte) (body : List Byte),
      s.handle kind tag body = s.setLink { s.link with lastValid := some s.now, seen := true }) ∧
  (∀ (s : State) (x : Telegram) (rest : List Telegram), s.link.queue = x :: rest → s.deferred = [] →
    (x.cls ≠ .restartReply ∨ s.link.restartPending = false) →
    exec .telegramSent s = .next (s.setLink { s.link with queue := rest }))

/-- The link timeout loses the link and a valid telegram restores it. When the link is UP and P90 has passed since
last valid, LINK_LOST makes the link LOST with summary due absent, raises the condition LINK_LOST and logs the
event LINK_LOST (DEGRADED, value P90), removes the notices but for a telegram being sent, keeps every reply, and
changes nothing else. Before that moment it changes nothing. At a valid telegram last valid takes the present
time, link seen becomes yes and the link is UP; when it was LOST and link seen was already yes, LINK_LOST is
cleared and LINK_RESTORED (ADVISORY) logged; when it was LOST, summary due is set to P92 seconds from now,
absent for P92 = 0; when it was UP, nothing else changes. That LINK_LOST carries no circuit and LINK_RESTORED
neither circuit nor value is the model's (log entry 64). That the telegram at the head is the one being sent,
and that a LINK_LOST before its moment changes nothing, is the model's (log entries 3 and 10). (R153, R157,
R159, R160.) -/
def Obligations.LinkState : Prop :=
  (∀ (s : State) (m : Nat), s.link.up = true → s.link.lastValid = some m → m + s.params.p90 ≤ s.now →
    s.deferred = [] → ∃ t, exec .linkLost s = .next t ∧ t.link.up = false ∧ t.link.summaryDue = none ∧
      t.link.queue = s.link.queue.take 1 ++ (s.link.queue.drop 1).filter (fun x => x.cls ≠ .notice) ∧
      t.isActive .linkLost = true ∧ t.events.detected.getLsbD 1 = true) ∧
  (∀ (s : State) (m : Nat), s.link.lastValid = some m → s.now < m + s.params.p90 → s.deferred = [] →
    exec .linkLost s = .next s) ∧
  (∀ s : State, s.linkHeard.link.up = true ∧ s.linkHeard.link.seen = true ∧
    s.linkHeard.link.lastValid = some s.now ∧
    (s.link.up = false → s.linkHeard.link.summaryDue =
      if s.params.p92 = 0 then none else some (s.now + s.params.p92 * 1000)) ∧
    (s.link.up = false → s.link.seen = true → s.linkHeard.isActive .linkLost = false) ∧
    (s.link.up = true → s.linkHeard = s.setLink { s.link with lastValid := some s.now, seen := true })) ∧
  (∀ (s : State) (m : Nat), s.link.up = true → s.link.lastValid = some m → m + s.params.p90 ≤ s.now →
    s.deferred = [] →
    let lost := ((s.setLink { s.link with up := false, summaryDue := none }).raise .linkLost .degraded).logEvent
      .linkLost .degraded none (some s.params.p90)
    exec .linkLost s = .next (lost.setLink { s.link with
      up := false, summaryDue := none
      queue := s.link.queue.take 1 ++ (s.link.queue.drop 1).filter fun x => x.cls ≠ .notice })) ∧
  (∀ s : State, s.link.up = false →
    let heard := s.setLink { s.link with lastValid := some s.now, seen := true, up := true }
    let told := if s.link.seen then (heard.clear .linkLost).logEvent .linkRestored .advisory none none else heard
    s.linkHeard = told.setLink { told.link with
      summaryDue := if s.params.p92 = 0 then none else some (s.now + s.params.p92 * 1000) })

/-- A SUMMARY is offered at summary due, and what it carries. When internal time has reached summary due, SUMMARY
queues a notice of KIND 51h and TAG 0 with the summary block while the link is UP and at least 2 places are
free, and advances summary due by P92 seconds; nothing else changes. The summary block has 11 bytes: presence
(left height, right height, reservoir: channels 5, 6 and 0 VALID), height mode, lift state or FFh while not
reconciled, the two heights and the reservoir value in 2 bytes each, the control state, and lamp state with the
detected flags in bits 7 to 4; the codes are those of R162. The bytes of a value whose channel is not VALID are
the model's (log entry 38). (R159, R157, R162.) -/
def Obligations.SummaryMoment : Prop :=
  (∀ (s : State) (m : Nat), s.link.summaryDue = some m → m ≤ s.now → s.deferred = [] → s.link.secured = false →
    exec .summary s = .next (s.setLink { s.link with
      queue := s.link.queue ++ (if s.link.up = true ∧ s.link.queue.length ≤ 6 then
        [⟨.notice, frame 0x51#8 0#8 s.summaryBlock⟩] else [])
      summaryDue := some (m + s.params.p92 * 1000) })) ∧
  (∀ s : State, s.summaryBlock.length = 11 ∧ s.summaryBlock =
    [byteOf ((if (s.channel 5).status = .valid then 1 else 0) + (if (s.channel 6).status = .valid then 2 else 0) +
        (if (s.channel 0).status = .valid then 4 else 0)),
      byteOf s.height.mode.code, (if s.lift.reconciled then byteOf s.lift.state.code else 0xFF#8)] ++
    bytes2 ((s.validValue 5).getD 0) ++ bytes2 ((s.validValue 6).getD 0) ++ bytes2 ((s.validValue 0).getD 0) ++
    [byteOf s.supervisor.control.code, byteOf (s.driver.lamp.state.code + s.events.detected.toNat * 16)]) ∧
  ([HeightMode.ride, .dock, .custom].map HeightMode.code = [0, 1, 2] ∧
    [LiftState.down, .raising, .up, .lowering].map LiftState.code = [0, 1, 2, 3] ∧
    [ControlState.starting, .unconfigured, .running, .suspended].map ControlState.code = [0, 1, 2, 3] ∧
    [LampState.off, .on, .blink].map LampState.code = [0, 1, 2])

/-- STATUS and the READ requests answer DONE with their block and change nothing else. While the Link Port is ready,
in every control state: STATUS, READ_CIRCUIT of identifiers 0 to 14, READ_SIDE of 0 and 1 and READ_SENSORS are
answered DONE with the block as it stands; apart from last valid, link seen and the queued reply the whole state
is as before. An identifier above 14, or a side above 1, is refused with BAD_ARGUMENT. The status block has 29
bytes, a circuit block 41, a side block 24 and the sensor block 43. Every byte of each is that of the tables of
R162: of the status block the head demand and the valve fault flags among them; of a circuit block the presence
and flag bits, the ages in ms held at FFFFFFFFh, the holdoff remaining, the previous probe, the demand part
while WAITING (R79) and the transaction part while ACTIVE (R103); of a side block the presence bits; of the
sensor block the five bytes of each channel, the comparators, the ramp byte and the position byte. An absent
field or part is sent as 0. That the action, class and wait reason of the head demand are 0 while no demand
waits is the model's choice (log entry 69). (R2, R41, R59, R79, R103, R153, R154, R156, R162.) -/
def Obligations.ReadsChangeNothing : Prop :=
  (∀ (tag : Byte) (s : State), s.Ready →
    exec (.status tag) s = .next (s.heard.replied .status tag (.done s.statusBlock)) ∧
    (∀ (id : Byte) (c : CircuitId), id.toNat = c.val →
      exec (.readCircuit tag id) s = .next (s.heard.replied .readCircuit tag (.done (s.circuitBlock c)))) ∧
    (∀ id : Byte, 14 < id.toNat →
      exec (.readCircuit tag id) s = s.refusedWith .readCircuit tag .badArgument) ∧
    exec (.readSide tag 0#8) s = .next (s.heard.replied .readSide tag (.done (s.sideBlock .left))) ∧
    exec (.readSide tag 1#8) s = .next (s.heard.replied .readSide tag (.done (s.sideBlock .right))) ∧
    (∀ id : Byte, 1 < id.toNat → exec (.readSide tag id) s = s.refusedWith .readSide tag .badArgument) ∧
    exec (.readSensors tag) s = .next (s.heard.replied .readSensors tag (.done s.sensorBlock))) ∧
  (∀ (s : State) (c : CircuitId) (side : Side), s.statusBlock.length = 29 ∧ (s.circuitBlock c).length = 41 ∧
    (s.sideBlock side).length = 24 ∧ s.sensorBlock.length = 43) ∧
  (∀ s : State, s.statusBlock.take 12 =
      [byteOf s.supervisor.control.code,
        byteOf ((if s.supervisor.reasonCab then 1 else 0) + (if s.supervisor.reasonSupply then 2 else 0) +
          (if s.supervisor.reserveJudged then 4 else 0) + (if s.supervisor.supplyJudged then 8 else 0)),
        byteOf s.supervisor.reserve.code, byteOf (if s.supervisor.lowSupply then 1 else 0),
        byteOf s.height.mode.code, byteOf (s.height.ramp.code + (if s.height.rampRead then 128 else 0)),
        (s.height.speed.map byteOf).getD 0xFF#8,
        (if s.lift.reconciled then byteOf s.lift.state.code else 0xFF#8),
        byteOf (if s.params.p84 = .auto then 1 else 0), byteOf s.scheduler.demands.length,
        (s.scheduler.supply.map fun c => byteOf c.val).getD 0xFF#8,
        (s.scheduler.gallery.map fun c => byteOf c.val).getD 0xFF#8] ∧
    s.statusBlock[16]? = some (byteOf s.engine.length) ∧
    (s.statusBlock.drop 20).take 5 = [byteOf s.driver.lamp.state.code, byteOf s.events.detected.toNat,
      byteOf s.events.queue.length, byteOf (if s.events.overrun then 1 else 0),
      (s.startUp.bootCode.map fun b => byteOf b.code).getD 0xFF#8] ∧
    s.statusBlock.drop 25 = bytes4 s.events.timeTag.toNat) ∧
  (∀ (s : State) (c : CircuitId),
    let r := s.circuit c
    (s.circuitBlock c).take 3 = [byteOf c.val, byteOf (circuitKind c).code, byteOf r.state.code] ∧
    ((s.circuitBlock c).drop 5).take 2 = bytes2 (r.measured.getD 0) ∧
    ((s.circuitBlock c).drop 11).take 4 =
      bytes2 (r.target.getD 0) ++ [byteOf r.strikes, byteOf r.lastOutcome.code] ∧
    ((s.circuitBlock c).drop 17).take 2 = bytes2 (r.leakRate.getD 0) ∧ (s.circuitBlock c)[40]? = some 0#8) ∧
  (∀ (s : State) (side : Side),
    let r := s.sideRecord side
    (s.sideBlock side).take 1 = [if side = .left then 0#8 else 1#8] ∧
    (s.sideBlock side).drop 3 = [byteOf r.heightSource.code, byteOf r.source.code] ++ bytes2 (r.heightUsed.getD 0) ++
      bytes2 (r.area.getD 0) ++ bytes2 (r.pressure.getD 0) ++ bytes2 (r.perBellows.getD 0) ++ [byteOf r.axlesDown] ++
      bytes2 (r.sprung.getD 0) ++ bytes2 (r.sideTotal.getD 0) ++ bytes2 (r.perTyre.getD 0) ++
      bytes2 (r.base.getD 0) ++ bytes2 (r.target.getD 0)) ∧
  (∀ (s : State) (ch : Channel),
    let x := s.channel ch
    (s.sensorBlock.drop (5 * ch.val)).take 5 =
      bytes2 ((if x.lastRaw = none then 0 else 32768) + x.status.code * 4096 + ((x.lastRaw.map BitVec.toNat).getD 0)) ++
      bytes2 ((if x.filtered = none then 0 else 32768) + (min 15 x.badScore) * 2048 + (x.filtered.getD 0) % 2048) ++
      [byteOf ((x.badScore - 15) * 32 + x.goodRun)]) ∧
  (∀ s : State,
    (∀ d ∈ s.scheduler.demands.head?, (s.statusBlock.drop 12).take 4 = [byteOf d.circuit.val, byteOf d.action.code,
      byteOf d.cls.number, byteOf d.reason.code]) ∧
    (s.scheduler.demands = [] → (s.statusBlock.drop 12).take 4 = [0xFF#8, 0#8, 0#8, 0#8]) ∧
    (s.statusBlock.drop 17).take 3 = bytes3 s.faultBits ∧ s.faultBits < 2 ^ 22 ∧
    (∀ v : ValveId, s.faultBits.testBit (valveNumber v - 1) = (s.valve v).fault)) ∧
  (∀ (s : State) (c : CircuitId),
    let r := s.circuit c
    let block := s.circuitBlock c
    let flag (b : Bool) (n : Nat) : Nat := if b then n else 0
    let waits := decide (r.state = .waiting) && (s.demandOf c).isSome
    let runs := decide (r.state = .active) && (s.transactionOn c).isSome
    block[3]? = some (byteOf (flag r.measured.isSome 1 + flag r.readMark.isSome 2 + flag r.target.isSome 4 +
      flag r.leakRate.isSome 8 + flag r.previousProbe.isSome 16 + flag r.holdoffEnd.isSome 32 + flag waits 64 +
      flag runs 128)) ∧
    (∀ w : TyreId, c = tyreCircuit w →
      block[4]? = some (byteOf (flag r.frozen 1 + flag r.probeDue 2 + flag (s.tyre w).leaking 4 +
        flag (s.tyre w).low 8 + flag (s.tyre w).watch 16 + flag (s.tyre w).cause.isSome 32)) ∧
      block[25]? = some (byteOf (((s.tyre w).cause.map IsolationCause.code).getD 0))) ∧
    (c.val ≤ 2 → block[4]? = some (byteOf (flag r.frozen 1 + flag r.probeDue 2)) ∧ block[25]? = some 0#8) ∧
    (block.drop 7).take 4 = bytes4 (min 0xFFFFFFFF ((r.readMark.map fun m => s.now - m).getD 0)) ∧
    (block.drop 15).take 2 = bytes2 ((r.holdoffEnd.map fun m => m - s.now).getD 0) ∧
    (block.drop 19).take 6 = bytes2 ((r.previousProbe.map Probe.pressure).getD 0) ++
      bytes4 (min 0xFFFFFFFF ((r.previousProbe.map fun q => s.now - q.mark).getD 0)) ∧
    (∀ d, s.demandOf c = some d → r.state = .waiting → (block.drop 26).take 6 = [byteOf d.action.code,
      byteOf d.cls.number, byteOf d.reason.code,
      byteOf (s.scheduler.demands.findIdx (fun e => e.circuit == c) + 1)] ++ bytes2 (min 65535 ((s.now - d.mark) / 1000))) ∧
    (waits = false → (block.drop 26).take 6 = [0#8, 0#8, 0#8, 0#8, 0#8, 0#8]) ∧
    (∀ t, s.transactionOn c = some t → r.state = .active → (block.drop 32).take 8 = [byteOf t.kind.code,
      byteOf t.kind.direction.code, byteOf t.phase.code] ++ bytes2 (t.phaseEnd - s.now) ++
      bytes2 (t.pulseTime.getD 0xFFFF) ++ [byteOf (flag t.holdsSupply 1 + flag t.holdsGallery 2)]) ∧
    (runs = false → (block.drop 32).take 8 = [0#8, 0#8, 0#8, 0#8, 0#8, 0#8, 0#8, 0#8])) ∧
  (∀ (s : State) (side : Side),
    let r := s.sideRecord side
    let flag (b : Bool) (n : Nat) : Nat := if b then n else 0
    ((s.sideBlock side).drop 1).take 2 = bytes2 (flag r.heightUsed.isSome 1 + flag r.area.isSome 2 +
      flag r.pressure.isSome 4 + flag r.perTyre.isSome 8 + flag r.base.isSome 16 + flag r.target.isSome 32 +
      flag r.overload 256 + flag r.allowanceApplied 512 + flag s.estimator.allowance 1024)) ∧
  (∀ s : State,
    let flag (b : Bool) (n : Nat) : Nat := if b then n else 0
    let ramp := s.sensing.ramp
    let position := s.sensing.position
    s.sensorBlock.drop 40 = [byteOf (flag (s.comparator .left).tripped 1 + flag (s.comparator .right).tripped 2 +
        flag (s.comparator .lift).tripped 4 + flag (s.comparator .gallery).tripped 8),
      byteOf (flag ramp.noClosed 1 + flag ramp.ncClosed 2 + ramp.candidate.code * 4 +
        ((ramp.debounced.map RampState.code).getD 0) * 16 + flag ramp.debounced.isSome 64),
      byteOf (flag (decide (position.raw = .isolated)) 1 + flag (decide (position.debounced = some .isolated)) 2 +
        flag position.debounced.isSome 4)])

/-- What is refused while STARTING, and the load a store request aborts. While STARTING, SET_MODE, STEP_HEIGHT,
every LIFT, CIRCUIT and CONTROL request, SURVEY, SPEED, GET_PARAM, CLEAR, TIME and LAMP_TEST are refused with
STARTING and have no other effect. SET_PARAM, PROFILE_BEGIN, PROFILE_PUT, PROFILE_END, PROFILE_RELOAD and
PROFILE_READ are refused so too; the first of them in a start-up also aborts the load: the loader stops and its
busy time ends, the boot code is ABORTED and the defaults run; once the load has been aborted they have no other
effect. That REQUEST_REFUSED is logged before the abort is the model's (log entry 29). (R155, R175.) -/
def Obligations.StartingRefuses : Prop :=
  ∀ (tag : Byte) (s : State), s.Ready → s.supervisor.control = .starting →
    (∀ (b : Byte) (w : Option Word) (ch : Option Byte) (v : BitVec 32),
      ∀ x ∈ [(Instr.setMode tag b w, Kind.setMode), (.stepHeight tag b, .stepHeight), (.liftRaise tag, .lift),
        (.liftLower tag, .lift), (.liftAuto tag, .lift), (.liftManual tag, .lift), (.circuitResume tag b, .circuit),
        (.circuitIsolate tag b, .circuit), (.circuitProbe tag b, .circuit), (.survey tag, .survey),
        (.speed tag b, .speed), (.getParam tag b ch, .getParam), (.clear tag, .clear), (.time tag v, .time),
        (.controlRun tag, .control), (.controlHold tag, .control), (.controlRestart tag, .control),
        (.lampTest tag, .lampTest)],
        exec x.1 s = s.refusedWith x.2 tag .starting) ∧
    (∀ (n : Byte) (value : List Byte) (head first index : Word) (values : List Word),
      ∀ x ∈ [(Instr.setParam tag n value, Kind.setParam), (.profileBegin tag, .profileBegin),
        (.profilePut tag head first values, .profilePut), (.profileEnd tag, .profileEnd),
        (.profileReload tag, .profileReload), (.profileRead tag index, .profileRead)],
        (s.startUp.bootCode = some .aborted → exec x.1 s = s.refusedWith x.2 tag .starting) ∧
        (s.startUp.bootCode ≠ some .aborted →
          exec x.1 s = ((s.heard.logEvent .requestRefused .refused none
            (some ((x.2.code.toNat * 256 + 5 : Nat) : Int))).abortLoad).completed x.2 tag (.refused .starting) ∧
          ∃ t, exec x.1 s = .next t ∧ t.startUp = ⟨s.startUp.resetAt, none, some .aborted, true⟩ ∧
            t.params = Params.defaults ∧ (s.startUp.loader ≠ none → t.store.busyUntil = none)))

/-- An event sets its flag, is captured and is offered, and the block it is sent as. Every event taken sets the
detected flag of its severity and no other. With P93 set for the severity its record joins the Event Queue at
the newest end; at 48 records the oldest is discarded and the overrun flag set. Without P93 the queue stays.
With P94 set, and the link UP and two places free, an EVENT notice (KIND 50h, TAG 0) takes the tail; otherwise
the Transmit Queue stays. Nothing else of the state changes. The event block has 10 bytes: the time tag in 4,
the kind code (1 CIRCUIT_STALLED to 31 TIME_ROLLOVER in the order of R162), the severity code (ADVISORY 0,
DEGRADED 1, CRITICAL 2, REFUSED 3), the circuit or FFh, whether a value is present, and the value, signed, in 2
bytes. An absent value is sent as 0. (R157, R158, R162, R164, R165, R166.) -/
def Obligations.EventTaken : Prop :=
  (∀ (s : State) (k : EventKind) (sev : Severity) (c : Option CircuitId) (v : Option Int),
    s.events.queue.length ≤ 48 → s.link.secured = false →
    let r : EventRecord := ⟨s.events.timeTag, k, sev, c, v.map (clampInt (-32768) 32767)⟩
    let captured := hasSeverity s.params.p93 sev
    let noticed := hasSeverity s.params.p94 sev && s.link.up && decide (s.link.queue.length ≤ 6)
    s.logEvent k sev c v =
      (s.setEvents { s.events with
        detected := s.events.detected ||| (1#4 <<< sev.code)
        queue := if captured then s.events.queue.drop (s.events.queue.length - 47) ++ [r] else s.events.queue
        overrun := s.events.overrun || (captured && decide (s.events.queue.length = 48)) }).setLink
        { s.link with queue := s.link.queue ++ (if noticed then [⟨.notice, frame 0x50#8 0#8 (eventBlock r)⟩] else []) }) ∧
  (∀ r : EventRecord, (eventBlock r).length = 10 ∧
    eventBlock r = bytes4 r.timeTag.toNat ++ [byteOf r.kind.code, byteOf r.severity.code,
      (r.circuit.map fun c => byteOf c.val).getD 0xFF#8, if r.value = none then 0#8 else 1#8] ++
      bytes2 (BitVec.ofInt 16 (r.value.getD 0)).toNat) ∧
  ([EventKind.circuitStalled, .circuitResumed, .tyreIsolated, .tyreLeak, .tyreLow, .tyreOverload, .sensorFailed,
    .sensorRestored, .overpressureTrip, .valveFault, .reserveLow, .reserveCritical, .reserveRestored, .supplyLow,
    .supplyRestored, .modeChanged, .liftChanged, .liftUnavailable, .rampChanged, .rampAtSpeed, .rampSense, .heightLost,
    .linkLost, .linkRestored, .requestRefused, .storeWritten, .storeFailed, .profileLoaded, .profileFailed, .restarted,
    .timeRollover].map EventKind.code = (List.range 31).map (· + 1) ∧
    [Severity.advisory, .degraded, .critical, .refused].map Severity.code = [0, 1, 2, 3])

/-- EVENTS hands over and removes the four oldest records. EVENTS is answered DONE with the count, the number of
records still held, the overrun flag and the records, oldest first; the handed records leave the queue and the
overrun flag is cleared; nothing else changes. It is served in every control state. Each record is sent as the
10-byte event block that EventTaken states, so the largest body of data has 43 bytes. (R156, R162, R165.) -/
def Obligations.EventsRequest : Prop :=
  (∀ (tag : Byte) (s : State), s.Ready → exec (.events tag) s =
    .next ((s.heard.setEvents { s.events with queue := s.events.queue.drop 4, overrun := false }).replied .events tag
      (.done ([byteOf (min 4 s.events.queue.length), byteOf (s.events.queue.length - 4),
        byteOf (bitAt 0 s.events.overrun)] ++ (s.events.queue.take 4).flatMap eventBlock)))) ∧
  (∀ rs : List EventRecord, (rs.flatMap eventBlock).length = 10 * rs.length)

/-- TIME loads the tag, which then advances and rolls over. TIME is answered DONE and loads the tag with its four
bytes. TIME_TAG_ADVANCE adds 1 to a tag below FFFFFFFFh and sets the next advance one P95 later; TIME_ROLLOVER
takes FFFFFFFFh to 0 and logs TIME_ROLLOVER with tag 0. Nothing else changes. That the moment of the next
advance stays as it was at a TIME request is the model's (log entry 39). (R156, R163.) -/
def Obligations.TimeLoad : Prop :=
  (∀ (tag : Byte) (v : BitVec 32) (s : State), s.Serving →
    exec (.time tag v) s = .next ((s.heard.setEvents { s.events with timeTag := v }).replied .time tag (.done []))) ∧
  (∀ s : State, s.deferred = [] → s.events.nextAdvance ≤ s.now → s.events.timeTag ≠ 0xFFFFFFFF#32 →
    exec .timeTagAdvance s = .next (s.setEvents { s.events with
      timeTag := s.events.timeTag + 1, nextAdvance := s.events.nextAdvance + s.params.p95 })) ∧
  (∀ s : State, s.deferred = [] → s.events.nextAdvance ≤ s.now → s.events.timeTag = 0xFFFFFFFF#32 →
    exec .timeRollover s = .next ((s.setEvents { s.events with
      timeTag := 0, nextAdvance := s.events.nextAdvance + s.params.p95 }).logEvent .timeRollover .advisory none none))

/-- CLEAR clears the detected flags and the shared valves' faults. CLEAR is answered DONE in every state it is
served in. The four detected flags become 0; the fault flags of valves 1, 2 and 3 are cleared, and that of valve
10 while LIFT is ABSENT, each with its VALVE_FAULT condition; then a serving pass runs for each of the flags of
valves 1 to 3 that was set. Clearing flags touches no other valve, no other condition and no detected flag. With
none of valves 1 to 3 faulty, nothing else changes but valve 10's flag and its condition. That every flag is
cleared before the first of the passes is the model's choice (log entry 41). (R15, R73, R75, R156, R166.) -/
def Obligations.ClearRequest : Prop :=
  (∀ (tag : Byte) (s : State), s.Serving →
    let cleared := (s.heard.setEvents { s.events with detected := 0 }).clearFaults sharedValves
    let t := if s.isPresent liftCircuit then cleared else cleared.clearFault isolationValve
    let first := if (s.valve supplyValve).fault then t.pass else t
    let second := if (s.valve galleryFillValve).fault then first.pass else first
    let third := if (s.valve galleryExhaustValve).fault then second.pass else second
    exec (.clear tag) s = third.completed .clear tag (.done [])) ∧
  sharedValves = [0, 1, 2] ∧
  (∀ (s : State) (vs : List ValveId),
    let t := s.clearFaults vs
    t.events.detected = s.events.detected ∧
    (∀ v ∈ vs, t.valve v = { s.valve v with fault := false }) ∧
    (∀ v : ValveId, v ∉ vs → t.valve v = s.valve v) ∧
    (∀ v ∈ vs, (s.valve v).fault = true → t.isActive (.valveFault v) = false) ∧
    (∀ id : ConditionId, (∀ v ∈ vs, id ≠ .valveFault v) → t.isActive id = s.isActive id)) ∧
  (∀ (s : State) (v : ValveId), s.clearFault v = s.clearFaults [v]) ∧
  (∀ (tag : Byte) (s : State), s.Serving → ∃ t, exec (.clear tag) s = .next t ∧
    (t.valve supplyValve).fault = false ∧ (t.valve galleryFillValve).fault = false ∧
    (t.valve galleryExhaustValve).fault = false ∧
    (s.isPresent liftCircuit = false → (t.valve isolationValve).fault = false)) ∧
  (∀ (tag : Byte) (s : State), s.Serving → (∀ v ∈ sharedValves, (s.valve v).fault = false) →
    exec (.clear tag) s = .next (((if s.isPresent liftCircuit then
      s.heard.setEvents { s.events with detected := 0 }
      else (s.heard.setEvents { s.events with detected := 0 }).clearFault isolationValve)).replied .clear tag
        (.done [])))

/-- The lamp is derived from the condition set. At every change of the condition set the state handed over is ON
while a lamp test runs; otherwise BLINK while a CRITICAL condition is active, else ON while a DEGRADED one is,
else OFF. A hand-over that changes the state starts BLINK lit with a full half-period, ON lit, OFF dark; a state
already handed over leaves the rhythm as it is. Nothing else changes. (R20, R168.) -/
def Obligations.LampFollowsConditions : Prop :=
  ∀ (s : State) (conds : List ActiveCondition),
    let new : LampState := if s.events.testEnd.isSome then .on
      else if ∃ a ∈ conds, a.severity = .critical then .blink
      else if ∃ a ∈ conds, a.severity = .degraded then .on else .off
    s.setConditions conds = (s.setEvents { s.events with conditions := conds }).setDriver { s.driver with
      lamp := if s.driver.lamp.state = new then s.driver.lamp
        else ⟨new, decide (new ≠ .off), if new = .blink then some (s.now + 500) else none⟩ }

/-- The lamp test and the half-periods of BLINK. LAMP_TEST is answered DONE, hands over ON and ends 3 s later, a
running test starting afresh; the conditions stay. LAMP_TEST_END, when the 3 s have passed, ends the test and
hands over the state derived from the condition set: BLINK lit with a full half-period, ON lit, OFF dark, the
rhythm kept where the state stays. LAMP_BLINK, at the end of a half-period, toggles the output and starts the
next 500 ms. Nothing else changes. That a LAMP_TEST_END before its time changes nothing is the model's (log
entry 3). (R20, R156, R168.) -/
def Obligations.LampMoments : Prop :=
  (∀ (tag : Byte) (s : State), s.Serving → exec (.lampTest tag) s =
    .next (((s.heard.setEvents { s.events with testEnd := some (s.now + 3000) }).setDriver { s.driver with
      lamp := if s.driver.lamp.state = .on then s.driver.lamp else ⟨.on, true, none⟩ }).replied .lampTest tag
        (.done []))) ∧
  (∀ (s : State) (m : Nat), s.events.testEnd = some m → m ≤ s.now → s.deferred = [] →
    let new : LampState := if ∃ a ∈ s.events.conditions, a.severity = .critical then .blink
      else if ∃ a ∈ s.events.conditions, a.severity = .degraded then .on else .off
    exec .lampTestEnd s = .next ((s.setEvents { s.events with testEnd := none }).setDriver { s.driver with
      lamp := if s.driver.lamp.state = new then s.driver.lamp
        else ⟨new, decide (new ≠ .off), if new = .blink then some (s.now + 500) else none⟩ })) ∧
  (∀ s : State, (∀ m, s.events.testEnd = some m → s.now < m) → s.deferred = [] → exec .lampTestEnd s = .next s) ∧
  (∀ (s : State) (m : Nat), s.driver.lamp.nextToggle = some m → m ≤ s.now → s.deferred = [] →
    exec .lampBlink s = .next (s.setDriver { s.driver with
      lamp := ⟨s.driver.lamp.state, !s.driver.lamp.lit, some (m + 500)⟩ }))

/-- A raw count is converted through its calibration. The converted value is (raw - zero count) x full scale / (full
count - zero count), rounded to nearest with halves up, held at the full scale; a count below the zero count,
and any count under a calibration whose full count is not above its zero count, converts to 0. The default
calibrations and the worked conversions of R24 come out as the book gives them. (R24.) -/
def Obligations.ConversionRule : Prop :=
  (∀ (c : Calibration) (raw : RawReading), (c.fullCount ≤ c.zeroCount ∨ raw.toNat < c.zeroCount) →
    convert c raw = 0) ∧
  (∀ (c : Calibration) (raw : RawReading), c.zeroCount < c.fullCount → c.zeroCount ≤ raw.toNat →
    let n := (raw.toNat - c.zeroCount) * c.fullScale
    let d := c.fullCount - c.zeroCount
    let v := convert c raw
    v ≤ c.fullScale ∧ 2 * d * v ≤ 2 * n + d ∧ (v = c.fullScale ∨ 2 * n + d < 2 * d * (v + 1))) ∧
  (Params.defaults.p96[0] = ⟨410, 3686, 1200⟩ ∧
    (∀ ch : Channel, 1 ≤ ch.val → ch.val ≤ 4 → Params.defaults.p96[ch.val] = ⟨410, 3686, 1000⟩) ∧
    Params.defaults.p96[5] = ⟨410, 3686, 500⟩ ∧ Params.defaults.p96[6] = ⟨410, 3686, 500⟩ ∧
    Params.defaults.p96[7] = ⟨0, 4095, 400⟩) ∧
  (convert Params.defaults.p96[1] 2400#12 = 607 ∧ convert Params.defaults.p96[0] 2400#12 = 729 ∧
    convert Params.defaults.p96[5] 2320#12 = 292 ∧ convert Params.defaults.p96[7] 1843#12 = 180 ∧
    convert Params.defaults.p96[3] 300#12 = 0 ∧ convert Params.defaults.p96[1] 3972#12 = 1000)

/-- A filtered value is the rounded mean of converted readings. The filtered value of a channel is the mean of the
converted values of the newest readings of its window, rounded to nearest with halves up; it never exceeds the
full scale of the channel; with no reading there is none. The window is 8 readings for channels 0 to 4, 4 for
channel 7, and for the height channels P19 in RIDE and P20 in DOCK and CUSTOM. The example of R27 gives 608.
(R27, R28, R24.) -/
def Obligations.FilteredValue : Prop :=
  (∀ (s : State) (ch : Channel) (h : List RawReading) (v : Nat), s.filter ch h = some v →
    let xs := (h.take (s.window ch)).map (convert s.params.p96[ch.val])
    xs ≠ [] ∧ v ≤ s.params.p96[ch.val].fullScale ∧ 2 * xs.length * v ≤ 2 * xs.sum + xs.length ∧
      2 * xs.sum + xs.length < 2 * xs.length * (v + 1)) ∧
  (∀ (s : State) (ch : Channel), s.filter ch [] = none) ∧
  meanOf [604, 606, 607, 607, 608, 609, 609, 611] = some 608 ∧
  (∀ (s : State) (ch : Channel), s.window ch = if ch.val ≤ 4 then 8 else if ch.val = 7 then 4
    else if s.height.mode = .ride then s.params.p19 else s.params.p20)

/-- What a good reading does: its channel, SENSOR_RESTORED, and the hand-on. In every state, a good reading (123 to
3972) of a judged channel becomes its last raw value and joins the newest end of its history, up to the
capacity; takes 1 from the bad score; adds 1 to the good run, held at 25 and set to 0 by a change of status;
takes UNKNOWN to VALID at a run of 8 and FAILED to VALID at 25; and, unless the channel stays FAILED, forms the
filtered value afresh. No other channel changes. In order (the model's, log entries 29 and 55): the reading goes
to the comparator of its channel unless the channel is FAILED; the channel is written; FAILED to VALID logs
SENSOR_RESTORED (ADVISORY, the channel's circuit, if any, and its number) and clears SENSOR_FAILED of the
channel, UNKNOWN to VALID does neither; a change of status is handed to the receivers; and while VALID the
filtered value is handed on. The hand-on of channel 0 judges the reserve, and runs a pass while a fill waits (an
action at grant that is a fill); of 1 and 2 it computes the side from its pressure (TargetsWithinBounds); of 3
it writes the measured field of a present LIFT and evaluates it; of 4 it does nothing; of 7 it judges the valve
supply (SupplyAndReserve). Of 5 and 6 it writes the measured field of the present side, computes the side from
stage C, then the other side while that takes this height, evaluates the side, and then the other while its own
channel is not VALID (in this order: the model's, log entries 51 and 56). (R21, R23, R26, R27, R28, R29, R30,
R33, R34, R36, R44, R115.) -/
def Obligations.GoodReading : Prop :=
  (∀ (ch : Channel) (raw : RawReading) (s : State), 123 ≤ raw.toNat → raw.toNat ≤ 3972 →
    (ch.val = 3 → s.params.p03 = .fitted) →
    let x := s.channel ch
    let run := min 25 (x.goodRun + 1)
    let status : SensorStatus := match x.status with
      | .unknown => if 8 ≤ run then .valid else .unknown
      | .valid => .valid
      | .failed => if 25 ≤ run then .valid else .failed
    let history := (raw :: x.history).take (historyCapacity ch)
    ∃ t, exec (.analogReading ch raw) s = .next t ∧
      t.channel ch = ⟨some raw, history, if status = .failed then x.filtered else s.filter ch history, status,
        x.badScore - 1, if status = x.status then run else 0⟩ ∧
      ∀ d : Channel, d ≠ ch → t.channel d = s.channel d) ∧
  (∀ (ch : Channel) (raw : RawReading) (s : State), 123 ≤ raw.toNat → raw.toNat ≤ 3972 →
    (ch.val = 3 → s.params.p03 = .fitted) →
    let x := s.channel ch
    let run := min 25 (x.goodRun + 1)
    let status : SensorStatus := match x.status with
      | .unknown => if 8 ≤ run then .valid else .unknown
      | .valid => .valid
      | .failed => if 25 ≤ run then .valid else .failed
    let history := (raw :: x.history).take (historyCapacity ch)
    let read := s.setChannel ch { x with lastRaw := some raw }
    let offered : State := match channelComparator ch with
      | some k => if x.status = .failed then read else read.offerTrip k (convert s.params.p96[ch.val] raw)
      | none => read
    let taken := offered.setChannel ch ⟨some raw, history,
      if status = .failed then x.filtered else s.filter ch history, status, x.badScore - 1,
      if status = x.status then run else 0⟩
    let told : State := if status = x.status then taken
      else if x.status = .failed then ((taken.logEvent .sensorRestored .advisory (channelCircuit ch)
        (some (ch.val : Int))).clear (.sensorFailed ch)).handStatus ch
      else taken.handStatus ch
    exec (.analogReading ch raw) s = .next (match told.validValue ch with
      | some v => told.handValue ch v
      | none => told).settle) ∧
  ([0, 1, 2, 3, 4, 5, 6, 7].map channelCircuit = [none, some 0, some 1, some 2, none, some 0, some 1, none] ∧
    [0, 1, 2, 3, 4, 5, 6, 7].map channelComparator =
      [none, some .left, some .right, some .lift, some .gallery, none, none, none]) ∧
  (∀ (s : State) (v : Nat),
    s.handValue 0 v = (if (s.judgeReserve v).fillWaits then (s.judgeReserve v).pass else s.judgeReserve v) ∧
    s.handValue 1 v = s.estimatePressure .left v ∧ s.handValue 2 v = s.estimatePressure .right v ∧
    s.handValue 3 v = (if (s.circuit liftCircuit).state = .absent then s
      else s.setCircuit liftCircuit { s.circuit liftCircuit with measured := some v }).evaluateLift ∧
    s.handValue 4 v = s ∧ s.handValue 7 v = s.judgeSupply v) ∧
  (∀ (s : State) (side : Side) (v : Nat),
    let c := sideCircuit side
    let other := otherSide side
    let measured := if (s.circuit c).state = .absent then s
      else s.setCircuit c { s.circuit c with measured := some v }
    let computed := measured.recompute side .fromC
    let both := if (computed.sideRecord other).heightSource = .other then computed.recompute other .fromC
      else computed
    let judged := both.evaluateSide side
    s.handValue (heightChannel side) v =
      if (judged.channel (heightChannel other)).status = .valid then judged else judged.evaluateSide other) ∧
  (∀ s : State, s.fillWaits = true ↔ ∃ d ∈ s.scheduler.demands, d.action = .fill ∧
    ¬(3 ≤ d.circuit.val ∧ (s.circuit d.circuit).probeDue = true))

/-- What a bad reading does: its channel, SENSOR_FAILED, the receivers, and HEIGHT_LOST. A reading below 123 or
above 3972 of a judged channel becomes its last raw value. While the score stays below 20 it adds 2 to the bad
score and ends the good run, and nothing else changes. When the score reaches 20 the channel is FAILED with an
empty history and both counts 0, its filtered value kept. While FAILED it empties the history and the good run
alone. A channel 3 that is not judged takes any reading as its last raw value alone. Entering FAILED returns the
channel's comparator to CLEAR, logs SENSOR_FAILED with the channel's circuit, if any, and its number (CRITICAL
for channels 0 and 7, else DEGRADED), raises its condition and is then handed to the receivers (the order is the
model's, log entry 29): the reserve, the side loads, LIFT with its measured field absent, the tyres, the valve
supply; for a height the measured field of the side, the height the area uses, HEIGHT_LOST once start-up has
ended, and both sides (in this order: the model's, log entries 52 and 56). HEIGHT_LOST, while neither height is
VALID, is raised once: logged CRITICAL, the waiting demand of each side withdrawn, its pending direction ended
with its timer and expiry (log entry 22); it is cleared, without an event, once either is VALID. (R21, R22, R23,
R30, R32, R33, R34, R35, R37, R112, R115.) -/
def Obligations.BadReading : Prop :=
  (∀ (ch : Channel) (raw : RawReading) (s : State), (raw.toNat < 123 ∨ 3972 < raw.toNat) →
    (ch.val = 3 → s.params.p03 = .fitted) →
    let x := s.channel ch
    (x.status ≠ .failed → x.badScore + 2 < 20 → s.deferred = [] → exec (.analogReading ch raw) s =
      .next (s.setChannel ch { x with lastRaw := some raw, badScore := x.badScore + 2, goodRun := 0 })) ∧
    (x.status = .failed → s.deferred = [] → exec (.analogReading ch raw) s =
      .next (s.setChannel ch { x with lastRaw := some raw, history := [], goodRun := 0 })) ∧
    (x.status ≠ .failed → 20 ≤ x.badScore + 2 → ∃ t, exec (.analogReading ch raw) s = .next t ∧
      t.channel ch = ⟨some raw, [], x.filtered, .failed, 0, 0⟩ ∧
      ∀ d : Channel, d ≠ ch → t.channel d = s.channel d)) ∧
  (∀ (raw : RawReading) (s : State), s.params.p03 = .notFitted → s.deferred = [] →
    exec (.analogReading 3 raw) s = .next (s.setChannel 3 { s.channel 3 with lastRaw := some raw })) ∧
  (∀ (ch : Channel) (raw : RawReading) (s : State), (raw.toNat < 123 ∨ 3972 < raw.toNat) →
    (ch.val = 3 → s.params.p03 = .fitted) →
    let x := s.channel ch
    x.status ≠ .failed → 20 ≤ x.badScore + 2 →
    let sev : Severity := if ch.val = 0 ∨ ch.val = 7 then .critical else .degraded
    let failed := (s.setChannel ch { x with lastRaw := some raw }).setChannel ch
      ⟨some raw, [], x.filtered, .failed, 0, 0⟩
    let cleared : State := match channelComparator ch with
      | some k => failed.setComparator k ⟨false, 0⟩
      | none => failed
    exec (.analogReading ch raw) s = .next (((cleared.logEvent .sensorFailed sev (channelCircuit ch)
      (some (ch.val : Int))).raise (.sensorFailed ch) sev).handStatus ch).settle) ∧
  (∀ s : State,
    let out (ch : Channel) := (s.channel ch).status ≠ .valid
    s.handStatus 0 = (if out 0 then s.reserveChannelFailed else s) ∧
    s.handStatus 1 = (if out 1 then s.pressureFailed .left else s) ∧
    s.handStatus 2 = (if out 2 then s.pressureFailed .right else s) ∧
    s.handStatus 3 = (if out 3 then s.followMeasured liftCircuit none else s).evaluateLift ∧
    s.handStatus 4 = s.evaluateTyres ∧
    s.handStatus 7 = (if out 7 then s.supplyChannelFailed else s)) ∧
  (∀ (s : State) (side : Side),
    let own := if (s.channel (heightChannel side)).status ≠ .valid then s.followMeasured (sideCircuit side) none else s
    s.handStatus (heightChannel side) =
      ((if s.supervisor.control = .starting then own.estimateHeightStatus
        else own.estimateHeightStatus.judgeHeightLost).evaluateSide .left).evaluateSide .right) ∧
  (∀ (s : State) (c : CircuitId) (v : Option Nat), s.followMeasured c v =
    if (s.circuit c).state = .absent then s else s.setCircuit c { s.circuit c with measured := v }) ∧
  (∀ s : State,
    let lost := (s.channel 5).status ≠ .valid ∧ (s.channel 6).status ≠ .valid
    let active := ∃ a ∈ s.events.conditions, a.id = .heightLost
    let ended (u : State) (side : Side) : State :=
      (u.withdraw (sideCircuit side)).setSideControl side { u.sideControl side with
        pendingDir := none, pendingSince := none, expiry := none }
    (lost → active → s.judgeHeightLost = s) ∧
    (lost → ¬active → s.judgeHeightLost =
      ended (ended ((s.logEvent .heightLost .critical none none).raise .heightLost .critical) .left) .right) ∧
    (¬lost → s.judgeHeightLost = s.clear .heightLost))

/-- Two consecutive readings trip a comparator, two clear it, and what a trip cuts. A CLEAR comparator counts a
reading at or above its threshold, and at the second in a row it is TRIPPED, OVERPRESSURE_TRIP (DEGRADED) is
logged with the value and the trip is handed to the engine; a lower reading ends the count. A TRIPPED one counts
a reading more than 20 kPa below the threshold, and at the second in a row is CLEAR; any other ends the count.
The engine ends TRIPPED the fill of LEFT, RIGHT or LIFT in PULSE for the comparator of that circuit, and the
INFLATE in CHARGE or INFLATE for GALLERY; a trip that finds no such transaction leaves the state as it is. That
the event is logged before the engine is told follows the order of R36's list, the model's reading (log entry
62). (R36, R37, R99.) -/
def Obligations.TripRule : Prop :=
  (∀ (s : State) (k : ComparatorId) (v : Nat),
    let thr := k.threshold s.params
    (s.comparator k = ⟨false, 0⟩ → thr ≤ v → s.offerTrip k v = s.setComparator k ⟨false, 1⟩) ∧
    (s.comparator k = ⟨false, 1⟩ → thr ≤ v → s.offerTrip k v =
      ((s.setComparator k ⟨true, 0⟩).logEvent .overpressureTrip .degraded k.circuit (some v)).tripCut k) ∧
    (∀ n, s.comparator k = ⟨false, n⟩ → v < thr → s.offerTrip k v = s.setComparator k ⟨false, 0⟩) ∧
    (s.comparator k = ⟨true, 0⟩ → v + 20 < thr → s.offerTrip k v = s.setComparator k ⟨true, 1⟩) ∧
    (s.comparator k = ⟨true, 1⟩ → v + 20 < thr → s.offerTrip k v = s.setComparator k ⟨false, 0⟩) ∧
    (∀ n, s.comparator k = ⟨true, n⟩ → thr ≤ v + 20 → s.offerTrip k v = s.setComparator k ⟨true, 0⟩)) ∧
  (∀ (s : State) (side : Side), ∀ t, s.transactionOn (sideCircuit side) = some t →
    let cut := s.tripCut (match side with
      | .left => .left
      | .right => .right)
    ((t.kind = .sideFill ∧ t.phase = .pulse) → cut = s.endTransaction t .tripped false) ∧
    (¬(t.kind = .sideFill ∧ t.phase = .pulse) → cut = s)) ∧
  (∀ s : State, ∀ t, s.transactionOn liftCircuit = some t →
    ((t.kind = .liftFill ∧ t.phase = .pulse) → s.tripCut .lift = s.endTransaction t .tripped false) ∧
    (¬(t.kind = .liftFill ∧ t.phase = .pulse) → s.tripCut .lift = s)) ∧
  (∀ s : State, (s.transactionOn 0 = none → s.tripCut .left = s) ∧
    (s.transactionOn 1 = none → s.tripCut .right = s) ∧ (s.transactionOn liftCircuit = none → s.tripCut .lift = s)) ∧
  (∀ s : State, ∀ t ∈ s.engine, t.kind = .inflate → (t.phase = .charge ∨ t.phase = .inflate) →
    (∀ u ∈ s.engine, u.kind = .inflate → u = t) → s.tripCut .gallery = s.endTransaction t .tripped false) ∧
  (∀ s : State, (∀ t ∈ s.engine, ¬(t.kind = .inflate ∧ (t.phase = .charge ∨ t.phase = .inflate))) →
    s.tripCut .gallery = s)

/-- The ramp contacts and the position switch are debounced, and what a ramp state does. A contact change re-forms
the candidate (UP for RAMP_NC closed alone, DOWN for RAMP_NO closed alone, else UNKNOWN) and restarts the hold
only when the candidate changes. A candidate held 200 ms that differs from the debounced reading becomes it and
the ramp state, ramp read becoming yes. A state other than the one held, and the first reading after a reset,
logs RAMP_CHANGED (ADVISORY) with its code; then UP clears RAMP_SENSE, checks return to ride, judges
RAMP_AT_SPEED and tests the dwell; DOWN clears RAMP_SENSE, judges RAMP_AT_SPEED, starts or hastens a lowering at
class 0 and tests the dwell; UNKNOWN raises RAMP_SENSE (DEGRADED) with its event and goes on as DOWN. The same
state again does none of this. The order is that of the table of R108, the model's reading (log entry 62); the
two events carry no circuit (64). A switch change restarts the 50 ms hold of the position; a position held 50 ms
that differs from the debounced one becomes it. Before its hold has passed, a reading is not taken. That a
moment before its time changes nothing is the model's (log entry 3). (R38, R39, R108.) -/
def Obligations.DebouncedInputs : Prop :=
  (∀ (no nc : Bool) (s : State), s.deferred = [] →
    let new : RampState := if nc && !no then .up else if no && !nc then .down else .unknown
    exec (.rampContactChange no nc) s = .next (s.setSensing { s.sensing with
      ramp := ⟨no, nc, new, if new = s.sensing.ramp.candidate then s.sensing.ramp.since else s.now,
        s.sensing.ramp.debounced⟩ })) ∧
  (∀ s : State, s.sensing.ramp.since + 200 ≤ s.now → s.sensing.ramp.debounced ≠ some s.sensing.ramp.candidate →
    ∃ t, exec .debouncedRampReading s = .next t ∧ t.sensing.ramp.debounced = some s.sensing.ramp.candidate ∧
      t.height.ramp = s.sensing.ramp.candidate ∧ t.height.rampRead = true) ∧
  (∀ s : State, s.now < s.sensing.ramp.since + 200 → s.deferred = [] → exec .debouncedRampReading s = .next s) ∧
  (∀ (p : Position) (s : State), s.deferred = [] → exec (.positionSwitchChange p) s = .next (s.setSensing
    { s.sensing with position := ⟨p, if p = s.sensing.position.raw then s.sensing.position.since else s.now,
      s.sensing.position.debounced⟩ })) ∧
  (∀ s : State, s.sensing.position.since + 50 ≤ s.now → s.position ≠ some s.sensing.position.raw →
    ∃ t, exec .debouncedPosition s = .next t ∧ t.position = some s.sensing.position.raw) ∧
  (∀ s : State, s.now < s.sensing.position.since + 50 → s.deferred = [] → exec .debouncedPosition s = .next s) ∧
  (∀ s : State, s.sensing.ramp.since + 200 ≤ s.now → s.sensing.ramp.debounced ≠ some s.sensing.ramp.candidate →
    let new := s.sensing.ramp.candidate
    let read := (s.setSensing { s.sensing with ramp := { s.sensing.ramp with debounced := some new } }).setHeight
      { s.height with rampRead := true, ramp := new }
    let logged := read.logEvent .rampChanged .advisory none (some new.code)
    let same := s.height.rampRead = true ∧ s.height.ramp = new
    (same → exec .debouncedRampReading s = .next read.settle) ∧
    (¬same → new = .up → exec .debouncedRampReading s =
      .next (((logged.clear .rampSense).returnToRide.judgeRampAtSpeed).testDwell).settle) ∧
    (¬same → new = .down → exec .debouncedRampReading s =
      .next ((((logged.clear .rampSense).judgeRampAtSpeed).lower .safety).testDwell).settle) ∧
    (¬same → new = .unknown → exec .debouncedRampReading s =
      .next (((((logged.raise .rampSense .degraded).logEvent .rampSense .degraded none none).judgeRampAtSpeed).lower
        .safety).testDwell).settle))

/-- When a valve is opened for a transaction, and what becomes of a request that R11 refuses. If an open request
made for the transaction on circuit c opens a CLOSED valve v, then there is a transaction in flight on c, the
valve supply is not LOW_SUPPLY and the fault flag of v is clear; and: for the supply valve, c holds SUPPLY and
its transaction is in CHARGE, INFLATE or the PULSE of a side or lift fill; for valves 2 and 3, c holds GALLERY;
for a wheel valve, c is its tyre, holds GALLERY, and no other wheel valve is open; for a side or lift valve, c
is its circuit; and its electrical check starts now. No request opens the isolation valve, and no other valve
changes. Conversely, a request that meets these conditions opens a CLOSED valve and starts its check, and leaves
an OPEN one as it is with no new check; with the fault flag set it changes no valve and logs nothing, and the
refusal is handed to the transaction, which ends ELECTRICAL as for a fault found at energise. A request that
fails any of the conditions changes nothing. That the refusal is taken when the running act is complete is the
model's choice (log entry 15). (R11, R12, R100.) -/
def Obligations.OpenRequest : Prop :=
  (∀ (s : State) (c : CircuitId) (v : ValveId), (s.valve v).isOpen = false →
    ((s.requestOpen c v).valve v).isOpen = true →
    (∃ t, s.transactionOn c = some t ∧ (v = supplyValve → s.scheduler.supply = some c ∧
      (t.phase = .charge ∨ t.phase = .inflate ∨
        (t.phase = .pulse ∧ (t.kind = .sideFill ∨ t.kind = .liftFill))))) ∧
    s.supervisor.lowSupply = false ∧ (s.valve v).fault = false ∧ v ≠ isolationValve ∧
    ((v = galleryFillValve ∨ v = galleryExhaustValve) → s.scheduler.gallery = some c) ∧
    (∀ w : TyreId, v = wheelValve w → c = tyreCircuit w ∧ s.scheduler.gallery = some c ∧
      ∀ u : TyreId, u ≠ w → (s.valve (wheelValve u)).isOpen = false) ∧
    (∀ side : Side, v = sideFillValve side ∨ v = sideExhaustValve side → c = sideCircuit side) ∧
    ((v = liftFillValve ∨ v = liftExhaustValve) → c = liftCircuit) ∧
    s.requestOpen c v = s.setValve v { s.valve v with isOpen := true, check := some s.now }) ∧
  (∀ (s : State) (c : CircuitId), ∀ t, s.transactionOn c = some t → s.supervisor.lowSupply = false →
    let answered (v : ValveId) : State := if (s.valve v).fault then s.setDeferred (s.deferred ++ [.openRefused c v])
      else if (s.valve v).isOpen then s
      else s.setValve v { s.valve v with isOpen := true, check := some s.now }
    (s.scheduler.supply = some c → (t.phase = .charge ∨ t.phase = .inflate ∨
        (t.phase = .pulse ∧ (t.kind = .sideFill ∨ t.kind = .liftFill))) →
      s.requestOpen c supplyValve = answered supplyValve) ∧
    (s.scheduler.gallery = some c → s.requestOpen c galleryFillValve = answered galleryFillValve ∧
      s.requestOpen c galleryExhaustValve = answered galleryExhaustValve) ∧
    (∀ w : TyreId, c = tyreCircuit w → s.scheduler.gallery = some c →
      (∀ u : TyreId, u ≠ w → (s.valve (wheelValve u)).isOpen = false) →
      s.requestOpen c (wheelValve w) = answered (wheelValve w)) ∧
    (∀ side : Side, c = sideCircuit side → s.requestOpen c (sideFillValve side) = answered (sideFillValve side) ∧
      s.requestOpen c (sideExhaustValve side) = answered (sideExhaustValve side)) ∧
    (c = liftCircuit → s.requestOpen c liftFillValve = answered liftFillValve ∧
      s.requestOpen c liftExhaustValve = answered liftExhaustValve)) ∧
  (∀ (s : State) (c : CircuitId) (v : ValveId),
    ((s.transactionOn c = none ∨ s.supervisor.lowSupply = true ∨ v = isolationValve) → s.requestOpen c v = s) ∧
    (v = supplyValve → s.scheduler.supply ≠ some c → s.requestOpen c v = s) ∧
    ((v = galleryFillValve ∨ v = galleryExhaustValve ∨ 10 ≤ v.val) → s.scheduler.gallery ≠ some c →
      s.requestOpen c v = s) ∧
    (∀ w : TyreId, v = wheelValve w → (c ≠ tyreCircuit w ∨
      ∃ u : TyreId, u ≠ w ∧ (s.valve (wheelValve u)).isOpen = true) → s.requestOpen c v = s) ∧
    (∀ side : Side, (v = sideFillValve side ∨ v = sideExhaustValve side) → c ≠ sideCircuit side →
      s.requestOpen c v = s) ∧
    ((v = liftFillValve ∨ v = liftExhaustValve) → c ≠ liftCircuit → s.requestOpen c v = s)) ∧
  (∀ (s : State) (c : CircuitId), ∀ t, s.transactionOn c = some t → t.phase ≠ .charge → t.phase ≠ .inflate →
    (t.phase ≠ .pulse ∨ (t.kind ≠ .sideFill ∧ t.kind ≠ .liftFill)) → s.requestOpen c supplyValve = s) ∧
  (∀ (s : State) (c : CircuitId) (v : ValveId),
    (∀ t, s.transactionOn c = some t →
      s.takeDeferred (.openRefused c v) = s.endTransaction t .electrical (decide (4 ≤ valveNumber v))) ∧
    (s.transactionOn c = none → s.takeDeferred (.openRefused c v) = s))

/-- The verdict of an electrical check, and what a FAULTY one takes out of service. When 20 ms have passed since the
energise, a HEALTHY verdict ends the check and changes nothing else. A FAULTY verdict closes the valve, sets its
fault flag and, if the flag was clear, logs VALVE_FAULT (CRITICAL for valve 1, else DEGRADED; the owning
circuit, if any, and the valve number) and raises its condition. Then the transaction on the valve's own circuit
ends ELECTRICAL and stalls it, or, with none in flight, the circuit is stalled from IDLE, WAITING or HOLDOFF
with CIRCUIT_STALLED (value 0); for valves 1 to 3 the holder of the resource ends ELECTRICAL if its phase holds
the valve open, and no circuit is stalled. A FAULTY isolation coil ends the switch first: READY, the pulse and
the check ended, the flag with its event, FAILED told to the lift, then the stall of LIFT. With no check running
on the valve, or before the 20 ms, a verdict changes nothing. A check whose end came as another valve's FAULTY
verdict ended the transaction has its verdict still to be taken (log entry 36): HEALTHY then changes nothing
else, FAULTY sets the flag. That a verdict out of its time changes nothing is the model's (log entry 3). (R8,
R12, R13, R14, R17, R100.) -/
def Obligations.CheckVerdicts : Prop :=
  (∀ (v : ValveId) (s : State) (m : Nat), (s.valve v).check = some m → (s.valve v).verdictLeft = false →
    s.deferred = [] → (m + 20 ≤ s.now →
      exec (.electricalCheck v .healthy) s = .next (s.setValve v { s.valve v with check := none })) ∧
    (s.now < m + 20 → ∀ x : CoilVerdict, exec (.electricalCheck v x) s = .next s)) ∧
  (∀ (v : ValveId) (s : State) (m : Nat), (s.valve v).check = some m → m + 20 ≤ s.now →
    ∃ t, exec (.electricalCheck v .faulty) s = .next t ∧ (t.valve v).fault = true ∧
      (v ≠ isolationValve → (t.valve v).isOpen = false)) ∧
  (∀ (v : ValveId) (x : CoilVerdict) (s : State), (s.valve v).check = none → (s.valve v).verdictLeft = false →
    s.deferred = [] → exec (.electricalCheck v x) s = .next s) ∧
  (∀ (v : ValveId) (s : State), (s.valve v).verdictLeft = true →
    (s.deferred = [] →
      exec (.electricalCheck v .healthy) s = .next (s.setValve v { s.valve v with verdictLeft := false })) ∧
    ∃ t, exec (.electricalCheck v .faulty) s = .next t ∧ (t.valve v).fault = true) ∧
  (∀ (v : ValveId) (s : State) (m : Nat), (s.valve v).check = some m → (s.valve v).verdictLeft = false →
    m + 20 ≤ s.now → v ≠ isolationValve →
    let closed := { s.valve v with isOpen := false, check := none }
    let sev : Severity := if valveNumber v = 1 then .critical else .degraded
    let faulted := if (s.valve v).fault then s.setValve v closed
      else ((s.setValve v { closed with fault := true }).logEvent .valveFault sev (valveOwner v)
        (some (valveNumber v))).raise (.valveFault v) sev
    exec (.electricalCheck v .faulty) s = .next (faulted.faultOutOfService v).settle) ∧
  (∀ (s : State) (m : Nat), (s.valve isolationValve).check = some m → (s.valve isolationValve).verdictLeft = false →
    m + 20 ≤ s.now →
    let ended := (s.setIsolation { s.driver.isolation with switch := .ready, pulseStart := none }).setValve
      isolationValve { s.valve isolationValve with check := none }
    let faulted := if (s.valve isolationValve).fault then ended
      else ((ended.setValve isolationValve { s.valve isolationValve with check := none, fault := true }).logEvent
        .valveFault .degraded (some liftCircuit) (some 10)).raise (.valveFault isolationValve) .degraded
    exec (.electricalCheck isolationValve .faulty) s =
      .next (faulted.liftSwitchFailed.faultOutOfService isolationValve).settle) ∧
  (valveOwner supplyValve = none ∧ valveOwner galleryFillValve = none ∧ valveOwner galleryExhaustValve = none ∧
    (∀ side : Side, valveOwner (sideFillValve side) = some (sideCircuit side) ∧
      valveOwner (sideExhaustValve side) = some (sideCircuit side)) ∧
    valveOwner liftFillValve = some liftCircuit ∧ valveOwner liftExhaustValve = some liftCircuit ∧
    valveOwner isolationValve = some liftCircuit ∧ ∀ w : TyreId, valveOwner (wheelValve w) = some (tyreCircuit w)) ∧
  (∀ (s : State) (v : ValveId) (c : CircuitId), valveOwner v = some c →
    (∀ t, s.transactionOn c = some t → s.faultOutOfService v = s.endTransaction t .electrical true) ∧
    (s.transactionOn c = none → s.faultOutOfService v = s.stall c 0)) ∧
  (∀ (s : State) (v : ValveId) (c : CircuitId), valveNumber v ≤ 3 →
    (if v = supplyValve then s.scheduler.supply else s.scheduler.gallery) = some c →
    (∀ t, s.transactionOn c = some t →
      (v ∈ phaseValves t.circuit t.kind t.phase → s.faultOutOfService v = s.endTransaction t .electrical false) ∧
      (v ∉ phaseValves t.circuit t.kind t.phase → s.faultOutOfService v = s)) ∧
    (s.transactionOn c = none → s.faultOutOfService v = s)) ∧
  (∀ (s : State) (v : ValveId), valveNumber v ≤ 3 →
    (if v = supplyValve then s.scheduler.supply else s.scheduler.gallery) = none → s.faultOutOfService v = s) ∧
  (∀ (s : State) (c : CircuitId) (n : Nat),
    let r := s.circuit c
    let sev : Severity := if c.val ≤ 1 then .critical else .degraded
    let stalled := ((((s.removeDemand c).setCircuit c
      { r with state := .stalled, strikes := 0, holdoffEnd := none }).logEvent .circuitStalled sev (some c)
        (some n)).raise (.circuitStalled c) sev)
    ((r.state = .idle ∨ r.state = .waiting ∨ r.state = .holdoff) →
      s.stall c n = if c = liftCircuit then stalled.liftStalled else stalled) ∧
    (r.state ≠ .idle → r.state ≠ .waiting → r.state ≠ .holdoff → s.stall c n = s))

/-- The isolation valve is switched by a pulse and a watch, and its answers reach the lift. A switch request taken
in READY with the supply up, toward a position the switch does not yet read, starts a pulse and its check with
that position commanded; toward the position already read it ends SWITCHED at once; under LOW_SUPPLY it is held
PENDING without a pulse. In PULSING and CHECKING a request for the commanded position changes nothing, and one
for the other position cuts the pulse and its check and is taken as from READY; in PENDING the commanded
position alone becomes the new one. After 150 ms the pulse ends and the state is CHECKING; nothing else changes.
When 500 ms pass without the position read, the switch ends FAILED: READY, the fault flag of valve 10 with its
event and condition, FAILED told to the lift, LIFT out of service. At SWITCHED no switch is outstanding; in
ISOLATING the step becomes FILLING, in CONNECTING the state becomes DOWN with LIFT_CHANGED logged, and LIFT is
evaluated in every case. At FAILED in CONNECTING the state becomes DOWN and LIFT_UNAVAILABLE is raised at
CRITICAL, with step NONE it is raised so too. A new debounced position that reads the commanded one of a watched
switch ends it SWITCHED; the Load Estimator and the Lift Axle Controller then take the position, which acts as
R123 says while no switch is outstanding. The model's choices: the answer comes before both, and is handed over
after the running act at a position already read (log entry 15); a check still running ends with SWITCHED,
without a verdict (63); LIFT_CHANGED has no circuit (64); the class is left absent at FAILED (18); FAILED with
step NONE does so whatever switch it answers (71). (R13, R14, R16, R17, R18, R39, R116, R118, R119, R120, R122,
R123.) -/
def Obligations.IsolationSwitch : Prop :=
  (∀ (s : State) (p : Position), s.driver.isolation.switch = .ready → s.supervisor.lowSupply = false →
    s.position ≠ some p → s.requestSwitch p = (s.setIsolation ⟨some p, .pulsing, some s.now⟩).setValve isolationValve
      { s.valve isolationValve with check := some s.now }) ∧
  (∀ (s : State) (p : Position), s.driver.isolation.switch = .ready → s.supervisor.lowSupply = true →
    s.requestSwitch p = s.setIsolation ⟨some p, .pending, none⟩) ∧
  (∀ (s : State) (m : Nat), s.driver.isolation.switch = .pulsing → s.driver.isolation.pulseStart = some m →
    m + 150 ≤ s.now → s.deferred = [] → exec .isolationPulseEnd s =
      .next (s.setIsolation { s.driver.isolation with switch := .checking })) ∧
  (∀ (s : State) (m : Nat), (s.driver.isolation.switch = .pulsing ∨ s.driver.isolation.switch = .checking) →
    s.driver.isolation.pulseStart = some m → m + 500 ≤ s.now →
    let ended := (s.setIsolation { s.driver.isolation with switch := .ready, pulseStart := none }).setValve
      isolationValve { s.valve isolationValve with check := none }
    let faulted := if (s.valve isolationValve).fault then ended
      else ((ended.setValve isolationValve { s.valve isolationValve with check := none, fault := true }).logEvent
        .valveFault .degraded (some liftCircuit) (some 10)).raise (.valveFault isolationValve) .degraded
    exec .positionWatchExpiry s = .next (faulted.liftSwitchFailed.faultOutOfService isolationValve).settle ∧
    ∃ t, exec .positionWatchExpiry s = .next t ∧ (t.valve isolationValve).fault = true) ∧
  (∀ s : State, s.liftFitted = true → s.lift.reconciled = true →
    let answered := { s.lift with switchOutstanding := false }
    let down := ((s.setLift { answered with state := .down, step := .noStep }).logEvent .liftChanged .advisory none
      (some 0)).setLift { answered with state := .down, step := .noStep, loweringClass := none }
    (s.lift.state = .raising → s.lift.step = .isolating →
      s.liftSwitched = (s.setLift { answered with step := .filling }).evaluateLift) ∧
    (s.lift.state = .lowering → s.lift.step = .connecting →
      s.liftSwitched = down.withdraw liftCircuit ∧
      s.liftSwitchFailed = (down.withdraw liftCircuit).raiseUnavailable .critical) ∧
    (¬(s.lift.state = .raising ∧ s.lift.step = .isolating) → ¬(s.lift.state = .lowering ∧ s.lift.step = .connecting) →
      s.liftSwitched = (s.setLift answered).evaluateLift) ∧
    (s.lift.step = .noStep → s.liftSwitchFailed = (s.setLift answered).raiseUnavailable .critical) ∧
    (s.lift.step = .isolating → s.liftSwitchFailed = s.setLift answered)) ∧
  (∀ (s : State) (p : Position), s.sensing.position.since + 50 ≤ s.now → s.sensing.position.raw = p →
    s.position ≠ some p →
    let read := s.setSensing { s.sensing with position := { s.sensing.position with debounced := some p } }
    let ended := (read.setIsolation { s.driver.isolation with switch := .ready, pulseStart := none }).setValve
      isolationValve { s.valve isolationValve with check := none }
    ((s.driver.isolation.switch = .pulsing ∨ s.driver.isolation.switch = .checking) →
      s.driver.isolation.commanded = some p →
      exec .debouncedPosition s = .next ((ended.liftSwitched.estimatePosition).liftPosition p).settle) ∧
    (((s.driver.isolation.switch ≠ .pulsing ∧ s.driver.isolation.switch ≠ .checking) ∨
      s.driver.isolation.commanded ≠ some p) →
      exec .debouncedPosition s = .next ((read.estimatePosition).liftPosition p).settle)) ∧
  (∀ s : State, s.liftFitted = true → s.lift.reconciled = true → s.lift.switchOutstanding = false →
    (s.lift.state = .down → s.liftPosition .isolated =
      (s.setLift { s.lift with switchOutstanding := true }).requestSwitch .connected) ∧
    ((s.lift.state = .up ∨ (s.lift.state = .raising ∧ s.lift.step = .filling)) →
      s.liftPosition .connected = s.lower .lift)) ∧
  (∀ (s : State) (p : Position), s.lift.switchOutstanding = true → s.liftPosition p = s) ∧
  (∀ (s : State) (p : Position),
    let pulsed := (s.setIsolation ⟨some p, .pulsing, some s.now⟩).setValve isolationValve
      { s.valve isolationValve with check := some s.now }
    let there := ((s.setIsolation ⟨some p, .ready, none⟩).setValve isolationValve
      { s.valve isolationValve with check := none }).setDeferred (s.deferred ++ [.switched])
    let held := (s.setIsolation ⟨some p, .pending, none⟩).setValve isolationValve
      { s.valve isolationValve with check := none }
    let state := s.driver.isolation.switch
    (state = .ready → s.supervisor.lowSupply = false → s.position = some p → s.requestSwitch p = there) ∧
    (state = .pending → s.requestSwitch p = s.setIsolation { s.driver.isolation with commanded := some p }) ∧
    ((state = .pulsing ∨ state = .checking) → s.driver.isolation.commanded = some p → s.requestSwitch p = s) ∧
    ((state = .pulsing ∨ state = .checking) → s.driver.isolation.commanded ≠ some p →
      s.requestSwitch p = if s.supervisor.lowSupply then held else if s.position = some p then there else pulsed)) ∧
  (∀ s : State, s.takeDeferred .switched = if s.driver.isolation.switch = .ready then s.liftSwitched else s)

/-- A demand takes its place by class and age; promotion gives a new place. Into a list in order, a demand is set
after every demand of a more urgent class and every demand of its class with an earlier or equal mark, and
before all the others, which keep their order. PROMOTION of a class 3 demand older than P75 gives it class 1 and
the place of that class, its mark and wait reason kept, and changes nothing else; otherwise it changes nothing.
That a PROMOTION that is not due changes nothing is the model's (log entry 3). (R62, R66.) -/
def Obligations.PlacingADemand : Prop :=
  (∀ (d : Demand) (l : List Demand), (l.Pairwise fun a b => b.before a = false) →
    ∃ xs ys, l = xs ++ ys ∧ placeDemand d l = xs ++ d :: ys ∧
      (∀ e ∈ xs, e.cls.number < d.cls.number ∨ (e.cls = d.cls ∧ e.mark ≤ d.mark)) ∧
      (∀ e ∈ ys, d.cls.number < e.cls.number ∨ (e.cls = d.cls ∧ d.mark < e.mark))) ∧
  (∀ (s : State) (c : CircuitId) (d : Demand), s.demandOf c = some d → s.deferred = [] →
    exec (.promotion c) s = .next (if d.cls = .tyre ∧ s.params.p75 * 1000 < s.now - d.mark then
      s.setScheduler { s.scheduler with
        demands := placeDemand { d with cls := .level } (s.scheduler.demands.filter fun e => e.circuit ≠ c) } else s)) ∧
  (∀ (s : State) (c : CircuitId), s.demandOf c = none → s.deferred = [] → exec (.promotion c) s = .next s)

/-- How join requests and withdrawals are taken. For an allowed action: an IDLE circuit's request while RUNNING
joins with the present mark and reason NONE, the circuit becomes WAITING and a pass runs; while not RUNNING, or
from ACTIVE, HOLDOFF, STALLED, ISOLATED or ABSENT, it is not taken. For a WAITING circuit the same action keeps
the demand, at the more urgent class of the two; another action replaces it afresh. A withdrawal removes the
demand of a WAITING circuit, which becomes IDLE, and does nothing else. (R61, R63, R64, R65.) -/
def Obligations.JoinAndWithdrawal : Prop :=
  (∀ (s : State) (c : CircuitId) (a : Action) (cls : DemandClass), actionAllowed c a = true →
    let fresh (u : State) : State := ((u.setScheduler { u.scheduler with
      demands := placeDemand ⟨c, a, cls, s.now, .noReason⟩ u.scheduler.demands }).setCircuit c
        { u.circuit c with state := .waiting }).pass
    ((s.circuit c).state = .idle → s.isRunning = true → s.join c a cls = fresh s) ∧
    (s.isRunning = false → s.join c a cls = s) ∧
    ((s.circuit c).state ≠ .idle → (s.circuit c).state ≠ .waiting → s.join c a cls = s) ∧
    (∀ d, (s.circuit c).state = .waiting → s.isRunning = true → s.demandOf c = some d → d.circuit = c →
      (d.action = a → d.cls.number ≤ cls.number → s.join c a cls = s) ∧
      (d.action = a → cls.number < d.cls.number → s.join c a cls = s.setScheduler { s.scheduler with
        demands := placeDemand { d with cls := cls } (s.scheduler.demands.filter fun e => e.circuit ≠ c) }) ∧
      (d.action ≠ a → s.join c a cls = fresh (s.removeDemand c)))) ∧
  (∀ (s : State) (c : CircuitId), s.withdraw c = if (s.circuit c).state = .waiting then
    (s.setScheduler { s.scheduler with demands := s.scheduler.demands.filter fun e => e.circuit ≠ c }).setCircuit c
      { s.circuit c with state := .idle } else s)

/-- What a grant does, the valves it asks for, and the pulse times and limits it fixes. A grant removes the demand,
makes its circuit ACTIVE with the rest of its record kept, gives SUPPLY and GALLERY to the circuit if its action
at grant holds them and leaves them otherwise, and starts one transaction of the action at grant (PROBE for a
tyre that is probe due), whose record is computed from the state at the grant. It then asks for the valves of
the first phase, in this order (the model's for valves asked for together, log entry 29): valve 1 and the fill
valve for a side or lift fill, the exhaust valve for an exhaust, valve 3 for a PROBE (VENT), valves 1 and 2 for
an INFLATE (CHARGE), the wheel valve and valve 3 for a DEFLATE (BLEED); nothing else changes. That record has
the first phase of its kind, the lead, pulse and after times of R82 and R83 (a side's pulse is its error times
P36 or P37 clamped into [P38, P39], or P38 with no target or height; a tyre's the distance of target and
measured times P67 clamped into [P68, P69], or P68 with no target; LIFT's is P85), the end of its first phase,
the reference values, and supply at pulse end and read value absent. With bounds crossed the pulse time is a
free value (log entry 35), of which nothing is said. (R67, R69, R74, R80, R81, R82, R83, R84, R85, R86, R87,
R88.) -/
def Obligations.GrantIsOneAct : Prop :=
  (∀ (s : State) (d : Demand),
    let k := kindFor d.circuit (s.actionAtGrant d)
    let t := s.grant d
    t.scheduler.demands = s.scheduler.demands.filter (fun e => e.circuit ≠ d.circuit) ∧
    t.circuit d.circuit = { s.circuit d.circuit with state := .active } ∧
    (∀ c : CircuitId, c ≠ d.circuit → t.circuit c = s.circuit c) ∧
    t.scheduler.supply = (if k.needsSupply then some d.circuit else s.scheduler.supply) ∧
    t.scheduler.gallery = (if k.needsGallery then some d.circuit else s.scheduler.gallery) ∧
    t.engine = s.engine ++ [s.newTransaction d.circuit k]) ∧
  (∀ (s : State) (c : CircuitId) (k : TransactionKind),
    let t := s.newTransaction c k
    t.circuit = c ∧ t.kind = k ∧ t.holdsSupply = k.needsSupply ∧ t.holdsGallery = k.needsGallery ∧
    t.supplyAtEnd = none ∧ t.readValue = none ∧
    ((k = .sideFill ∨ k = .sideExhaust ∨ k = .liftFill ∨ k = .liftExhaust) → t.phase = .pulse ∧ t.leadTime = none) ∧
    (k = .probe → t.phase = .vent ∧ t.leadTime = some s.params.p71 ∧ t.pulseTime = none ∧
      t.phaseEnd = s.now + s.params.p71 ∧ t.afterTime = s.params.p72) ∧
    (k = .inflate → t.phase = .charge ∧ t.leadTime = some s.params.p70 ∧ t.phaseEnd = s.now + s.params.p70 ∧
      t.afterTime = s.params.p72) ∧
    (k = .deflate → t.phase = .bleed ∧ t.leadTime = none ∧ t.afterTime = s.params.p72) ∧
    ((k = .sideFill ∨ k = .sideExhaust) →
      t.afterTime = if s.height.mode = .ride then s.params.p40 else s.params.p41) ∧
    ((k = .liftFill ∨ k = .liftExhaust) → t.pulseTime = some s.params.p85 ∧ t.afterTime = 500) ∧
    (k ≠ .probe → k ≠ .inflate → ∀ p, t.pulseTime = some p → t.phaseEnd = s.now + p) ∧
    (circuitKind c = .tyre → t.refHeight = none ∧ t.refPressure = none ∧ t.refMeasured = (s.circuit c).measured) ∧
    (circuitKind c ≠ .tyre → t.refPressure = s.validValue (circuitPressureChannel c) ∧ t.refMeasured = none)) ∧
  (∀ (s : State) (side : Side) (k : TransactionKind), k = .sideFill ∨ k = .sideExhaust →
    let t := s.newTransaction (sideCircuit side) k
    let target := (s.circuit (sideCircuit side)).target
    t.refHeight = s.validValue (heightChannel side) ∧
    (∀ g h : Nat, target = some g → s.evaluationHeight side = some h → s.params.p38 ≤ s.params.p39 →
      t.pulseTime = some (max s.params.p38 (min s.params.p39 (((g - h) + (h - g)) *
        (if k = .sideFill then s.params.p36 else s.params.p37))))) ∧
    ((target = none ∨ s.evaluationHeight side = none) → t.pulseTime = some s.params.p38)) ∧
  (∀ (s : State) (c : CircuitId) (k : TransactionKind), k = .inflate ∨ k = .deflate →
    (∀ g m : Nat, (s.circuit c).target = some g → (s.circuit c).measured = some m → s.params.p68 ≤ s.params.p69 →
      (s.newTransaction c k).pulseTime = some (max s.params.p68 (min s.params.p69
        (((g - m) + (m - g)) * s.params.p67)))) ∧
    ((s.circuit c).target = none → (s.newTransaction c k).pulseTime = some s.params.p68)) ∧
  (∀ (s : State) (d : Demand), s.actionAtGrant d =
    if 3 ≤ d.circuit.val ∧ (s.circuit d.circuit).probeDue = true then .probe else d.action) ∧
  ((∀ side : Side, kindFor (sideCircuit side) .fill = .sideFill ∧ kindFor (sideCircuit side) .exhaust = .sideExhaust ∧
      inletValve (sideCircuit side) = sideFillValve side ∧ outletValve (sideCircuit side) = sideExhaustValve side) ∧
    kindFor liftCircuit .fill = .liftFill ∧ kindFor liftCircuit .exhaust = .liftExhaust ∧
    inletValve liftCircuit = liftFillValve ∧ outletValve liftCircuit = liftExhaustValve ∧
    (∀ w : TyreId, kindFor (tyreCircuit w) .probe = .probe ∧ kindFor (tyreCircuit w) .fill = .inflate ∧
      kindFor (tyreCircuit w) .deflate = .deflate ∧ inletValve (tyreCircuit w) = wheelValve w) ∧
    (∀ k : TransactionKind, (k.needsSupply = true ↔ k = .sideFill ∨ k = .liftFill ∨ k = .inflate) ∧
      (k.needsGallery = true ↔ k = .probe ∨ k = .inflate ∨ k = .deflate))) ∧
  (∀ (s : State) (d : Demand),
    let c := d.circuit
    let k := kindFor c (s.actionAtGrant d)
    let taken := ((s.setScheduler {
      demands := s.scheduler.demands.filter fun e => e.circuit ≠ c
      supply := if k.needsSupply then some c else s.scheduler.supply
      gallery := if k.needsGallery then some c else s.scheduler.gallery }).setCircuit c
        { s.circuit c with state := .active }).setEngine (s.engine ++ [s.newTransaction c k])
    ((k = .sideFill ∨ k = .liftFill) →
      s.grant d = (taken.requestOpen c supplyValve).requestOpen c (inletValve c)) ∧
    ((k = .sideExhaust ∨ k = .liftExhaust) → s.grant d = taken.requestOpen c (outletValve c)) ∧
    (k = .probe → s.grant d = taken.requestOpen c galleryExhaustValve) ∧
    (k = .inflate → s.grant d = (taken.requestOpen c supplyValve).requestOpen c galleryFillValve) ∧
    (k = .deflate → s.grant d = (taken.requestOpen c (inletValve c)).requestOpen c galleryExhaustValve))

/-- When a demand can be served, and the wait reason it is given otherwise. A demand can be served exactly when: for
a fill, valve 1 has no fault, channel 0 is VALID with a reservoir value of at least P30 + P31, the reserve state
is NORMAL, the reservoir is at least P33 above the circuit's pressure, and SUPPLY is free; and for an action on
the gallery, valves 2 and 3 have no fault and GALLERY is free. Otherwise the demand examined is given the first
reason of R72 that holds: SUPPLY_FAULT, GALLERY_FAULT, RESERVE, DIFFERENTIAL, SUPPLY_BUSY, GALLERY_BUSY; one
that can be served is granted. The value of a channel that is UNKNOWN, and that a demand stays as it is while
all five slots are taken, is the model's (log entries 24 and 28). (R67, R70, R71, R72, R73.) -/
def Obligations.ServingConditions : Prop :=
  (∀ (s : State) (d : Demand),
    let k := kindFor d.circuit (s.actionAtGrant d)
    s.whyNot d = none ↔
      (k.needsSupply = true → (s.valve supplyValve).fault = false ∧ s.supervisor.reserve = .normal ∧
        s.scheduler.supply = none ∧ ∃ r, s.validValue 0 = some r ∧ s.params.p30 + s.params.p31 ≤ r ∧
          s.reportedValue (circuitPressureChannel d.circuit) + s.params.p33 ≤ r) ∧
      (k.needsGallery = true → (s.valve galleryFillValve).fault = false ∧
        (s.valve galleryExhaustValve).fault = false ∧ s.scheduler.gallery = none)) ∧
  (∀ (s : State) (d : Demand),
    let k := kindFor d.circuit (s.actionAtGrant d)
    let supplyFault := k.needsSupply = true ∧ (s.valve supplyValve).fault = true
    let galleryFault := k.needsGallery = true ∧
      ((s.valve galleryFillValve).fault = true ∨ (s.valve galleryExhaustValve).fault = true)
    let reserve := k.needsSupply = true ∧ (s.supervisor.reserve ≠ .normal ∨ s.validValue 0 = none ∨
      ∃ r, s.validValue 0 = some r ∧ r < s.params.p30 + s.params.p31)
    let differential := k.needsSupply = true ∧
      ∃ r, s.validValue 0 = some r ∧ r < s.reportedValue (circuitPressureChannel d.circuit) + s.params.p33
    let supplyBusy := k.needsSupply = true ∧ s.scheduler.supply ≠ none
    let galleryBusy := k.needsGallery = true ∧ s.scheduler.gallery ≠ none
    (supplyFault → s.whyNot d = some .supplyFault) ∧
    (¬supplyFault → galleryFault → s.whyNot d = some .galleryFault) ∧
    (¬supplyFault → ¬galleryFault → reserve → s.whyNot d = some .reserve) ∧
    (¬supplyFault → ¬galleryFault → ¬reserve → differential → s.whyNot d = some .differential) ∧
    (¬supplyFault → ¬galleryFault → ¬reserve → ¬differential → supplyBusy → s.whyNot d = some .supplyBusy) ∧
    (¬supplyFault → ¬galleryFault → ¬reserve → ¬differential → ¬supplyBusy → galleryBusy →
      s.whyNot d = some .galleryBusy)) ∧
  (∀ (s : State) (d : Demand), s.examine d = match s.whyNot d with
    | some reason => s.setScheduler { s.scheduler with
        demands := (s.scheduler.demands.map
          (fun e => if e.circuit = d.circuit then { e with reason := reason } else e)) }
    | none => if s.engine.length < 5 then s.grant d else s)

/-- The end of a phase by its time. PHASE_END, when phase remaining has reached 0: the exhaust PULSE of a side or of
LIFT closes the exhaust valve and starts SETTLE; a fill PULSE takes the supply at pulse end, closes the supply
and fill valves, releases SUPPLY and starts SETTLE, then a pass runs; INFLATE ends likewise with valves 1 and 2
closed and starts EQUALIZE; VENT closes valve 3, asks for the wheel valve and starts EQUALIZE; CHARGE asks for
the wheel valve and starts INFLATE; BLEED closes valve 3 and starts EQUALIZE; SETTLE ends the transaction with
its judgement; EQUALIZE of a tyre is followed by the READ and the judgement. (R84, R85, R86, R87, R88, R89.) -/
def Obligations.PhaseEnds : Prop :=
  ∀ (s : State) (c : CircuitId) (t : Transaction), s.transactionOn c = some t → t.phaseEnd ≤ s.now →
    s.deferred = [] →
    (t.phase = .pulse → (t.kind = .sideExhaust ∨ t.kind = .liftExhaust) → exec (.phaseEnd c) s =
      .next ((s.closeValve (outletValve t.circuit)).setTransaction
        { t with phase := .settle, phaseEnd := s.now + t.afterTime })) ∧
    (t.phase = .pulse → (t.kind = .sideFill ∨ t.kind = .liftFill) →
      t.holdsSupply = true → s.scheduler.supply = some t.circuit → exec (.phaseEnd c) s =
      .next ((((s.closeValve supplyValve).closeValve (inletValve t.circuit)).setScheduler
        { s.scheduler with supply := none }).setTransaction { t with
          supplyAtEnd := some ((s.validValue 0).getD 0, s.reportedValue (circuitPressureChannel t.circuit))
          phase := .settle, phaseEnd := s.now + t.afterTime, holdsSupply := false }).pass.settle) ∧
    (t.phase = .inflate → t.kind = .inflate → t.holdsSupply = true → s.scheduler.supply = some t.circuit →
      exec (.phaseEnd c) s = .next ((((s.closeValve supplyValve).closeValve galleryFillValve).setScheduler
        { s.scheduler with supply := none }).setTransaction { t with
          supplyAtEnd := some ((s.validValue 0).getD 0, s.reportedValue (circuitPressureChannel t.circuit))
          phase := .equalize, phaseEnd := s.now + t.afterTime, holdsSupply := false }).pass.settle) ∧
    (t.phase = .vent → t.kind = .probe → exec (.phaseEnd c) s =
      .next (((s.closeValve galleryExhaustValve).setTransaction { t with
        phase := .equalize, phaseEnd := s.now + t.afterTime, wheelOpened := true }).requestOpen t.circuit
          (inletValve t.circuit)).settle) ∧
    (t.phase = .charge → t.kind = .inflate → exec (.phaseEnd c) s =
      .next ((((s.setTransaction { t with
        phase := .inflate, phaseEnd := s.now + t.pulseTime.getD 0, wheelOpened := true }).requestOpen t.circuit
          supplyValve).requestOpen t.circuit galleryFillValve).requestOpen t.circuit (inletValve t.circuit)).settle) ∧
    (t.phase = .bleed → t.kind = .deflate → exec (.phaseEnd c) s = .next (((s.closeAll
      ([inletValve t.circuit, galleryExhaustValve].filter fun v => v ≠ inletValve t.circuit)).setTransaction { t with
        phase := .equalize, phaseEnd := s.now + t.afterTime }).requestOpen t.circuit (inletValve t.circuit)).settle) ∧
    (t.phase = .settle → circuitKind t.circuit ≠ .tyre → exec (.phaseEnd c) s =
      .next (s.endTransaction t (s.judge t) true).settle) ∧
    (t.phase = .equalize → circuitKind t.circuit = .tyre →
      let read := (s.validValue 4).map fun g => ((g : Int) + s.params.p76).toNat
      let u := s.writeRead t.circuit read
      exec (.phaseEnd c) s =
        .next (u.endTransaction { t with readValue := read } (u.judge { t with readValue := read }) true).settle)

/-- How a transaction is judged, what each outcome makes of the record, and how it ends. With the strike count at
most 2: EFFECTIVE, OVERSHOOT and AT_LIMIT leave 0 strikes and IDLE; NO_RESPONSE and RESERVE_CUT keep the strikes
and leave HOLDOFF; STRIKE and TRIPPED add 1 and leave IDLE, but a third one leaves 0 strikes and STALLED;
ELECTRICAL keeps the strikes and leaves IDLE for a shared valve, and 0 strikes and STALLED for a valve of the
circuit; UNJUDGED and ABORTED keep the strikes and leave IDLE. The outcome becomes the last outcome. EFFECTIVE
clears a tyre's probe due, NO_RESPONSE and RESERVE_CUT set it, the others keep it. The judgements of a side are
those of R90 and R91, of LIFT R92, of a tyre R93, each by its first row that holds. The end of a transaction
closes the valves its phase holds open (by phase as R84 to R88 give them), gives back SUPPLY and GALLERY where
its circuit is their holder, writes the record with the holdoff of P45, logs and raises CIRCUIT_STALLED where
the new state is STALLED, frees the slot, runs a pass if anything was given back, and hands the circuit back: an
IDLE side is evaluated, with its at limit mark set at AT_LIMIT, a tyre goes through R129, and LIFT is evaluated
in IDLE and told of a stall. Closing de-energises a valve, abandons its check and touches no other. At an
ELECTRICAL end a check that has run its 20 ms keeps its verdict to be taken, and any other is abandoned. That
the pass comes before the hand-over's own work, and that the verdict is kept so, is the model's (log entries 29
and 36). (R8, R12, R14, R90, R91, R92, R93, R94, R95, R96, R97.) -/
def Obligations.OutcomeTable : Prop :=
  (∀ (r : CircuitRecord) (t : Transaction) (o : TransactionOutcome) (own : Bool) (m : Nat), r.strikes ≤ 2 →
    let x := recordAfter r t o (endingOf o r.strikes own) m
    x.lastOutcome = o ∧
    ((o = .effective ∨ o = .overshoot ∨ o = .atLimit) → x.strikes = 0 ∧ x.state = .idle) ∧
    ((o = .noResponse ∨ o = .reserveCut) → x.strikes = r.strikes ∧ x.state = .holdoff ∧ x.holdoffEnd = some m) ∧
    ((o = .strike ∨ o = .tripped) → r.strikes < 2 → x.strikes = r.strikes + 1 ∧ x.state = .idle) ∧
    ((o = .strike ∨ o = .tripped) → r.strikes = 2 → x.strikes = 0 ∧ x.state = .stalled) ∧
    (o = .electrical → own = false → x.strikes = r.strikes ∧ x.state = .idle) ∧
    (o = .electrical → own = true → x.strikes = 0 ∧ x.state = .stalled) ∧
    ((o = .unjudged ∨ o = .aborted) → x.strikes = r.strikes ∧ x.state = .idle) ∧
    (x.state ≠ .holdoff → x.holdoffEnd = none) ∧
    (circuitKind t.circuit = .tyre → x.probeDue = (if o = .effective then false
      else if o = .noResponse ∨ o = .reserveCut then true else r.probeDue)) ∧
    x.target = r.target ∧ x.measured = r.measured ∧ x.leakRate = r.leakRate) ∧
  (∀ (s : State) (t : Transaction) (side : Side),
    let h := s.validValue (heightChannel side)
    let p := s.validValue (pressureChannel side)
    let up := t.kind = .sideFill
    let byHeight := ∃ a b, t.refHeight = some a ∧ h = some b ∧
      ((up ∧ a + s.params.p42 ≤ b) ∨ (¬up ∧ b + s.params.p42 ≤ a))
    let byPressure := ∃ a b, t.refPressure = some a ∧ p = some b ∧
      ((up ∧ a + s.params.p43 ≤ b) ∨ (¬up ∧ b + s.params.p43 ≤ a))
    let response := byHeight ∨ byPressure
    let usable := (t.refHeight ≠ none ∧ h ≠ none) ∨ (t.refPressure ≠ none ∧ p ≠ none)
    let band := if s.height.mode = .ride then s.params.p15 else s.params.p16
    let passes := ∃ x g, h = some x ∧ (s.circuit (sideCircuit side)).target = some g ∧
      ((up ∧ g + band < x) ∨ (¬up ∧ x + band < g))
    let weak := ∃ r q, t.supplyAtEnd = some (r, q) ∧ r < q + s.params.p33
    let limit := ¬up ∧ ¬byHeight ∧ ∃ x, p = some x ∧ x ≤ s.params.p44
    (limit → s.judgeSide t side = .atLimit) ∧
    (¬limit → ¬usable → s.judgeSide t side = .unjudged) ∧
    (¬limit → response → passes → s.judgeSide t side = .overshoot) ∧
    (¬limit → response → ¬passes → s.judgeSide t side = .effective) ∧
    (¬limit → usable → ¬response → up → weak → s.judgeSide t side = .noResponse) ∧
    (¬limit → usable → ¬response → (¬up ∨ ¬weak) → s.judgeSide t side = .strike)) ∧
  (∀ (s : State) (t : Transaction),
    let b := s.validValue 3
    let up := t.kind = .liftFill
    let response := ∃ x y, t.refPressure = some x ∧ b = some y ∧
      ((up ∧ x + s.params.p43 ≤ y) ∨ (¬up ∧ y + s.params.p43 ≤ x))
    let usable := t.refPressure ≠ none ∧ b ≠ none
    let weak := ∃ r q, t.supplyAtEnd = some (r, q) ∧ r < q + s.params.p33
    let limit := ¬up ∧ ¬response ∧ ∃ y, b = some y ∧ y ≤ s.params.p83
    (limit → s.judgeLift t = .atLimit) ∧
    (¬limit → ¬usable → s.judgeLift t = .unjudged) ∧
    (¬limit → response → s.judgeLift t = .effective) ∧
    (¬limit → usable → ¬response → up → weak → s.judgeLift t = .noResponse) ∧
    (¬limit → usable → ¬response → (¬up ∨ ¬weak) → s.judgeLift t = .strike)) ∧
  (∀ (s : State) (t : Transaction), t.readValue = none → s.judgeTyre t = .unjudged) ∧
  (∀ (s : State) (t : Transaction) (v : Nat), t.readValue = some v →
    let fill := t.kind = .inflate
    let response := ∃ m, t.refMeasured = some m ∧
      ((fill ∧ m + s.params.p73 ≤ v) ∨ (¬fill ∧ v + s.params.p73 ≤ m))
    let beyond := ∃ g, (s.circuit t.circuit).target = some g ∧
      ((fill ∧ g + s.params.p61 < v) ∨ (¬fill ∧ v + s.params.p60 < g))
    let weak := ∃ r q, t.supplyAtEnd = some (r, q) ∧ r < q + s.params.p33
    (v < s.params.p74 → s.judgeTyre t = .strike) ∧
    (s.params.p74 ≤ v → t.kind = .probe → s.judgeTyre t = .effective) ∧
    (s.params.p74 ≤ v → t.kind ≠ .probe → response → beyond → s.judgeTyre t = .overshoot) ∧
    (s.params.p74 ≤ v → t.kind ≠ .probe → response → ¬beyond → s.judgeTyre t = .effective) ∧
    (s.params.p74 ≤ v → t.kind ≠ .probe → ¬response → fill → weak → s.judgeTyre t = .noResponse) ∧
    (s.params.p74 ≤ v → t.kind ≠ .probe → ¬response → (¬fill ∨ ¬weak) → s.judgeTyre t = .strike)) ∧
  (∀ (s : State) (t : Transaction),
    (∀ side : Side, t.circuit = sideCircuit side → s.judge t = s.judgeSide t side) ∧
    (t.circuit = liftCircuit → s.judge t = s.judgeLift t) ∧
    (∀ w : TyreId, t.circuit = tyreCircuit w → s.judge t = s.judgeTyre t)) ∧
  (∀ (c : CircuitId) (k : TransactionKind),
    phaseValves c k .settle = [] ∧ phaseValves c k .equalize = [inletValve c] ∧
    phaseValves c k .vent = [galleryExhaustValve] ∧ phaseValves c k .charge = [supplyValve, galleryFillValve] ∧
    phaseValves c k .inflate = [supplyValve, galleryFillValve, inletValve c] ∧
    phaseValves c k .bleed = [inletValve c, galleryExhaustValve] ∧
    ((k = .sideFill ∨ k = .liftFill) → phaseValves c k .pulse = [supplyValve, inletValve c]) ∧
    ((k = .sideExhaust ∨ k = .liftExhaust) → phaseValves c k .pulse = [outletValve c])) ∧
  (∀ (s : State) (t : Transaction) (o : TransactionOutcome) (own : Bool),
    let c := t.circuit
    let opened := phaseValves c t.kind t.phase
    let closed := if o = .electrical then opened.foldl State.closeAtVerdict s else opened.foldl State.closeValve s
    let givesSupply := t.holdsSupply = true ∧ s.scheduler.supply = some c
    let givesGallery := t.holdsGallery = true ∧ s.scheduler.gallery = some c
    let freed := closed.setScheduler { s.scheduler with
      supply := if givesSupply then none else s.scheduler.supply
      gallery := if givesGallery then none else s.scheduler.gallery }
    let ending := endingOf o (s.circuit c).strikes own
    let written := freed.setCircuit c (recordAfter (s.circuit c) t o ending (s.now + s.params.p45))
    let told := match ending with
      | .stalled value => (written.logEvent .circuitStalled (stallSeverity c) (some c) (some value)).raise
          (.circuitStalled c) (stallSeverity c)
      | _ => written
    let ended := told.setEngine (s.engine.filter fun u => u.circuit ≠ c)
    s.endTransaction t o own = (if givesSupply ∨ givesGallery then ended.pass else ended).handBack t o ending) ∧
  (∀ (s : State) (t : Transaction) (o : TransactionOutcome) (ending : Ending),
    (∀ side : Side, t.circuit = sideCircuit side →
      (ending = .idle → o = .atLimit → s.handBack t o ending = s.markAtLimit side) ∧
      (ending = .idle → o ≠ .atLimit → s.handBack t o ending = s.evaluateSide side) ∧
      (ending ≠ .idle → s.handBack t o ending = s)) ∧
    (∀ w : TyreId, t.circuit = tyreCircuit w → s.handBack t o ending = s.tyreReturned w t.kind o t.readValue) ∧
    (t.circuit = liftCircuit →
      (ending = .idle → s.handBack t o ending = s.liftReturned t.kind) ∧
      (ending = .holdoff → s.handBack t o ending = s) ∧
      (∀ value : Nat, ending = .stalled value → s.handBack t o ending = s.liftStalled))) ∧
  (∀ (s : State) (v : ValveId), let t := s.closeValve v
    (t.valve v).isOpen = false ∧ (∀ u : ValveId, u ≠ v → t.valve u = s.valve u) ∧
    ((s.valve v).isOpen = true → (t.valve v).check = none) ∧ ((s.valve v).isOpen = false → t = s)) ∧
  (∀ (s : State) (v : ValveId),
    let r := s.valve v
    let run := r.verdictLeft = true ∨ ∃ m, r.check = some m ∧ m + 20 ≤ s.now
    (r.isOpen = false → s.closeAtVerdict v = s) ∧
    (r.isOpen = true → run → s.closeAtVerdict v =
      s.setValve v { r with isOpen := false, check := none, verdictLeft := true }) ∧
    (r.isOpen = true → ¬run → s.closeAtVerdict v =
      s.setValve v { r with isOpen := false, check := none, verdictLeft := false }))

/-- The evaluation of a side and of LIFT, the persistence of a need, and the moments of both. With evaluation height
h (the own channel's, else the other's, else none) and target t: below P14 class 0 FILL; above P13 and not at
limit class 0 EXHAUST; else more than the band below t class 1 FILL, more than the band above t and not at limit
class 1 EXHAUST; else, and with no h or t, nothing. The band is P15 in RIDE and P16 otherwise, half of it
rounded while adjusting. The persistence is 0 after a target change, else P17 in RIDE or while the speed is not
0, else P18. An evaluation leaves an ABSENT side alone. Otherwise it sets target changed to no; a direction
starts the timer, or lets it run on where it is the one held, and nothing ends it; class 0 joins at once, class
1 once its time since pending since is the persistence, and before that it sets the expiry; no need, or another
action, withdraws the waiting demand; adjusting becomes yes at a join and no within half the deadband.
PERSISTENCE_EXPIRY, when the expiry has come, evaluates the side; HOLDOFF_END, when holdoff remaining is 0,
makes the circuit IDLE, runs a pass and evaluates it. LIFT is asked for by the table of R119: a FILL below P82
in FILLING and, 30 kPa lower or while refilling, in UP; UP is reached at P82; an EXHAUST at the lowering class
above P83 in VENTING, and at or below P83 the switch to CONNECTED; with channel 3 not VALID a lowering, or one
blind EXHAUST; a withdrawal in DOWN, ISOLATING and CONNECTING. A LIFT EXHAUST that ends IDLE with no bag reading
in VENTING sets blind vent done and goes on to CONNECTING; at any other return to IDLE LIFT is evaluated. With
LIFT in another state than IDLE or WAITING FILLING stays. A lowering held since the unit left RUNNING stays in
VENTING until it is RUNNING again, then goes on (the way it goes on is the model's, log entry 65). The model's:
adjusting ends no where a join falls within half the deadband (log entry 20), the expiry is an item of its own
(22), and UP is reached with LIFT IDLE or WAITING alone (30). (R65, R96, R97, R112, R113, R114, R116, R119,
R145.) -/
def Obligations.SideEvaluation : Prop :=
  (∀ (s : State) (side : Side) (h t : Nat), s.evaluationHeight side = some h → s.height.target = some t →
    let deadband := if s.height.mode = .ride then s.params.p15 else s.params.p16
    let band := if (s.sideControl side).adjusting then (deadband + 1) / 2 else deadband
    let free := (s.sideControl side).atLimit = false
    (h < s.params.p14 → s.sideResult side = .safety .fill) ∧
    (s.params.p14 ≤ h → s.params.p13 < h → free → s.sideResult side = .safety .exhaust) ∧
    (s.params.p14 ≤ h → (h ≤ s.params.p13 ∨ ¬free) → h + band < t → s.sideResult side = .level .fill) ∧
    (s.params.p14 ≤ h → h ≤ s.params.p13 → free → t + band < h → s.sideResult side = .level .exhaust) ∧
    (s.params.p14 ≤ h → (h ≤ s.params.p13 ∨ ¬free) → t ≤ h + band → (h ≤ t + band ∨ ¬free) →
      s.sideResult side = .nothing)) ∧
  (∀ (s : State) (side : Side), s.persistence side = if (s.sideControl side).targetChanged then 0
    else if s.height.mode = .ride ∨ s.height.speed ≠ some 0 then s.params.p17 else s.params.p18) ∧
  (∀ (s : State) (side : Side) (m : Nat), (s.sideControl side).expiry = some m → m ≤ s.now →
    exec (.persistenceExpiry side) s =
      .next ((s.setSideControl side { s.sideControl side with expiry := none }).evaluateSide side).settle) ∧
  (∀ (s : State) (c : CircuitId) (m : Nat), (s.circuit c).state = .holdoff → (s.circuit c).holdoffEnd = some m →
    m ≤ s.now → exec (.holdoffEnd c) s =
      .next (((s.setCircuit c { s.circuit c with state := .idle, holdoffEnd := none }).pass).evaluateCircuit c).settle) ∧
  (∀ s : State, s.liftFitted = true → s.lift.reconciled = true →
    let filling := s.lift.state = .raising ∧ s.lift.step = .filling
    let venting := s.lift.state = .lowering ∧ s.lift.step = .venting ∧ s.lift.ventHeld = false
    let cls := s.lift.loweringClass.getD .lift
    (∀ b : Nat, s.validValue 3 = some b →
      (filling → b < s.params.p82 → s.evaluateLift = s.join liftCircuit .fill .lift) ∧
      (filling → s.params.p82 ≤ b → (s.circuit liftCircuit).state = .idle ∨ (s.circuit liftCircuit).state = .waiting →
        s.evaluateLift = (((s.withdraw liftCircuit).setLift { s.lift with state := .up, step := .noStep }).logEvent
          .liftChanged .advisory none (some 2)).setLift
            { s.lift with state := .up, step := .noStep, refilling := false }) ∧
      (s.lift.state = .up → b + 30 < s.params.p82 →
        s.evaluateLift = (s.setLift { s.lift with refilling := true }).join liftCircuit .fill .lift) ∧
      (s.lift.state = .up → s.params.p82 ≤ b + 30 → b < s.params.p82 →
        s.evaluateLift = if s.lift.refilling then s.join liftCircuit .fill .lift else s) ∧
      (s.lift.state = .up → s.params.p82 ≤ b →
        s.evaluateLift = (s.setLift { s.lift with refilling := false }).withdraw liftCircuit) ∧
      (venting → s.params.p83 < b → s.evaluateLift = s.join liftCircuit .exhaust cls) ∧
      (venting → b ≤ s.params.p83 → s.evaluateLift = ((s.withdraw liftCircuit).setLift
        { s.lift with step := .connecting, switchOutstanding := true }).requestSwitch .connected)) ∧
    (s.validValue 3 = none →
      ((filling ∨ s.lift.state = .up) → s.evaluateLift = s.lower .lift) ∧
      (venting → s.lift.blindVentDone = false → s.evaluateLift = s.join liftCircuit .exhaust cls) ∧
      (venting → s.lift.blindVentDone = true → s.evaluateLift = s)) ∧
    ((s.lift.state = .down ∨ (s.lift.state = .raising ∧ s.lift.step = .isolating) ∨
        (s.lift.state = .lowering ∧ s.lift.step = .connecting)) →
      s.evaluateLift = s.withdraw liftCircuit)) ∧
  (∀ s : State, (s.liftFitted = false ∨ s.lift.reconciled = false) → s.evaluateLift = s) ∧
  (∀ (s : State) (side : Side),
    (∀ h, s.validValue (heightChannel side) = some h → s.evaluationHeight side = some h) ∧
    (s.validValue (heightChannel side) = none →
      s.evaluationHeight side = s.validValue (heightChannel (otherSide side))) ∧
    ((s.evaluationHeight side = none ∨ s.height.target = none) → s.sideResult side = .nothing) ∧
    ((s.circuit (sideCircuit side)).state = .absent → s.evaluateSide side = s)) ∧
  (∀ (s : State) (side : Side), (s.circuit (sideCircuit side)).state ≠ .absent →
    let c := sideCircuit side
    let x := s.sideControl side
    let deadband := if s.height.mode = .ride then s.params.p15 else s.params.p16
    let near := (s.evaluationHeight side).any fun h => s.height.target.any fun g =>
      decide ((g - h) + (h - g) ≤ (deadband + 1) / 2)
    let unlessAction (u : State) (a : Action) := if (s.demandOf c).all fun d => d.action = a then u else u.withdraw c
    (s.sideResult side = .nothing →
      let u := s.setSideControl side { x with
        adjusting := x.adjusting && !near, pendingDir := none, pendingSince := none, targetChanged := false
        expiry := none }
      s.evaluateSide side = if s.demandOf c = none then u else u.withdraw c) ∧
    (∀ need : SideNeed,
      let action : Action := match need with
        | .fill => .fill
        | .exhaust => .exhaust
      let since := if x.pendingDir = some need then x.pendingSince.getD s.now else s.now
      let timed := { x with
        adjusting := !near, pendingDir := some need, pendingSince := some since, targetChanged := false
        expiry := none }
      (s.sideResult side = .safety need → s.evaluateSide side =
        (unlessAction (s.setSideControl side timed) action).join c action .safety) ∧
      (s.sideResult side = .level need → since + s.persistence side ≤ s.now → s.evaluateSide side =
        (unlessAction (s.setSideControl side timed) action).join c action .level) ∧
      (s.sideResult side = .level need → s.now < since + s.persistence side → s.evaluateSide side =
        unlessAction (s.setSideControl side { timed with
          adjusting := x.adjusting && !near, expiry := some (since + s.persistence side) }) action))) ∧
  (∀ (s : State) (b : Nat), s.liftFitted = true → s.lift.reconciled = true → s.lift.state = .raising →
    s.lift.step = .filling → s.validValue 3 = some b → s.params.p82 ≤ b → (s.circuit liftCircuit).state ≠ .idle →
    (s.circuit liftCircuit).state ≠ .waiting → s.evaluateLift = s) ∧
  (∀ s : State, s.liftFitted = true → s.lift.reconciled = true → s.lift.state = .lowering → s.lift.step = .venting →
    s.lift.ventHeld = true →
    let free := { s.lift with ventHeld := false }
    (s.supervisor.control ≠ .running → s.evaluateLift = s) ∧
    (s.supervisor.control = .running → (s.validValue 3 ≠ none ∨ s.lift.blindVentDone = false) →
      s.evaluateLift = (s.setLift free).evaluateLift) ∧
    (s.supervisor.control = .running → s.validValue 3 = none → s.lift.blindVentDone = true →
      s.evaluateLift = (((s.setLift free).withdraw liftCircuit).setLift
        { free with step := .connecting, switchOutstanding := true }).requestSwitch .connected)) ∧
  (∀ (s : State) (k : TransactionKind),
    let blind := s.liftFitted = true ∧ s.lift.reconciled = true ∧ k = .liftExhaust ∧ s.validValue 3 = none ∧
      s.lift.state = .lowering ∧ s.lift.step = .venting
    let done := { s.lift with blindVentDone := true }
    (¬blind → s.liftReturned k = s.evaluateLift) ∧
    (blind → s.lift.ventHeld = true → s.liftReturned k = s.setLift done) ∧
    (blind → s.lift.ventHeld = false → s.liftReturned k = (((s.setLift done).withdraw liftCircuit).setLift
      { done with step := .connecting, switchOutstanding := true }).requestSwitch .connected))

/-- SET_MODE is taken or refused, and what a change of mode does. After STARTING: a mode above 2, or CUSTOM without
a height, is refused with BAD_ARGUMENT. A mode is refused with INTERLOCKED while the ramp state is not UP, and
DOCK and CUSTOM while the speed is unknown or at least P21. Otherwise RIDE and DOCK are answered DONE and the
mode is taken; CUSTOM takes the height clamped into [P12, P13], answered CLAMPED when the clamp moved it and
DONE otherwise. Taking the mode already held changes nothing but, in CUSTOM, forms the target afresh. A change
of mode sets the mode, logs MODE_CHANGED with the mode's code, computes both heights again when the window
changes, starts a lowering at class 2 on entering DOCK or CUSTOM and tests the dwell, and forms the target of
the new mode. A target change writes the present side records, tells the Load Estimator, sets target changed and
clears at limit on both sides, and evaluates both. That equal windows (P19 = P20) are no change of window is the
model's choice (log entry 42). The order of these effects is that of the lists of R105 and R106, the model's
reading (log entry 62), and LEFT before RIGHT is its choice (log entry 56). (R28, R105, R106, R120, R121, R154.) -/
def Obligations.SetModeRequest : Prop :=
  (∀ (tag b : Byte) (h : Option Word) (s : State), s.Serving →
    let moving := s.height.speed = none ∨ ∃ v, s.height.speed = some v ∧ s.params.p21 ≤ v
    (2 < b.toNat → exec (.setMode tag b h) s = s.refusedWith .setMode tag .badArgument) ∧
    (b.toNat = 2 → h = none → exec (.setMode tag b h) s = s.refusedWith .setMode tag .badArgument) ∧
    (b.toNat < 2 → s.height.ramp ≠ .up → exec (.setMode tag b h) s = s.refusedWith .setMode tag .interlocked) ∧
    (b.toNat = 1 → moving → exec (.setMode tag b h) s = s.refusedWith .setMode tag .interlocked) ∧
    (b.toNat = 2 → h ≠ none → (s.height.ramp ≠ .up ∨ moving) →
      exec (.setMode tag b h) s = s.refusedWith .setMode tag .interlocked) ∧
    (b.toNat = 0 → s.height.ramp = .up →
      exec (.setMode tag b h) s = (s.heard.takeMode .ride).completed .setMode tag (.done [])) ∧
    (b.toNat = 1 → s.height.ramp = .up → ¬moving →
      exec (.setMode tag b h) s = (s.heard.takeMode .dock).completed .setMode tag (.done [])) ∧
    (∀ w, b.toNat = 2 → h = some w → s.height.ramp = .up → ¬moving →
      let x := max s.params.p12 (min s.params.p13 w.toNat)
      exec (.setMode tag b h) s = ((s.heard.setHeight { s.height with customHeight := x }).takeMode .custom).completed
        .setMode tag (if x = w.toNat then .done [] else .clamped []))) ∧
  (∀ s : State, s.height.mode ≠ .custom → s.takeMode s.height.mode = s) ∧
  (∀ s : State, s.height.mode = .custom → s.takeMode .custom = s.formTarget) ∧
  (∀ (s : State) (m : HeightMode), s.height.mode ≠ m →
    let named := (s.setHeight { s.height with mode := m }).logEvent .modeChanged .advisory none (some m.code)
    let heard := if (s.height.mode = .ride ∨ m = .ride) ∧ s.params.p19 ≠ s.params.p20 then named.recomputeHeights
      else named
    let t := s.takeMode m
    t = ((if m = .ride then heard.testDwell else (heard.lower .lift).testDwell).formTarget).evaluateSides ∧
    t.height.mode = m ∧ t.height.target = some (max s.params.p12 (min s.params.p13 (match m with
      | .ride => s.params.p10
      | .dock => s.params.p11
      | .custom => s.height.customHeight)))) ∧
  (∀ s : State, s.height.target = some s.formedTarget → s.formTarget = s) ∧
  (∀ s : State, s.height.target ≠ some s.formedTarget →
    let held := s.setHeight { s.height with target := some s.formedTarget }
    s.formTarget = (((((held.writeSideTarget .left).writeSideTarget .right).estimateTarget).markTargetChanged
      .left).markTargetChanged .right).evaluateSides) ∧
  (∀ (s : State) (side : Side),
    (s.writeSideTarget side).circuit (sideCircuit side) =
      (if s.isPresent (sideCircuit side) = true then { s.circuit (sideCircuit side) with target := s.height.target }
        else s.circuit (sideCircuit side)) ∧
    (s.markTargetChanged side).sideControl side =
      { s.sideControl side with targetChanged := true, atLimit := false })

/-- STEP_HEIGHT is taken or refused. While STARTING it is refused with STARTING. Otherwise: a step of 0 or beyond 50
either way is refused with BAD_ARGUMENT; then INTERLOCKED under the conditions of CUSTOM; then BAD_CONFIG while
the target is absent; else the custom height becomes the target plus the step clamped into [P12, P13], the mode
becomes CUSTOM and the target that height, answered CLAMPED when the clamp moved it and DONE otherwise. A change
from RIDE or DOCK to CUSTOM logs MODE_CHANGED (value 2), computes the heights again where the window changes,
starts a lowering of the lift at class 2 and forms the target; in CUSTOM the target alone is formed, and one
that equals the target held changes nothing. That equal windows (P19 = P20) are no change of window is the
model's choice (log entry 42). The order of the effects of a change of mode is the list's of R106, the model's
reading (log entry 62). (R28, R105, R106, R107, R120, R121.) -/
def Obligations.StepHeightRequest : Prop :=
  (∀ (tag step : Byte) (s : State), s.Ready → s.supervisor.control = .starting →
    exec (.stepHeight tag step) s = s.refusedWith .stepHeight tag .starting) ∧
  (∀ (tag step : Byte) (s : State), s.Serving →
    let k := step.toInt
    let barred := s.height.ramp ≠ .up ∨ s.height.speed = none ∨ ∃ v, s.height.speed = some v ∧ s.params.p21 ≤ v
    ((k = 0 ∨ 50 < k ∨ k < -50) →
      exec (.stepHeight tag step) s = s.refusedWith .stepHeight tag .badArgument) ∧
    (k ≠ 0 → k ≤ 50 → -50 ≤ k → barred →
      exec (.stepHeight tag step) s = s.refusedWith .stepHeight tag .interlocked) ∧
    (k ≠ 0 → k ≤ 50 → -50 ≤ k → ¬barred → s.height.target = none →
      exec (.stepHeight tag step) s = s.refusedWith .stepHeight tag .badConfig) ∧
    (∀ t : Nat, k ≠ 0 → k ≤ 50 → -50 ≤ k → ¬barred → s.height.target = some t →
      let x := max (s.params.p12 : Int) (min s.params.p13 (t + k))
      exec (.stepHeight tag step) s =
        ((s.heard.setHeight { s.height with customHeight := x.toNat }).takeMode .custom).completed .stepHeight tag
          (if x = t + k then .done [] else .clamped []) ∧
      ∃ u, exec (.stepHeight tag step) s = .next u ∧ u.height.mode = .custom ∧ u.height.customHeight = x.toNat ∧
        u.height.target = some x.toNat)) ∧
  (∀ s : State, s.takeMode .custom = if s.height.mode = .custom then s.formTarget else s.changeMode .custom) ∧
  (∀ s : State, s.height.mode ≠ .custom →
    let named := (s.setHeight { s.height with mode := .custom }).logEvent .modeChanged .advisory none (some 2)
    let heard := if s.height.mode = .ride ∧ s.params.p19 ≠ s.params.p20 then named.recomputeHeights else named
    s.changeMode .custom = (((heard.lower .lift).testDwell).formTarget).evaluateSides) ∧
  (∀ s : State, s.formTarget.height.mode = s.height.mode ∧
    s.formTarget.height.target = some (max s.params.p12 (min s.params.p13 (match s.height.mode with
      | .ride => s.params.p10
      | .dock => s.params.p11
      | .custom => s.height.customHeight))) ∧
    (s.height.target = some s.formedTarget → s.formTarget = s))

/-- SPEED is taken, the speed ages out, and what each is judged by. SPEED after STARTING is answered DONE with 0 to
150 km/h, and CLAMPED with a greater one held at 150; the speed and its mark are written, the Load Estimator is
told when the value changed, return to ride is checked and RAMP_AT_SPEED judged. SPEED_AGE_OUT does the same
with the speed unknown when P91 has passed since the mark, and nothing before. Return to ride: in DOCK or CUSTOM
with the ramp UP and the speed unknown or at least P21, RIDE is taken. RAMP_AT_SPEED is active exactly while
ramp read is yes, the ramp is not UP and the speed is unknown or above 5 km/h; raising it logs its event with
the speed or -1. Allowance in force is yes exactly while the speed is unknown or at least P56; a change runs
stages G and H for both sides. The order of the three tests is that of the list of R109, the model's reading
(log entry 62). That a SPEED_AGE_OUT before its time changes nothing, and that the mark goes with the speed, is
the model's (log entries 3 and 39). (R109, R53, R110, R111.) -/
def Obligations.SpeedRequest : Prop :=
  (∀ (tag b : Byte) (s : State), s.Serving → exec (.speed tag b) s =
    (s.heard.takeSpeed (some (min 150 b.toNat)) (some s.now)).completed .speed tag
      (if 150 < b.toNat then .clamped [] else .done [])) ∧
  (∀ (s : State) (v m : Nat), s.height.speed = some v → s.height.speedMark = some m →
    m + s.params.p91 ≤ s.now → exec .speedAgeOut s = .next (s.takeSpeed none none).settle) ∧
  (∀ (s : State) (m : Nat), s.height.speedMark = some m → s.now < m + s.params.p91 → s.deferred = [] →
    exec .speedAgeOut s = .next s) ∧
  (∀ (s : State) (v m : Option Nat), s.height.speed ≠ v →
    s.takeSpeed v m = ((s.setHeight { s.height with speed := v, speedMark := m }).judgeAllowance).returnToRide.judgeRampAtSpeed) ∧
  (∀ (s : State) (v m : Option Nat), s.height.speed = v →
    s.takeSpeed v m = (s.setHeight { s.height with speed := v, speedMark := m }).returnToRide.judgeRampAtSpeed) ∧
  (∀ s : State,
    let moving := s.height.speed = none ∨ ∃ v, s.height.speed = some v ∧ s.params.p21 ≤ v
    (s.height.mode ≠ .ride → s.height.ramp = .up → moving → s.returnToRide = s.takeMode .ride) ∧
    ((s.height.mode = .ride ∨ s.height.ramp ≠ .up ∨ ¬moving) → s.returnToRide = s)) ∧
  (∀ s : State,
    let bad := s.height.rampRead = true ∧ s.height.ramp ≠ .up ∧
      (s.height.speed = none ∨ ∃ v, s.height.speed = some v ∧ 5 < v)
    (bad → s.isActive .rampAtSpeed = true → s.judgeRampAtSpeed = s) ∧
    (bad → s.isActive .rampAtSpeed = false → s.judgeRampAtSpeed = (s.raise .rampAtSpeed .critical).logEvent
      .rampAtSpeed .critical none (some ((s.height.speed.map Int.ofNat).getD (-1)))) ∧
    (¬bad → s.judgeRampAtSpeed = s.clear .rampAtSpeed) ∧
    (s.judgeRampAtSpeed.isActive .rampAtSpeed = true ↔ bad)) ∧
  (∀ s : State,
    let high := s.height.speed = none ∨ ∃ v, s.height.speed = some v ∧ s.params.p56 ≤ v
    ((s.estimator.allowance = true ↔ high) → s.judgeAllowance = s) ∧
    (¬(s.estimator.allowance = true ↔ high) → s.judgeAllowance =
      (s.setEstimator { s.estimator with allowance := !s.estimator.allowance }).recomputeSides .fromG) ∧
    (s.judgeAllowance.estimator.allowance = true ↔ high))

/-- LIFT is taken or refused; how a raise, a lowering and the AUTO dwell start and end; a stall of LIFT. After
STARTING: every LIFT request is refused with NO_SUCH_CIRCUIT while P03 is NONE. With a lift axle: AUTO and
MANUAL are DONE and write P84; LOWER is DONE without effect in DOWN and LOWERING, and ACCEPTED with a class 2
lowering in RAISING and UP; RAISE is refused with UNCONFIGURED, and INTERLOCKED while SUSPENDED; while RUNNING
it is DONE in RAISING and UP, BUSY in LOWERING, and in DOWN refused with the first failing test of STALLED,
INTERLOCKED and LOAD, or ACCEPTED with a raise. LIFT_DWELL_END, 10 s after dwell since, starts a permitted
raise, or else a new dwell. A raise makes the state RAISING in ISOLATING, logs LIFT_CHANGED, ends the dwell and
requests the switch to ISOLATED. A lowering from RAISING or UP makes the state LOWERING with the class of its
cause, logs LIFT_CHANGED, clears refilling, blind vent done and the dwell, and evaluates LIFT in VENTING, which
connects at once at or below P83; a class 0 cause hastens the one under way; in DOWN nothing starts. A stall of
LIFT in RAISING or UP requests the switch to CONNECTED, makes the state DOWN in step NONE without a class, with
LIFT_CHANGED, and raises LIFT_UNAVAILABLE at DEGRADED; in LOWERING the same at CRITICAL; in DOWN nothing
changes. Raising it logs its event at that severity, and does nothing where it is active at that severity or a
higher one (log entry 19). Loads handed on are kept, LIVE; in AUTO a load of a LIVE side above P80 lowers at
class 0; then the dwell is tested, as it is when a side becomes HELD (log entry 46). Tested, dwell since is set
if absent while every condition of R121 holds, and ends otherwise. That the event of LIFT_UNAVAILABLE carries
circuit 2 is the model's (log entry 47). That LIFT is evaluated before the switch of a raise is requested is the
model's reading (log entry 62). (R116, R117, R118, R119, R120, R121, R122.) -/
def Obligations.LiftRequests : Prop :=
  (∀ (tag : Byte) (s : State), s.Serving → s.params.p03 = .notFitted →
    ∀ c ∈ [Instr.liftRaise tag, .liftLower tag, .liftAuto tag, .liftManual tag],
      exec c s = s.refusedWith .lift tag .noSuchCircuit) ∧
  (∀ (tag : Byte) (s : State), s.Serving → s.params.p03 = .fitted →
    let state := s.lift.state
    exec (.liftAuto tag) s = (s.heard.reconfigure { s.params with p84 := .auto }).completed .lift tag (.done []) ∧
    exec (.liftManual tag) s = (s.heard.reconfigure { s.params with p84 := .manual }).completed .lift tag (.done []) ∧
    ((state = .down ∨ state = .lowering) → exec (.liftLower tag) s = .next (s.heard.replied .lift tag (.done []))) ∧
    ((state = .raising ∨ state = .up) →
      exec (.liftLower tag) s = (s.heard.lower .lift).completed .lift tag .accepted) ∧
    (s.supervisor.control = .unconfigured → exec (.liftRaise tag) s = s.refusedWith .lift tag .unconfigured) ∧
    (s.supervisor.control = .suspended → exec (.liftRaise tag) s = s.refusedWith .lift tag .interlocked) ∧
    (s.supervisor.control = .running →
      ((state = .raising ∨ state = .up) → exec (.liftRaise tag) s = .next (s.heard.replied .lift tag (.done []))) ∧
      (state = .lowering → exec (.liftRaise tag) s = s.refusedWith .lift tag .busy) ∧
      (state = .down →
        let stalled := (s.circuit liftCircuit).state = .stalled ∨ s.isActive .liftUnavailable = true
        let clear := s.height.ramp = .up ∧ s.height.mode = .ride ∧ s.isValid 3 = true
        let light := ∀ side : Side, (s.lift.loads.get side).source = .live ∧
          ∃ w, (s.lift.loads.get side).sprung = some w ∧ w < s.params.p80 * (s.params.p01 - 1)
        (stalled → exec (.liftRaise tag) s = s.refusedWith .lift tag .stalled) ∧
        (¬stalled → ¬clear → exec (.liftRaise tag) s = s.refusedWith .lift tag .interlocked) ∧
        (¬stalled → clear → ¬light → exec (.liftRaise tag) s = s.refusedWith .lift tag .load) ∧
        (¬stalled → clear → light →
          exec (.liftRaise tag) s = s.heard.startRaise.completed .lift tag .accepted)))) ∧
  (∀ (s : State) (m : Nat), s.lift.dwellSince = some m → m + 10000 ≤ s.now →
    (s.mayRaise = true → exec .liftDwellEnd s = .next s.startRaise.settle) ∧
    (s.mayRaise = false → s.deferred = [] →
      exec .liftDwellEnd s = .next (s.setLift { s.lift with dwellSince := some s.now }))) ∧
  (∀ s : State, s.liftFitted = true → s.lift.reconciled = true →
    let begun (cls : DemandClass) := { s.lift with
      state := .lowering, step := .venting, loweringClass := some cls, refilling := false, blindVentDone := false
      ventHeld := false, dwellSince := none }
    let raised := { s.lift with state := .raising, step := .isolating, dwellSince := none }
    (s.lift.state = .down → s.startRaise =
      (((((s.setLift { s.lift with state := .raising, step := .isolating }).logEvent .liftChanged .advisory none
        (some 1)).setLift raised).withdraw liftCircuit).setLift { raised with switchOutstanding := true }).requestSwitch
          .isolated) ∧
    (∀ cls : DemandClass, (s.lift.state = .raising ∨ s.lift.state = .up) → s.lower cls =
      (((s.setLift { s.lift with state := .lowering, step := .venting }).logEvent .liftChanged .advisory none
        (some 3)).setLift (begun cls)).evaluateLift) ∧
    (s.lift.state = .lowering → s.lower .safety =
      (s.setLift { s.lift with loweringClass := some .safety }).evaluateLift ∧ s.lower .lift = s) ∧
    (∀ cls : DemandClass, s.lift.state = .down → s.lower cls = s)) ∧
  (∀ (s : State) (cls : DemandClass), (s.liftFitted = false ∨ s.lift.reconciled = false) → s.lower cls = s) ∧
  (∀ s : State, s.liftFitted = true → s.lift.reconciled = true →
    let asked := { s.lift with switchOutstanding := true }
    let stood := { asked with state := .down, step := .noStep }
    let down := ((((s.setLift asked).requestSwitch .connected).setLift stood).logEvent .liftChanged .advisory none
      (some 0)).setLift { stood with loweringClass := none, ventHeld := false }
    ((s.lift.state = .raising ∨ s.lift.state = .up) → s.liftStalled = down.raiseUnavailable .degraded) ∧
    (s.lift.state = .lowering → s.liftStalled = down.raiseUnavailable .critical) ∧
    (s.lift.state = .down → s.liftStalled = s)) ∧
  (∀ s : State, (s.liftFitted = false ∨ s.lift.reconciled = false) → s.liftStalled = s) ∧
  (∀ (s : State) (sev : Severity),
    let held := ∃ a ∈ s.events.conditions, a.id = .liftUnavailable ∧ sev.code ≤ a.severity.code
    (held → s.raiseUnavailable sev = s) ∧
    (¬held → s.raiseUnavailable sev =
      (s.raise .liftUnavailable sev).logEvent .liftUnavailable sev (some liftCircuit) none)) ∧
  (∀ s : State,
    let runs := s.liftFitted = true ∧ s.lift.reconciled = true ∧ s.params.p84 = .auto ∧
      s.supervisor.control = .running ∧ s.lift.state = .down ∧ s.height.ramp = .up ∧ s.height.mode = .ride ∧
      ∀ side : Side, (s.lift.loads.get side).source = .live ∧
        (s.lift.loads.get side).axlesDown = some s.params.p01 ∧
        ∃ w, (s.lift.loads.get side).perBellows = some w ∧ w < s.params.p81
    (runs → s.testDwell = s.setLift { s.lift with dwellSince := some (s.lift.dwellSince.getD s.now) }) ∧
    (¬runs → s.testDwell = s.setLift { s.lift with dwellSince := none })) ∧
  (∀ (s : State) (side : Side) (r : SideRecord),
    let kept := s.setLift { s.lift with
      loads := s.lift.loads.set side ⟨r.perBellows, r.sprung, some r.axlesDown, .live⟩ }
    let heavy := s.params.p84 = .auto ∧ ∃ d : Side, (kept.lift.loads.get d).source = .live ∧
      ∃ w, (kept.lift.loads.get d).perBellows = some w ∧ s.params.p80 < w
    (heavy → s.liftLoads side r = (kept.lower .safety).testDwell) ∧ (¬heavy → s.liftLoads side r = kept.testDwell) ∧
    s.liftLoadsHeld side = (s.setLift { s.lift with
      loads := s.lift.loads.set side { s.lift.loads.get side with source := .held } }).testDwell)

/-- CIRCUIT ISOLATE is answered by the named circuit, and what an isolation does. The table of R135: STARTING; an
identifier above 14 and a present side or lift BAD_ARGUMENT; an ABSENT circuit NO_SUCH_CIRCUIT; an ACTIVE tyre
BUSY; a STALLED tyre STALLED; an ISOLATED tyre DONE without effect; an IDLE, WAITING or HOLDOFF tyre DONE and
isolated with cause REQUEST. The isolation of R134, by any cause, removes the demand, makes the state ISOLATED
with holdoff remaining absent, sets the cause, raises the condition and logs TYRE_ISOLATED with the tyre's
circuit and the value (DEGRADED for REQUEST, else CRITICAL); it keeps everything else, and runs no pass. (R134,
R135.) -/
def Obligations.IsolateRequest : Prop :=
  (∀ (tag id : Byte) (s : State), s.Ready → s.supervisor.control = .starting →
    exec (.circuitIsolate tag id) s = s.refusedWith .circuit tag .starting) ∧
  (∀ (tag id : Byte) (s : State), s.Serving → 14 < id.toNat →
    exec (.circuitIsolate tag id) s = s.refusedWith .circuit tag .badArgument) ∧
  (∀ (tag id : Byte) (c : CircuitId) (s : State), s.Serving → id.toNat = c.val → (s.circuit c).state = .absent →
    exec (.circuitIsolate tag id) s = s.refusedWith .circuit tag .noSuchCircuit) ∧
  (∀ (tag id : Byte) (c : CircuitId) (s : State), s.Serving → id.toNat = c.val → (s.circuit c).state ≠ .absent →
    c.val ≤ 2 → exec (.circuitIsolate tag id) s = s.refusedWith .circuit tag .badArgument) ∧
  (∀ (tag id : Byte) (t : TyreId) (s : State), s.Serving → id.toNat = t.val + 3 →
    let state := (s.circuit (tyreCircuit t)).state
    (state = .active → exec (.circuitIsolate tag id) s = s.refusedWith .circuit tag .busy) ∧
    (state = .stalled → exec (.circuitIsolate tag id) s = s.refusedWith .circuit tag .stalled) ∧
    (state = .isolated →
      exec (.circuitIsolate tag id) s = .next (s.heard.replied .circuit tag (.done []))) ∧
    ((state = .idle ∨ state = .waiting ∨ state = .holdoff) →
      exec (.circuitIsolate tag id) s = (s.heard.isolate t .request 0).completed .circuit tag (.done []))) ∧
  (∀ (s : State) (t : TyreId) (cause : IsolationCause) (v : Nat),
    let u := s.isolate t cause v
    u.circuit (tyreCircuit t) = { s.circuit (tyreCircuit t) with state := .isolated, holdoffEnd := none } ∧
    (u.tyre t).cause = some cause ∧ u.demandOf (tyreCircuit t) = none ∧
    u.isActive (.tyreIsolated t) = true ∧ u.engine = s.engine ∧ u.driver.valves = s.driver.valves) ∧
  (∀ (s : State) (t : TyreId) (cause : IsolationCause) (v : Nat),
    let c := tyreCircuit t
    let sev : Severity := if cause = .request then .degraded else .critical
    s.isolate t cause v = (((((s.removeDemand c).setCircuit c
      { s.circuit c with state := .isolated, holdoffEnd := none }).setTyre t
        { s.tyre t with cause := some cause }).raise (.tyreIsolated t) sev).logEvent .tyreIsolated sev (some c)
          (some v)))

/-- CIRCUIT PROBE is answered by the named circuit, and what the evaluation of a tyre asks for. The table of R137:
STARTING; an identifier above 14 and a present side or lift BAD_ARGUMENT; an ABSENT circuit NO_SUCH_CIRCUIT; an
ACTIVE tyre BUSY; a STALLED tyre STALLED; an ISOLATED tyre INTERLOCKED; an IDLE, WAITING or HOLDOFF tyre DONE:
probe due becomes yes and the tyre is evaluated, which in HOLDOFF changes nothing more. The evaluation of a tyre
is the table of R126: nothing in ABSENT, STALLED, ISOLATED and ACTIVE; a withdrawal while channel 4 is not
VALID; a PROBE when probe due or unmeasured; a withdrawal without a target; below the target by more than P60 a
FILL, held back for a lifted tyre and for a leak measurement in progress; above it by more than P61 a DEFLATE
unless frozen; else a withdrawal. The join request has class 1 while leaking and class 3 otherwise; the
scheduler takes it while RUNNING. (R126, R127, R137.) -/
def Obligations.ProbeRequest : Prop :=
  (∀ (tag id : Byte) (s : State), s.Ready → s.supervisor.control = .starting →
    exec (.circuitProbe tag id) s = s.refusedWith .circuit tag .starting) ∧
  (∀ (tag id : Byte) (s : State), s.Serving → 14 < id.toNat →
    exec (.circuitProbe tag id) s = s.refusedWith .circuit tag .badArgument) ∧
  (∀ (tag id : Byte) (c : CircuitId) (s : State), s.Serving → id.toNat = c.val → (s.circuit c).state = .absent →
    exec (.circuitProbe tag id) s = s.refusedWith .circuit tag .noSuchCircuit) ∧
  (∀ (tag id : Byte) (c : CircuitId) (s : State), s.Serving → id.toNat = c.val → (s.circuit c).state ≠ .absent →
    c.val ≤ 2 → exec (.circuitProbe tag id) s = s.refusedWith .circuit tag .badArgument) ∧
  (∀ (tag id : Byte) (t : TyreId) (s : State), s.Serving → id.toNat = t.val + 3 →
    let r := s.circuit (tyreCircuit t)
    let due := s.heard.setCircuit (tyreCircuit t) { r with probeDue := true }
    (r.state = .active → exec (.circuitProbe tag id) s = s.refusedWith .circuit tag .busy) ∧
    (r.state = .stalled → exec (.circuitProbe tag id) s = s.refusedWith .circuit tag .stalled) ∧
    (r.state = .isolated → exec (.circuitProbe tag id) s = s.refusedWith .circuit tag .interlocked) ∧
    ((r.state = .idle ∨ r.state = .waiting) →
      exec (.circuitProbe tag id) s = (due.evaluateTyre t).completed .circuit tag (.done [])) ∧
    (r.state = .holdoff →
      exec (.circuitProbe tag id) s = .next (due.replied .circuit tag (.done [])))) ∧
  (∀ (s : State) (t : TyreId),
    let c := tyreCircuit t
    let r := s.circuit c
    let cls := if (s.tyre t).leaking then DemandClass.level else .tyre
    ((r.state = .absent ∨ r.state = .stalled ∨ r.state = .isolated ∨ r.state = .active) → s.evaluateTyre t = s) ∧
    ((r.state = .idle ∨ r.state = .waiting ∨ r.state = .holdoff) →
      (s.isValid 4 = false → s.evaluateTyre t = s.withdraw c) ∧
      (s.isValid 4 = true →
        ((r.probeDue = true ∨ r.measured = none) → s.evaluateTyre t = s.join c .probe cls) ∧
        (r.probeDue = false → r.measured ≠ none → r.target = none → s.evaluateTyre t = s.withdraw c) ∧
        (∀ m g : Nat, r.probeDue = false → r.measured = some m → r.target = some g →
          let heldBack := s.params.p53 ≤ m ∧ (r.frozen = true ∨ ((s.tyre t).watch = true ∧ g ≤ m + s.params.p66))
          (m + s.params.p60 < g → heldBack → s.evaluateTyre t = s.withdraw c) ∧
          (m + s.params.p60 < g → ¬heldBack → s.evaluateTyre t = s.join c .fill cls) ∧
          (g ≤ m + s.params.p60 → g + s.params.p61 < m → r.frozen = false →
            s.evaluateTyre t = s.join c .deflate cls) ∧
          (g ≤ m + s.params.p60 → (m ≤ g + s.params.p61 ∨ r.frozen = true) → s.evaluateTyre t = s.withdraw c)))))

/-- CIRCUIT RESUME and SURVEY, and a probe interval that runs out. After STARTING, RESUME is refused above 14
(BAD_ARGUMENT), for an ABSENT (NO_SUCH_CIRCUIT) and an ACTIVE circuit (BUSY); DONE without effect for IDLE,
WAITING and HOLDOFF; DONE with the resume of R9 for STALLED, which leaves no strike, and of R136 for an ISOLATED
tyre. In the resume of R9 a tyre becomes probe due, LIFT has LIFT_UNAVAILABLE cleared without an event (R122),
and a side nothing more. SURVEY is DONE with the number of present tyres, neither STALLED nor ISOLATED, whose
probe due was no, writes probe due yes in their records, the rest of every record kept, and evaluates each.
PROBE_INTERVAL_EXPIRY makes a tyre probe due and evaluates it when its measured age exceeds its interval in
IDLE, WAITING, HOLDOFF or ACTIVE. That SURVEY sets every probe due first and then evaluates the tyres from T1 to
T12 is the model's choice (log entry 50). (R9, R122, R128, R136, R138.) -/
def Obligations.ResumeAndSurvey : Prop :=
  (∀ (tag id : Byte) (s : State), s.Serving → 14 < id.toNat →
    exec (.circuitResume tag id) s = s.refusedWith .circuit tag .badArgument) ∧
  (∀ (tag id : Byte) (c : CircuitId) (s : State), s.Serving → id.toNat = c.val →
    let state := (s.circuit c).state
    (state = .absent → exec (.circuitResume tag id) s = s.refusedWith .circuit tag .noSuchCircuit) ∧
    (state = .active → exec (.circuitResume tag id) s = s.refusedWith .circuit tag .busy) ∧
    ((state = .idle ∨ state = .waiting ∨ state = .holdoff) →
      exec (.circuitResume tag id) s = .next (s.heard.replied .circuit tag (.done []))) ∧
    (state = .stalled → exec (.circuitResume tag id) s =
      (((((((s.heard.setCircuit c { s.circuit c with state := .idle, strikes := 0 }).clearFaults (ownValves c)).clear
        (.circuitStalled c)).logEvent .circuitResumed .advisory (some c) none).tellResumed c).evaluateCircuit
          c).completed .circuit tag (.done []))) ∧
    (∀ t : TyreId, c = tyreCircuit t → state = .isolated → exec (.circuitResume tag id) s =
      ((((((s.heard.setCircuit c { s.circuit c with state := .idle, probeDue := true, previousProbe := none }).setTyre t
        { s.tyre t with cause := none, watch := false }).clear (.tyreIsolated t)).logEvent .circuitResumed .advisory
          (some c) none).evaluateTyre t).completed .circuit tag (.done [])))) ∧
  (∀ (tag : Byte) (s : State), s.Serving →
    let ts := allTyres.filter fun t =>
      let r := s.circuit (tyreCircuit t)
      decide (r.state ≠ .absent ∧ r.state ≠ .stalled ∧ r.state ≠ .isolated ∧ r.probeDue = false)
    exec (.survey tag) s = (ts.foldl State.evaluateTyre (ts.foldl State.setProbeDue s.heard)).completed .survey tag
      (.done [byteOf ts.length])) ∧
  (∀ (s : State) (t : TyreId) (m p : Nat),
    let r := s.circuit (tyreCircuit t)
    let limit := if (s.tyre t).leaking ∨ (s.tyre t).watch then s.params.p63 else s.params.p62
    (r.state = .idle ∨ r.state = .waiting ∨ r.state = .holdoff ∨ r.state = .active) → r.probeDue = false →
    r.measured = some p → r.readMark = some m → limit * 1000 < s.now - m →
    exec (.probeIntervalExpiry t) s =
      .next ((s.setCircuit (tyreCircuit t) { r with probeDue := true }).evaluateTyre t).settle) ∧
  (∀ (s : State) (t : TyreId),
    let due := s.setCircuit (tyreCircuit t) { s.circuit (tyreCircuit t) with probeDue := true }
    s.setProbeDue t = due ∧ s.tellResumed (tyreCircuit t) = due) ∧
  (∀ s : State, s.tellResumed liftCircuit = s.clear .liftUnavailable ∧
    (s.tellResumed liftCircuit).isActive .liftUnavailable = false ∧
    (s.tellResumed liftCircuit).events.queue = s.events.queue) ∧
  (∀ (s : State) (side : Side), s.tellResumed (sideCircuit side) = s) ∧
  (∀ (s : State) (ts : List TyreId) (c : CircuitId),
    let u := ts.foldl State.setProbeDue s
    ((∃ t ∈ ts, c = tyreCircuit t) → u.circuit c = { s.circuit c with probeDue := true }) ∧
    ((∀ t ∈ ts, c ≠ tyreCircuit t) → u.circuit c = s.circuit c))

/-- A leak rate is measured between two EFFECTIVE probes, and what a tyre is judged by at its hand-over. At the
hand-over of an EFFECTIVE PROBE with read value p: with no previous probe, p and the present mark are kept,
watch becomes yes, and there is no rate; within 10 s of the previous probe nothing changes and there is no rate;
at 10 s or more the rate (q - p) x 600 / e, rounded, held at 32767 and 0 for a rise, is written, p and the
present mark are kept and watch becomes no. TYRE_LEAK is judged at a computed rate: raised and logged at P64 or
more while leaking is no, cleared below half of it while leaking is yes. Then TYRE_LOW, the isolation tests with
the rate, the interval, and in IDLE the evaluation. Any other kind or outcome, and a transaction with no read
value, measures nothing and goes through the later steps alone. TYRE_LOW, judged at a target change too (before
the evaluation: the model's, log entry 29), is raised and logged with the measured value while that lies more
than P66 below the target, and cleared otherwise or when either is absent. The isolation tests take an IDLE,
WAITING or HOLDOFF tyre: cause LEAK for a rate of at least P65, else RESERVE for a measured value below P53
while the reserve is not NORMAL, else nothing. An INFLATE or DEFLATE that opened the wheel valve leaves no
previous probe. Probes of 600 and 588 kPa 240 s apart give 30. (R129, R130, R131, R132, R133.) -/
def Obligations.LeakMeasurement : Prop :=
  (∀ (s : State) (t : TyreId) (p : Nat),
    let c := tyreCircuit t
    let r := s.circuit c
    (r.previousProbe = none → s.computedRate t p = none ∧ s.measureLeak t p =
      (s.setCircuit c { r with previousProbe := some ⟨p, s.now⟩ }).setTyre t { s.tyre t with watch := true }) ∧
    (∀ q, r.previousProbe = some q → s.now - q.mark < 10000 →
      s.computedRate t p = none ∧ s.measureLeak t p = s) ∧
    (∀ q, r.previousProbe = some q → 10000 ≤ s.now - q.mark → ∃ rate, s.computedRate t p = some rate ∧
      rate ≤ 32767 ∧
      ((rate = 32767 ∧ 2 * (s.now - q.mark) * 32767 ≤ 2 * ((q.pressure - p) * 600000) + (s.now - q.mark)) ∨
        (2 * (s.now - q.mark) * rate ≤ 2 * ((q.pressure - p) * 600000) + (s.now - q.mark) ∧
          2 * ((q.pressure - p) * 600000) + (s.now - q.mark) < 2 * (s.now - q.mark) * (rate + 1))) ∧
      (q.pressure ≤ p → rate = 0) ∧
      s.measureLeak t p = (s.setCircuit c { r with previousProbe := some ⟨p, s.now⟩, leakRate := some rate }).setTyre t
        { s.tyre t with watch := false })) ∧
  (∀ (r : CircuitRecord) (t : Transaction) (o : TransactionOutcome) (e : Ending) (m : Nat),
    (t.kind = .inflate ∨ t.kind = .deflate) → t.wheelOpened = true →
    (recordAfter r t o e m).previousProbe = none) ∧
  State.leakRateOf 600 588 240000 = 30 ∧
  (∀ (s : State) (t : TyreId) (p : Nat),
    let measured := s.measureLeak t p
    let judged := match s.computedRate t p with
      | some rate => measured.judgeLeak t rate
      | none => measured
    let u := ((judged.judgeLow t).testIsolation t (s.computedRate t p)).judgeInterval t
    s.tyreReturned t .probe .effective (some p) =
      if (u.circuit (tyreCircuit t)).state = .idle then u.evaluateTyre t else u) ∧
  (∀ (s : State) (t : TyreId) (k : TransactionKind) (o : TransactionOutcome) (read : Option Nat),
    (k ≠ .probe ∨ o ≠ .effective ∨ read = none) →
    let u := ((if read = none then s else s.judgeLow t).testIsolation t none).judgeInterval t
    s.tyreReturned t k o read = if (u.circuit (tyreCircuit t)).state = .idle then u.evaluateTyre t else u) ∧
  (∀ (s : State) (t : TyreId) (rate : Nat),
    (s.params.p64 ≤ rate → (s.tyre t).leaking = false → s.judgeLeak t rate =
      (((s.setTyre t { s.tyre t with leaking := true }).raise (.tyreLeak t) .degraded).logEvent .tyreLeak .degraded
        (some (tyreCircuit t)) (some rate))) ∧
    (2 * rate < s.params.p64 → (s.tyre t).leaking = true →
      s.judgeLeak t rate = (s.setTyre t { s.tyre t with leaking := false }).clear (.tyreLeak t)) ∧
    (rate < s.params.p64 → (s.tyre t).leaking = false → s.judgeLeak t rate = s) ∧
    (s.params.p64 ≤ 2 * rate → (s.tyre t).leaking = true → s.judgeLeak t rate = s)) ∧
  (∀ (s : State) (t : TyreId),
    let c := tyreCircuit t
    let r := s.circuit c
    let high := (s.setTyre t { s.tyre t with low := false }).clear (.tyreLow t)
    ((r.measured = none ∨ r.target = none) → s.judgeLow t = high) ∧
    (∀ m, r.measured = some m → ∀ g, r.target = some g →
      (m + s.params.p66 < g → (s.tyre t).low = true → s.judgeLow t = s) ∧
      (m + s.params.p66 < g → (s.tyre t).low = false → s.judgeLow t =
        ((s.setTyre t { s.tyre t with low := true }).raise (.tyreLow t) .degraded).logEvent .tyreLow .degraded (some c)
          (some m)) ∧
      (g ≤ m + s.params.p66 → s.judgeLow t = high)) ∧
    s.tyreTargetChanged t = (s.judgeLow t).evaluateTyre t) ∧
  (∀ (s : State) (t : TyreId) (rate : Option Nat),
    let r := s.circuit (tyreCircuit t)
    let takes := r.state = .idle ∨ r.state = .waiting ∨ r.state = .holdoff
    let leaks := ∃ x ∈ rate, s.params.p65 ≤ x
    let gone := s.supervisor.reserve ≠ .normal ∧ ∃ m ∈ r.measured, m < s.params.p53
    (¬takes → s.testIsolation t rate = s) ∧
    (takes → leaks → s.testIsolation t rate = s.isolate t .leak (rate.getD 0)) ∧
    (takes → ¬leaks → gone → s.testIsolation t rate = s.isolate t .reserve (r.measured.getD 0)) ∧
    (takes → ¬leaks → ¬gone → s.testIsolation t rate = s))

/-- CONTROL RUN, HOLD and RESTART, and what entering and leaving RUNNING does. The table of R147. STARTING, and
STORE_BUSY for a RUN during a reload; a code above 2 BAD_ARGUMENT. RUN in RUNNING: DONE, reason CAB cleared. RUN
in SUSPENDED, and in UNCONFIGURED with a consistent configuration: DONE, reason CAB cleared, RUNNING unless
reason SUPPLY is set, then SUSPENDED; with an inconsistent one BAD_CONFIG. HOLD: DONE, reason CAB set; from
RUNNING the unit is SUSPENDED with its air at rest, from SUSPENDED and UNCONFIGURED the state stays. RESTART:
DONE, a restart is pending and its reply is told apart in the Transmit Queue, which is the model's (log entry
9). Every DONE carries the control state and both reasons as they stand after the request. An entry into RUNNING
runs a pass, tests the dwell and hands every present circuit, 0 to 14 in this order, to its evaluator. A
departure from RUNNING holds a lowering in VENTING, which stays there with no switch requested (how it is held
is the model's, log entry 65), ends each transaction in flight ABORTED, in the order of the grants (the model's
choice, log entry 48), then makes every WAITING and HOLDOFF circuit IDLE with no holdoff and empties the Demand
List, closes every valve but the isolation valve and ends the dwell (the order of the lists of R145 and R146 is
the model's reading, log entry 62); the other records, the isolation valve's switch, height control, tyre items
and lift state stay as the ends of the transactions, with the evaluations of the circuits handed back, left them
(the model's choice, log entry 72). (R77, R101, R145, R146, R147, R148, R154, R162.) -/
def Obligations.ControlRequests : Prop :=
  (∀ (tag : Byte) (s : State), s.Ready → s.supervisor.control = .starting →
    ∀ c ∈ [Instr.controlRun tag, .controlHold tag, .controlRestart tag],
      exec c s = s.refusedWith .control tag .starting) ∧
  (∀ (tag code : Byte) (s : State), s.Serving → 2 < code.toNat →
    exec (.telegramReceived (frame 0x33#8 tag [code])) s = s.refusedWith .control tag .badArgument) ∧
  (∀ (tag : Byte) (s : State) (run : LoaderRun), s.Serving → s.startUp.loader = some run → run.reload = true →
    exec (.controlRun tag) s = s.refusedWith .control tag .storeBusy) ∧
  (∀ (tag : Byte) (s : State), s.Serving → (∀ run, s.startUp.loader = some run → run.reload = false) →
    let cleared := s.heard.setSupervisor { s.supervisor with reasonCab := false }
    (s.supervisor.control = .running →
      exec (.controlRun tag) s = .next (cleared.replied .control tag (.done cleared.controlData))) ∧
    (s.supervisor.control = .suspended → s.supervisor.reasonSupply = true →
      exec (.controlRun tag) s = .next (cleared.replied .control tag (.done cleared.controlData))) ∧
    (s.supervisor.control = .unconfigured → consistent s.params = false →
      exec (.controlRun tag) s = s.refusedWith .control tag .badConfig) ∧
    (s.supervisor.control = .unconfigured → consistent s.params = true → s.supervisor.reasonSupply = true →
      let held := s.heard.setSupervisor { s.supervisor with control := .suspended, reasonCab := false }
      exec (.controlRun tag) s = .next (held.replied .control tag (.done held.controlData))) ∧
    (s.supervisor.reasonSupply = false → (s.supervisor.control = .suspended ∨
        (s.supervisor.control = .unconfigured ∧ consistent s.params = true)) →
      exec (.controlRun tag) s = cleared.enterRunning.completed .control tag (.done cleared.enterRunning.controlData) ∧
      ∃ t, exec (.controlRun tag) s = .next t ∧
        t.supervisor = { s.supervisor with control := .running, reasonCab := false })) ∧
  (∀ (tag : Byte) (s : State), s.Serving →
    (s.supervisor.control = .running →
      let left := (s.heard.setSupervisor { s.supervisor with reasonCab := true }).leaveRunning .suspended
      exec (.controlHold tag) s = left.completed .control tag (.done left.controlData) ∧
      left.controlData = [3#8, if s.supervisor.reasonSupply then 3#8 else 1#8] ∧
      ∃ t, exec (.controlHold tag) s = .next t ∧
        t.supervisor = { s.supervisor with control := .suspended, reasonCab := true } ∧ t.AirAtRest) ∧
    (s.supervisor.control ≠ .running →
      let held := s.heard.setSupervisor { s.supervisor with reasonCab := true }
      exec (.controlHold tag) s = .next (held.replied .control tag (.done held.controlData)))) ∧
  (∀ (tag : Byte) (s : State), s.Serving → exec (.controlRestart tag) s =
    .next (s.setLink { s.link with
      lastValid := some s.now, seen := true, restartPending := true, secured := false
      queue := s.link.queue ++ [⟨.restartReply, frame 0xB3#8 tag (0#8 :: 0#8 :: s.controlData)⟩] })) ∧
  (∀ s : State, s.controlData = [byteOf s.supervisor.control.code,
    byteOf ((if s.supervisor.reasonCab then 1 else 0) + (if s.supervisor.reasonSupply then 2 else 0))]) ∧
  (∀ s : State, s.enterRunning = [0, 1, 2, 3, 4, 5, 6, 7, 8, 9, 10, 11, 12, 13, 14].foldl
    (fun (u : State) (c : CircuitId) => if (u.circuit c).state = .absent then u else u.evaluateCircuit c)
    (((s.setSupervisor { s.supervisor with control := .running }).pass).testDwell)) ∧
  (∀ s : State, (∀ side : Side, s.evaluateCircuit (sideCircuit side) = s.evaluateSide side) ∧
    s.evaluateCircuit liftCircuit = s.evaluateLift ∧
    ∀ w : TyreId, s.evaluateCircuit (tyreCircuit w) = s.evaluateTyre w) ∧
  (∀ (s : State) (new : ControlState), new ≠ .running →
    let venting := s.lift.state = .lowering ∧ s.lift.step = .venting
    let held := if venting then s.setLift { s.lift with ventHeld := true } else s
    let aborted := s.engine.foldl (fun (u : State) (t : Transaction) => u.endTransaction t .aborted false)
      (held.setSupervisor { s.supervisor with control := new })
    let left := s.leaveRunning new
    (venting → left.lift.state = .lowering ∧ left.lift.step = .venting ∧ left.lift.ventHeld = true ∧
      left.driver.isolation = s.driver.isolation) ∧
    left.AirAtRest ∧ left.supervisor = { s.supervisor with control := new } ∧
    (∀ t ∈ s.engine, (left.circuit t.circuit).lastOutcome = .aborted) ∧
    (∀ c : CircuitId, ((aborted.circuit c).state = .waiting ∨ (aborted.circuit c).state = .holdoff) →
      left.circuit c = { aborted.circuit c with state := .idle, holdoffEnd := none }) ∧
    (∀ c : CircuitId, (aborted.circuit c).state ≠ .waiting → (aborted.circuit c).state ≠ .holdoff →
      left.circuit c = aborted.circuit c) ∧
    left.driver.isolation = aborted.driver.isolation ∧ left.height = aborted.height ∧ left.tyres = aborted.tyres ∧
    left.lift = { aborted.lift with dwellSince := none } ∧ left.events = aborted.events)

/-- The reserve state and what its changes do; the valve supply state and its return. The reserve state moves by the
table of R140, its first judgement without hysteresis; it is judged at each new filtered value of channel 0,
after which a pass runs while a fill waits, and becomes LOW from NORMAL or unjudged when the channel fails. A
change logs its event with the value of channel 0 or -1, raises and clears its conditions (R141), and for NORMAL
runs a pass; an entry into LOW or CRITICAL closes the supply valve, ends RESERVE_CUT the SUPPLY holder in a fill
pulse and tests every tyre for isolation. The valve supply is judged from channel 7: first at its first value,
NORMAL from 180 on; NORMAL becomes LOW_SUPPLY below 180 or when the channel fails; in LOW_SUPPLY a value of 190
or more starts restore since, one below it or a failure ends it. Each judged entry into LOW_SUPPLY sets reason
SUPPLY, raises SUPPLY_LOW (CRITICAL) and logs it with the value or -1, makes a pulse in progress PENDING, and
takes a RUNNING unit to SUSPENDED with its air at rest. SUPPLY_RESTORED, 1 s after restore since, makes the
supply NORMAL with reason SUPPLY clear, clears SUPPLY_LOW, logs SUPPLY_RESTORED (ADVISORY) with the value of
channel 7 or -1, and starts the pulse of a PENDING switch; a unit SUSPENDED without reason CAB and with no
reload running is then RUNNING. The first NORMAL too starts the pulse of a PENDING switch. The model's: the
Supervisor before the scheduler (29), the cut and its pass before the isolation tests by position (49 and 58),
the order of R143's list (62). That a value in LOW which meets both tests, where P32 is above P30 + P31, makes
it CRITICAL is the model's too (68). That a SUPPLY_RESTORED before its time changes nothing is the model's (log
entry 3). (R18, R75, R98, R133, R140, R141, R142, R143, R144, R145.) -/
def Obligations.SupplyAndReserve : Prop :=
  (∀ (p : Params) (r : Nat),
    (r < p.p32 → nextReserve p .normal r = .critical ∧ nextReserve p .low r = .critical) ∧
    (p.p32 ≤ r → r < p.p30 → nextReserve p .normal r = .low) ∧
    (p.p32 ≤ r → p.p30 ≤ r → nextReserve p .normal r = .normal) ∧
    (p.p32 ≤ r → p.p30 + p.p31 ≤ r → nextReserve p .low r = .normal) ∧
    (p.p32 ≤ r → r < p.p30 + p.p31 → nextReserve p .low r = .low) ∧
    (p.p30 + p.p31 ≤ r → nextReserve p .critical r = .normal) ∧
    (p.p32 + p.p31 ≤ r → r < p.p30 + p.p31 → nextReserve p .critical r = .low) ∧
    (r < p.p32 + p.p31 → r < p.p30 + p.p31 → nextReserve p .critical r = .critical) ∧
    firstReserve p r = if r < p.p32 then .critical else if r < p.p30 then .low else .normal) ∧
  (∀ (s : State) (m : Nat), s.supervisor.lowSupply = true → s.supervisor.restoreSince = some m →
    m + 1000 ≤ s.now → ∃ t, exec .supplyRestored s = .next t ∧
      t.supervisor = { s.supervisor with
        lowSupply := false, restoreSince := none, reasonSupply := false
        control := if s.supervisor.control = .suspended ∧ s.supervisor.reasonCab = false ∧ s.reloadRunning = false
          then .running else s.supervisor.control }) ∧
  (∀ (s : State) (m : Nat), s.supervisor.restoreSince = some m → s.now < m + 1000 → s.deferred = [] →
    exec .supplyRestored s = .next s) ∧
  (∀ (s : State) (v : Nat),
    (s.supervisor.supplyJudged = false → 180 ≤ v → s.judgeSupply v =
      (s.setSupervisor { s.supervisor with lowSupply := false, supplyJudged := true }).resumePulse) ∧
    (s.supervisor.supplyJudged = false → v < 180 → s.judgeSupply v = s.enterLowSupply) ∧
    (s.supervisor.supplyJudged = true → s.supervisor.lowSupply = false →
      (v < 180 → s.judgeSupply v = s.enterLowSupply) ∧ (180 ≤ v → s.judgeSupply v = s)) ∧
    (s.supervisor.supplyJudged = true → s.supervisor.lowSupply = true →
      (v < 190 → s.judgeSupply v = s.setSupervisor { s.supervisor with restoreSince := none }) ∧
      (190 ≤ v → s.judgeSupply v = s.setSupervisor { s.supervisor with
        restoreSince := some (s.supervisor.restoreSince.getD s.now) }))) ∧
  (∀ s : State,
    ((s.supervisor.supplyJudged = false ∨ s.supervisor.lowSupply = false) →
      s.supplyChannelFailed = s.enterLowSupply) ∧
    (s.supervisor.supplyJudged = true → s.supervisor.lowSupply = true →
      s.supplyChannelFailed = s.setSupervisor { s.supervisor with restoreSince := none })) ∧
  (∀ s : State,
    let low := (((s.setSupervisor { s.supervisor with
      lowSupply := true, supplyJudged := true, reasonSupply := true, restoreSince := none }).raise .supplyLow
        .critical).logEvent .supplyLow .critical none (some (((s.validValue 7).map Int.ofNat).getD (-1)))).holdPulse
    s.enterLowSupply = (if s.supervisor.control = .running then low.leaveRunning .suspended else low) ∧
    s.enterLowSupply.supervisor = { s.supervisor with
      lowSupply := true, supplyJudged := true, reasonSupply := true, restoreSince := none
      control := if s.supervisor.control = .running then .suspended else s.supervisor.control } ∧
    (s.supervisor.control = .running → s.enterLowSupply.AirAtRest)) ∧
  (∀ s : State, (s.driver.isolation.switch = .pulsing → s.holdPulse = ((s.setIsolation
      { s.driver.isolation with switch := .pending, pulseStart := none }).setValve isolationValve
        { s.valve isolationValve with check := none })) ∧
    (s.driver.isolation.switch ≠ .pulsing → s.holdPulse = s)) ∧
  (∀ s : State,
    (∀ p, s.driver.isolation.switch = .pending → s.driver.isolation.commanded = some p →
      s.resumePulse = s.startPulse p) ∧
    (s.driver.isolation.switch ≠ .pending → s.resumePulse = s)) ∧
  (∀ (s : State) (r : Nat),
    (s.supervisor.reserveJudged = false → s.judgeReserve r = s.changeReserve (firstReserve s.params r) true) ∧
    (s.supervisor.reserveJudged = true →
      let new := nextReserve s.params s.supervisor.reserve r
      (new = s.supervisor.reserve → s.judgeReserve r = s) ∧
      (new ≠ s.supervisor.reserve → s.judgeReserve r = s.changeReserve new false)) ∧
    s.handValue 0 r = if (s.judgeReserve r).fillWaits then (s.judgeReserve r).pass else s.judgeReserve r) ∧
  (∀ (s : State) (raw : RawReading), (s.channel 0).status = .valid → 123 ≤ raw.toNat → raw.toNat ≤ 3972 →
    let read := s.setChannel 0 { s.channel 0 with lastRaw := some raw }
    let taken := read.setChannel 0 (read.channelAfterGood 0 raw)
    taken.validValue 0 ≠ none ∧ ∀ r, taken.validValue 0 = some r →
      exec (.analogReading 0 raw) s = .next (taken.handValue 0 r).settle) ∧
  (∀ s : State,
    (s.supervisor.reserveJudged = false → s.reserveChannelFailed = s.changeReserve .low true) ∧
    (s.supervisor.reserveJudged = true → s.supervisor.reserve = .normal →
      s.reserveChannelFailed = s.changeReserve .low false) ∧
    (s.supervisor.reserveJudged = true → s.supervisor.reserve ≠ .normal → s.reserveChannelFailed = s)) ∧
  (∀ (s : State) (first : Bool),
    let value : Int := ((s.validValue 0).map Int.ofNat).getD (-1)
    let judged (new : ReserveState) := s.setSupervisor { s.supervisor with reserve := new, reserveJudged := true }
    let entered (t : State) := ((t.closeValve supplyValve).reserveCut).testIsolations
    ((first = true ∨ s.supervisor.reserve ≠ .critical) → s.changeReserve .low first =
      entered (((judged .low).logEvent .reserveLow .degraded none (some value)).raise .reserveLow .degraded)) ∧
    (first = false → s.supervisor.reserve = .critical → s.changeReserve .low first =
      entered (((judged .low).clear .reserveCritical).raise .reserveLow .degraded)) ∧
    s.changeReserve .critical first = entered ((((judged .critical).logEvent .reserveCritical .critical none
      (some value)).raise .reserveCritical .critical).clear .reserveLow) ∧
    (first = true → s.changeReserve .normal first = (judged .normal).pass) ∧
    (first = false → s.changeReserve .normal first = ((((judged .normal).logEvent .reserveRestored .advisory none
      (some value)).clear .reserveLow).clear .reserveCritical).pass)) ∧
  (∀ s : State, s.testIsolations = allTyres.foldl (fun u w => u.testIsolation w none) s) ∧
  (∀ s : State, (s.scheduler.supply = none → s.reserveCut = s) ∧
    (∀ c, s.scheduler.supply = some c → s.transactionOn c = none → s.reserveCut = s) ∧
    (∀ c, s.scheduler.supply = some c → ∀ t, s.transactionOn c = some t →
      let filling := t.phase = .charge ∨ t.phase = .inflate ∨
        (t.phase = .pulse ∧ (t.kind = .sideFill ∨ t.kind = .liftFill))
      (filling → s.reserveCut = s.endTransaction t .reserveCut false) ∧ (¬filling → s.reserveCut = s))) ∧
  (∀ (s : State) (m : Nat), s.supervisor.lowSupply = true → s.supervisor.restoreSince = some m →
    m + 1000 ≤ s.now →
    let up := ((((s.setSupervisor { s.supervisor with
      lowSupply := false, restoreSince := none, reasonSupply := false }).clear .supplyLow).logEvent .supplyRestored
        .advisory none (some (((s.validValue 7).map Int.ofNat).getD (-1))))).resumePulse
    exec .supplyRestored s = .next (if s.supervisor.control = .suspended ∧ s.supervisor.reasonCab = false ∧
      s.reloadRunning = false then up.enterRunning else up).settle)

/-- GET_PARAM and SET_PARAM, the steps of a SET_PARAM, and what a changed value does at each block. After STARTING:
GET_PARAM is DONE with the number and value held; a number that is no parameter, and a channel of P96 above 7,
is BAD_ARGUMENT, the channel in a SET_PARAM too. A SET_PARAM of the allowed length goes through the steps of
R170: on success the running configuration is replaced and the reply carries the value now held, CLAMPED when a
step moved it; else the reason is refused. A guarded parameter while RUNNING: NOT_SUSPENDED. A numeric value is
clamped into its range, P90 and P95 raised to the next allowed value or held at the largest, P93 and P94 above
15 and codes above 1 BAD_ARGUMENT, the values of P96 clamped each, every other parameter kept; points of P51 and
P52 are clamped, and BAD_ARGUMENT where the table is not sound; while RUNNING P10, P11 and P14 are clamped into
[P12, P13]; ending the consistency of R171 is BAD_CONFIG. A word not moved is read back as written. The change
is then told to the blocks (their order is the model's, log entries 23, 53, 54, 59 to 61). P03: channel 3 at its
reset values, its last raw value kept. The stages of R58, also for an equal value of the parameter written; P01
to P03 apply the configuration after STARTING, with a reconciliation where P03 becomes FITTED; P56 judges
allowance in force. P96 of a channel, and the window, compute its filtered value again and hand it on while
VALID. P12, P13 clamp the custom height; P10 to P13 form the target; P13 to P18 evaluate the sides; P21 checks
the return to ride, P91 the speed's age. P53 tests isolations; P53, P60, P61 evaluate tyres; P62, P63 judge
intervals, P66 TYRE_LOW. P30 to P32 judge the reserve, P75 promotes (log entry 45), P84 MANUAL ends the dwell,
P90 judges the link, P92 sets summary due. (R25, R28, R35, R58, R66, R105, R159, R160, R161, R169, R170, R171.) -/
def Obligations.ParamRequests : Prop :=
  (∀ (tag n : Byte) (s : State), s.Serving → isParam n.toNat = true → n.toNat ≠ 96 →
    exec (.getParam tag n none) s = .next (s.heard.replied .getParam tag (.done (paramBytes s.params n.toNat 0)))) ∧
  (∀ (tag b : Byte) (ch : Channel) (s : State), s.Serving → b.toNat = ch.val →
    exec (.getParam tag 96#8 (some b)) s = .next (s.heard.replied .getParam tag (.done (paramBytes s.params 96 ch)))) ∧
  (∀ (tag n : Byte) (ch : Option Byte) (s : State), s.Serving → isParam n.toNat = false →
    exec (.getParam tag n ch) s = s.refusedWith .getParam tag .badArgument) ∧
  (∀ (tag n : Byte) (value : List Byte) (s : State), s.Serving → isParam n.toNat = true →
    valueLengthFits n.toNat value.length = true →
    match (propose s.params s.isRunning n.toNat value).bind (acceptProposal s.params s.isRunning n.toNat) with
    | .ok (p, ch, moved) => exec (.setParam tag n value) s =
        (s.heard.replaceConfig (some n.toNat) p).completed .setParam tag
          (if moved then .clamped (paramBytes p n.toNat ch) else .done (paramBytes p n.toNat ch))
    | .error reason => exec (.setParam tag n value) s = s.refusedWith .setParam tag reason) ∧
  (∀ (p : Params) (n : Nat) (hi lo : Byte), isGuarded n = true → n ≠ 51 → n ≠ 52 →
    writeWord n (word2 hi lo) p ≠ none → propose p true n [hi, lo] = .error .notSuspended) ∧
  (∀ (p q : Params) (n : Nat) (w : Word), isWordParam n = true → writeWord n w p = some (q, false) →
    signed2 (readWord n q) = bytes2 w.toNat) ∧
  (∀ (s : State) (old : Params) (n : Nat) (moved : Bool) (side : Side), s.params = old →
    s.changedStages old (some n) moved side =
      { c := decide (n = 51) || (decide (n = 10) && decide ((s.sideRecord side).heightSource = .ride) &&
          decide ((s.sideRecord side).source = .live))
        e := decide (n = 50), f := decide (n = 52)
        g := decide (n = 53) || decide (n = 54) || decide (n = 55) || moved }) ∧
  (∀ (s : State) (old : Params) (moved : Bool) (side : Side), s.params = old →
    s.changedStages old none moved side = ⟨false, false, false, moved⟩) ∧
  (∀ (p : Params) (running : Bool) (hi lo : Byte),
    let v := hi.toNat * 256 + lo.toNat
    let ranges : List (Nat × Nat × Nat) := [
      (1, 2, 3), (10, 150, 450), (11, 150, 450), (12, 100, 300), (13, 300, 480), (14, 80, 250), (15, 4, 40),
      (16, 2, 20), (17, 0, 10000), (18, 0, 2000), (19, 4, 128), (20, 4, 128), (21, 5, 40), (30, 450, 750),
      (31, 20, 150), (32, 300, 700), (33, 20, 200), (34, 400, 1000), (35, 500, 1100), (36, 10, 250), (37,
      10, 250), (38, 40, 500), (39, 200, 3000), (40, 200, 5000), (41, 200, 3000), (42, 1, 10), (43, 2, 30),
      (44, 5, 60), (45, 1000, 30000), (50, 0, 1000), (53, 100, 500), (54, 400, 1000), (55, 0, 20), (56, 40,
      120), (60, 5, 80), (61, 10, 150), (62, 30, 3600), (63, 10, 300), (64, 1, 500), (65, 10, 2000), (66,
      20, 300), (67, 5, 100), (68, 50, 1000), (69, 500, 5000), (70, 100, 2000), (71, 100, 2000), (72, 200,
      5000), (73, 1, 20), (74, 10, 100), (75, 5, 600), (80, 500, 5000), (81, 500, 5000), (82, 100, 600),
      (83, 5, 60), (85, 200, 3000), (91, 500, 10000), (92, 0, 60)]
    let kept (n : Nat) (q : Params) : Prop := (∀ k : Nat, k ≠ n → readWord k q = readWord k p) ∧
      q.p51 = p.p51 ∧ q.p52 = p.p52 ∧ q.p96 = p.p96
    (∀ r ∈ ranges, (isGuarded r.1 = true → running = false) →
      let held := max r.2.1 (min r.2.2 v)
      ∃ q, propose p running r.1 [hi, lo] = .ok (q, 0, decide (held ≠ v)) ∧ readWord r.1 q = held ∧
        kept r.1 q) ∧
    (let signed : Int := if v < 32768 then v else (v : Int) - 65536
     let held := max (-20) (min 20 signed)
     ∃ q, propose p running 76 [hi, lo] = .ok (q, 0, decide (held ≠ signed)) ∧ q.p76 = held ∧ kept 76 q) ∧
    (let held := if v ≤ 500 then 500 else if v ≤ 1000 then 1000 else if v ≤ 2000 then 2000 else 5000
     ∃ q, propose p running 90 [hi, lo] = .ok (q, 0, decide (held ≠ v)) ∧ q.p90 = held ∧ kept 90 q) ∧
    (let held := if v ≤ 10 then 10 else 100
     ∃ q, propose p running 95 [hi, lo] = .ok (q, 0, decide (held ≠ v)) ∧ q.p95 = held ∧ kept 95 q) ∧
    (15 < v → propose p running 93 [hi, lo] = .error .badArgument ∧
      propose p running 94 [hi, lo] = .error .badArgument) ∧
    (v ≤ 15 →
      propose p running 93 [hi, lo] = .ok ({ p with p93 := BitVec.ofNat 4 v }, 0, false) ∧
      propose p running 94 [hi, lo] = .ok ({ p with p94 := BitVec.ofNat 4 v }, 0, false)) ∧
    (v ≤ 1 → ∀ n ∈ [2, 3, 84], (isGuarded n = true → running = false) →
      ∃ q, propose p running n [hi, lo] = .ok (q, 0, false) ∧ readWord n q = v ∧ kept n q) ∧
    (1 < v → propose p running 2 [hi, lo] = .error .badArgument ∧ propose p running 3 [hi, lo] = .error .badArgument ∧
      propose p running 84 [hi, lo] = .error .badArgument) ∧
    (∀ n ∈ [1, 12, 13, 30, 32, 53, 54, 80, 81], propose p true n [hi, lo] = .error .notSuspended)) ∧
  (∀ (p : Params) (running : Bool) (ch : Channel) (a b c d e f : Byte),
    propose p running 96 [byteOf ch.val, a, b, c, d, e, f] =
      let z := a.toNat * 256 + b.toNat
      let u := c.toNat * 256 + d.toNat
      let w := e.toNat * 256 + f.toNat
      let held : Calibration := ⟨min 4095 z, min 4095 u, max 1 (min (if ch.val ≤ 4 then 1200 else 2000) w)⟩
      .ok ({ p with p96 := p.p96.set ch.val held }, ch, decide (held ≠ ⟨z, u, w⟩))) ∧
  (∀ (p : Params) (value : List Byte),
    let areas := (readPoints value).map fun x => (max 50 (min 500 x.1), max 200 (min 1500 x.2))
    let loads := (readPoints value).map fun x => (max 100 (min 5000 x.1), max 100 (min 1000 x.2))
    propose p true 51 value = .error .notSuspended ∧ propose p true 52 value = .error .notSuspended ∧
    propose p false 51 value =
      (if 2 ≤ areas.length ∧ areas.length ≤ 8 ∧ areas.Pairwise (fun x y => x.1 < y.1) then
        .ok ({ p with p51 := areas }, 0, decide (areas ≠ readPoints value))
      else .error .badArgument) ∧
    propose p false 52 value =
      (if 2 ≤ loads.length ∧ loads.length ≤ 12 ∧ loads.Pairwise (fun x y => x.1 < y.1 ∧ x.2 ≤ y.2) then
        .ok ({ p with p52 := loads }, 0, decide (loads ≠ readPoints value))
      else .error .badArgument)) ∧
  (∀ (p q : Params) (n : Nat) (ch : Channel) (moved running : Bool),
    let held : Params :=
      if running = false then q
      else if n = 10 then { q with p10 := max q.p12 (min q.p13 q.p10) }
      else if n = 11 then { q with p11 := max q.p12 (min q.p13 q.p11) }
      else if n = 14 then { q with p14 := max q.p12 (min q.p13 q.p14) }
      else q
    (consistent p = true → consistent held = false → acceptProposal p running n (q, ch, moved) = .error .badConfig) ∧
    ((consistent p = false ∨ consistent held = true) →
      acceptProposal p running n (q, ch, moved) = .ok (held, ch, moved || decide (held ≠ q)))) ∧
  (∀ p : Params, consistent p = true ↔ p.p32 < p.p30 ∧ p.p12 ≤ p.p14 ∧ p.p14 ≤ p.p11 ∧ p.p10 ≤ p.p13 ∧ p.p53 < p.p54 ∧
    p.p81 < p.p80 ∧ (2 ≤ p.p51.length ∧ p.p51.length ≤ 8 ∧ p.p51.Pairwise (fun x y => x.1 < y.1)) ∧
    (2 ≤ p.p52.length ∧ p.p52.length ≤ 12 ∧ p.p52.Pairwise (fun x y => x.1 < y.1 ∧ x.2 ≤ y.2))) ∧
  (∀ (tag b : Byte) (s : State), s.Serving → 8 ≤ b.toNat →
    exec (.getParam tag 96#8 (some b)) s = s.refusedWith .getParam tag .badArgument) ∧
  (∀ (p : Params) (running : Bool) (g a b c d e f : Byte), 8 ≤ g.toNat →
    propose p running 96 [g, a, b, c, d, e, f] = .error .badArgument) ∧
  (∀ (s : State) (written : Option Nat) (q : Params),
    let old := s.params
    let base := s.setParams q
    let lift := if q.p03 = old.p03 then base
      else
        let fresh := (base.setChannel 3 ⟨(s.channel 3).lastRaw, [], none, .unknown, 0, 0⟩).setComparator .lift ⟨false, 0⟩
        let clear := fresh.clear (.sensorFailed 3)
        if (s.circuit liftCircuit).state = .absent then clear
        else clear.setCircuit liftCircuit { s.circuit liftCircuit with measured := none }
    s.replaceConfig written q =
      (((((lift.changeCircuits old written).changeSensing old (s.window 5)).changeHeight old).changeUpkeep
        old).changeOthers old)) ∧
  (∀ (s : State) (old : Params) (written : Option Nat),
    let p := s.params
    let differs := p.p01 ≠ old.p01 ∨ p.p02 ≠ old.p02 ∨ p.p03 ≠ old.p03
    let applies := differs ∧ s.supervisor.control ≠ .starting
    let found := if applies ∧ p.p03 = .fitted ∧ old.p03 = .notFitted then s.reconcileLift else s
    let due := match s.height.speed with
      | some v => decide (p.p56 ≤ v)
      | none => true
    let moved := decide ((p.p56 ≠ old.p56 ∨ written = some 56) ∧ due ≠ s.estimator.allowance)
    let judged := if moved then found.setEstimator { found.estimator with allowance := due } else found
    s.changeCircuits old written = judged.applyChange
      { left := s.changedStages old written moved .left, right := s.changedStages old written moved .right
        presence := decide applies, renumber := decide (p.p01 ≠ old.p01 ∨ p.p02 ≠ old.p02)
        reclamp := decide (p.p53 ≠ old.p53 ∨ p.p54 ≠ old.p54) }) ∧
  (∀ (s : State) (old : Params) (written : Option Nat) (moved : Bool) (side : Side),
    let p := s.params
    let r := s.sideRecord side
    s.changedStages old written moved side =
      { c := decide ((p.p51 ≠ old.p51 ∨ written = some 51) ∨
          ((p.p10 ≠ old.p10 ∨ written = some 10) ∧ r.heightSource = .ride ∧ r.source = .live))
        e := decide ((p.p50 ≠ old.p50 ∨ written = some 50) ∨ p.p01 ≠ old.p01 ∨ p.p02 ≠ old.p02 ∨ p.p03 ≠ old.p03)
        f := decide (p.p52 ≠ old.p52 ∨ written = some 52)
        g := decide ((p.p53 ≠ old.p53 ∨ written = some 53) ∨ (p.p54 ≠ old.p54 ∨ written = some 54) ∨
          (p.p55 ≠ old.p55 ∨ written = some 55) ∨ moved = true) }) ∧
  (∀ (s : State) (old : Params) (windowWas : Nat), s.changeSensing old windowWas =
    ([0, 1, 2, 3, 4, 5, 6, 7] : List Channel).foldl (fun (u : State) (ch : Channel) =>
      if u.params.p96[ch.val] ≠ old.p96[ch.val] ∨ (s.window 5 ≠ windowWas ∧ (ch.val = 5 ∨ ch.val = 6)) then
        u.recomputeChannel ch
      else u) s) ∧
  (∀ (s : State) (ch : Channel),
    let x := s.channel ch
    let again := s.setChannel ch { x with filtered := s.filter ch x.history }
    (x.status = .failed → s.recomputeChannel ch = s) ∧ (x.status = .unknown → s.recomputeChannel ch = again) ∧
    (x.status = .valid → s.recomputeChannel ch = match s.filter ch x.history with
      | some v => again.handValue ch v
      | none => again)) ∧
  (∀ (s : State) (old : Params),
    let p := s.params
    let clamped := if p.p12 ≠ old.p12 ∨ p.p13 ≠ old.p13 then s.setHeight { s.height with
      customHeight := max p.p12 (min p.p13 s.height.customHeight) } else s
    let formed := if p.p10 ≠ old.p10 ∨ p.p11 ≠ old.p11 ∨ p.p12 ≠ old.p12 ∨ p.p13 ≠ old.p13 then clamped.formTarget
      else clamped
    let judged := if p.p13 ≠ old.p13 ∨ p.p14 ≠ old.p14 ∨ p.p15 ≠ old.p15 ∨ p.p16 ≠ old.p16 ∨ p.p17 ≠ old.p17 ∨
      p.p18 ≠ old.p18 then (formed.evaluateSide .left).evaluateSide .right else formed
    let ridden := if p.p21 ≠ old.p21 then judged.returnToRide else judged
    let aged := ridden.height.speed ≠ none ∧ ∃ m, ridden.height.speedMark = some m ∧ m + p.p91 ≤ ridden.now
    s.changeHeight old = if p.p91 ≠ old.p91 ∧ aged then ridden.takeSpeed none none else ridden) ∧
  (∀ (s : State) (old : Params),
    let p := s.params
    let tested := if p.p53 ≠ old.p53 then s.testIsolations else s
    let judged := if p.p53 ≠ old.p53 ∨ p.p60 ≠ old.p60 ∨ p.p61 ≠ old.p61 then
      allTyres.foldl State.evaluateTyre tested else tested
    let timed := if p.p62 ≠ old.p62 ∨ p.p63 ≠ old.p63 then allTyres.foldl State.judgeInterval judged else judged
    s.changeUpkeep old = if p.p66 ≠ old.p66 then allTyres.foldl State.judgeLow timed else timed) ∧
  (∀ (s : State) (t : TyreId),
    let r := s.circuit (tyreCircuit t)
    let limit := if (s.tyre t).leaking ∨ (s.tyre t).watch then s.params.p63 else s.params.p62
    let late := (r.state = .idle ∨ r.state = .waiting ∨ r.state = .holdoff ∨ r.state = .active) ∧
      r.probeDue = false ∧ r.measured ≠ none ∧ ∃ m, r.readMark = some m ∧ limit * 1000 < s.now - m
    (late → s.judgeInterval t =
      (s.setCircuit (tyreCircuit t) { r with probeDue := true }).evaluateTyre t) ∧
    (¬late → s.judgeInterval t = s)) ∧
  (∀ (s : State) (old : Params),
    let p := s.params
    let reserve := if p.p30 ≠ old.p30 ∨ p.p31 ≠ old.p31 ∨ p.p32 ≠ old.p32 then s.rejudgeReserve else s
    let promoted := if p.p75 ≠ old.p75 then
      ([0, 1, 2, 3, 4, 5, 6, 7, 8, 9, 10, 11, 12, 13, 14] : List CircuitId).foldl State.promote reserve else reserve
    let dwelt := if p.p84 ≠ old.p84 ∧ p.p84 = .manual then
      promoted.setLift { promoted.lift with dwellSince := none } else promoted
    let linked := if p.p90 ≠ old.p90 then dwelt.judgeLink else dwelt
    s.changeOthers old = if p.p92 ≠ old.p92 then linked.setLink { linked.link with
      summaryDue := if p.p92 = 0 then none else some (linked.now + p.p92 * 1000) } else linked) ∧
  (∀ s : State,
    (∀ r, s.supervisor.reserveJudged = true → s.validValue 0 = some r → s.rejudgeReserve = s.judgeReserve r) ∧
    ((s.supervisor.reserveJudged = false ∨ s.validValue 0 = none) → s.rejudgeReserve = s)) ∧
  (∀ (s : State) (c : CircuitId),
    (s.demandOf c = none → s.promote c = s) ∧
    (∀ d, s.demandOf c = some d → s.promote c = if d.cls = .tyre ∧ s.params.p75 * 1000 < s.now - d.mark then
      s.setScheduler { s.scheduler with
        demands := placeDemand { d with cls := .level } (s.scheduler.demands.filter fun e => e.circuit ≠ c) } else s)) ∧
  (∀ s : State,
    let late := s.link.up = true ∧ ∃ m, s.link.lastValid = some m ∧ m + s.params.p90 ≤ s.now
    let lost := ((s.setLink { s.link with up := false, summaryDue := none }).raise .linkLost .degraded).logEvent
      .linkLost .degraded none (some s.params.p90)
    (late → s.judgeLink = lost.setLink { s.link with
      up := false, summaryDue := none
      queue := s.link.queue.take 1 ++ (s.link.queue.drop 1).filter fun x => x.cls ≠ .notice }) ∧
    (¬late → s.judgeLink = s))

/-- The requests of the Profile Store. After STARTING: every PROFILE_* request is refused with STORE_BUSY while the
store is busy. While it is free: BEGIN erases the image but for words 0 and 1, opens the session at word 2 and
is busy for 120 ms; PUT is refused with NO_PROFILE without a session, BAD_ARGUMENT for a bad head and STORE_FULL
beyond word 510, or writes its words from the write index, which passes them, at 4 ms a word; END is refused
with NO_PROFILE without a session, or writes the end marker and the check word in 8 ms; READ gives eight words,
FFFFh beyond word 511, or BAD_ARGUMENT above 511; RELOAD is refused while RUNNING (NOT_SUSPENDED) and in a
session (STORE_BUSY), or starts the loader for 50 ms. What is kept of a write in progress, and that the store is
busy until the end of its busy time has been taken, is the model's (log entries 12 and 32). (R172, R162.) -/
def Obligations.StoreRequests : Prop :=
  (∀ (tag : Byte) (s : State), s.Serving → s.store.busyUntil ≠ none →
    exec (.profileBegin tag) s = s.refusedWith .profileBegin tag .storeBusy ∧
    exec (.profileEnd tag) s = s.refusedWith .profileEnd tag .storeBusy ∧
    exec (.profileReload tag) s = s.refusedWith .profileReload tag .storeBusy ∧
    (∀ i, exec (.profileRead tag i) s = s.refusedWith .profileRead tag .storeBusy) ∧
    (∀ head first values, values.length = headCount head →
      exec (.profilePut tag head first values) s = s.refusedWith .profilePut tag .storeBusy)) ∧
  (∀ (tag : Byte) (s : State), s.Serving → s.store.busyUntil = none →
    exec (.profileBegin tag) s = .next ((s.heard.setStore ⟨beginImage, some 2, some (s.now + 120),
      some ⟨.begin, s.now, [⟨0, 0xFFFF#16⟩, ⟨1, 0xFFFF#16⟩]⟩⟩).replied .profileBegin tag .accepted) ∧
    (s.store.writeIndex = none → exec (.profileEnd tag) s = s.refusedWith .profileEnd tag .noProfile) ∧
    (∀ i, s.store.writeIndex = some i →
      let ws := [0xE0E0#16, imageSum (setWordAt s.store.image i 0xE0E0#16) i]
      exec (.profileEnd tag) s = .next ((s.heard.setStore ⟨writeWords s.store.image i ws, some i, some (s.now + 8),
        some ⟨.finish, s.now, wordsWritten s.store.image i ws⟩⟩).replied .profileEnd tag .accepted)) ∧
    (∀ i : Word, i.toNat ≤ 511 → exec (.profileRead tag i) s = .next (s.heard.replied .profileRead tag
      (.done (bytesOf ([0, 1, 2, 3, 4, 5, 6, 7].map fun k => wordAt s.store.image (i.toNat + k)))))) ∧
    (∀ i : Word, 511 < i.toNat → exec (.profileRead tag i) s = s.refusedWith .profileRead tag .badArgument) ∧
    (s.supervisor.control = .running →
      exec (.profileReload tag) s = s.refusedWith .profileReload tag .notSuspended) ∧
    (s.supervisor.control ≠ .running → s.store.writeIndex ≠ none →
      exec (.profileReload tag) s = s.refusedWith .profileReload tag .storeBusy) ∧
    (s.supervisor.control ≠ .running → s.store.writeIndex = none → exec (.profileReload tag) s =
      .next (((s.heard.setStore { s.store with busyUntil := some (s.now + 50) }).setStartUp
        { s.startUp with loader := some ⟨s.now + 50, true⟩ }).replied .profileReload tag .accepted)) ∧
    (∀ head first values, values.length = headCount head →
      let sound := head.toNat / 4096 = 10 ∧ 1 ≤ head.toNat / 64 % 64 ∧ head.toNat / 64 % 64 ≤ 4 ∧ headCount head ≤ 20
      let ws := head :: first :: values
      (s.store.writeIndex = none →
        exec (.profilePut tag head first values) s = s.refusedWith .profilePut tag .noProfile) ∧
      (∀ i, s.store.writeIndex = some i → ¬sound →
        exec (.profilePut tag head first values) s = s.refusedWith .profilePut tag .badArgument) ∧
      (∀ i, s.store.writeIndex = some i → sound → 510 < i + 2 + headCount head →
        exec (.profilePut tag head first values) s = s.refusedWith .profilePut tag .storeFull) ∧
      (∀ i, s.store.writeIndex = some i → sound → i + 2 + headCount head ≤ 510 →
        exec (.profilePut tag head first values) s = .next ((s.heard.setStore ⟨writeWords s.store.image i ws,
          some (i + ws.length), some (s.now + 4 * ws.length),
          some ⟨.put, s.now, wordsWritten s.store.image i ws⟩⟩).replied .profilePut tag .accepted))))

/-- The ends of a write, and a store failure. When busy until has been reached: STORE_WRITTEN after PROFILE_END
closes the session and logs STORE_WRITTEN with the index of the check word; STORE_BUSY_END after BEGIN or PUT
ends the busy time alone, the session kept. STORE_FAILED at a word of the write in progress that reads back
otherwise ends the write and the session and logs STORE_FAILED (DEGRADED) with the word's index; the words after
it are as before the request, the word itself reads as found. Putting back every word of a write restores the
image. The operands of STORE_FAILED are the model's (log entry 12). (R172, R173.) -/
def Obligations.StoreMoments : Prop :=
  (∀ (s : State) (w : StoreWrite) (m : Nat), s.store.write = some w → s.store.busyUntil = some m → m ≤ s.now →
    s.deferred = [] →
    (w.request = .finish → exec .storeWritten s = .next ((s.setStore ⟨s.store.image, none, none, none⟩).logEvent
      .storeWritten .advisory none (s.store.writeIndex.map fun i => ((i + 1 : Nat) : Int)))) ∧
    (w.request ≠ .finish →
      exec .storeBusyEnd s = .next (s.setStore ⟨s.store.image, s.store.writeIndex, none, none⟩))) ∧
  (∀ (s : State) (w : StoreWrite) (xs ys : List WordWritten) (x : WordWritten) (i : Fin 512) (found : Word),
    s.store.write = some w → w.words = xs ++ x :: ys → x.index = i.val → (∀ y ∈ xs, y.index ≠ i.val) →
    wordAt s.store.image i.val ≠ found → s.deferred = [] →
    exec (.storeFailed i found) s = .next ((s.setStore ⟨setWordAt (putBack s.store.image ys) i.val found, none, none,
      none⟩).logEvent .storeFailed .degraded none (some ((i.val : Nat) : Int)))) ∧
  (∀ (image : Image) (i : Nat) (ws : List Word),
    putBack (writeWords image i ws) (wordsWritten image i ws) = image)

/-- A profile that has been ended passes the loader's check. The words PROFILE_END writes at a write index i of at
most 510 are the end marker at i and, after it, the 16-bit sum of words 0 to i, carries dropped: the sum of word
0 alone is that word, and each further word is added. For every image whose records run soundly to the marker at
i, the load of the ended profile gives a boot code other than CHECK, and with the ID words it gives LOADED, or
INCONSISTENT where the configuration read fails R171, with that configuration. A profile begun and ended with no
record has check word 8223h (4D31h + 5412h + E0E0h) and loads LOADED with the default configuration. A store
never written loads NONE with the defaults; that its words are FFFFh is the model's choice (log entry 7). (R162,
R172, R174, R175.) -/
def Obligations.WrittenProfileLoads : Prop :=
  (∀ (image : Image) (i : Nat), i ≤ 510 →
    let done := writeWords image i (State.closingWords image i)
    wordAt done i = 0xE0E0#16 ∧ wordAt done (i + 1) = imageSum done i ∧
      ∀ j, j ≠ i → j ≠ i + 1 → wordAt done j = wordAt image j) ∧
  loadImage (writeWords beginImage 2 (State.closingWords beginImage 2)) = (.loaded, Params.defaults) ∧
  loadImage (Vector.replicate 512 0xFFFF#16) = (.noProfile, Params.defaults) ∧
  (∀ (image : Image) (i : Nat) (c : Candidate), i ≤ 510 →
    readRecords (setWordAt image i 0xE0E0#16) 512 2 Candidate.initial = some (i, c) →
    let done := writeWords image i (State.closingWords image i)
    (loadImage done).1 ≠ .check ∧
    (wordAt image 0 = 0x4D31#16 → wordAt image 1 = 0x5412#16 →
      loadImage done = if consistent c.config = true then (.loaded, c.config) else (.inconsistent, c.config))) ∧
  (∀ image : Image, imageSum image 0 = wordAt image 0 ∧
    ∀ n : Nat, n + 1 < 512 → imageSum image (n + 1) = imageSum image n + wordAt image (n + 1)) ∧
  State.closingWords beginImage 2 = [0xE0E0#16, 0x8223#16]

/-- The ends of a load and of start-up, the reconciliation of the lift, and the application of the configuration.
LOADER_END, when the run has come to its end, holds the boot code the image gives, ends the loader, makes the
configuration it gives the running one, and after a reload moves the control state: LOADED takes UNCONFIGURED to
RUNNING, or to SUSPENDED while a reason is set, and leaves any other state; every other code makes it
UNCONFIGURED. START_UP_END, when the load has ended and 1 s has passed since the reset, in order: an unjudged
reserve becomes LOW and an unjudged supply LOW_SUPPLY (the reserve first: the model's, log entry 70),
HEIGHT_LOST is judged, the lift reconciles by the table of R123 with LIFT_CHANGED for any state but DOWN (an UP
found with the ramp not UP is LOWERING at once, with one event: the model's reading, log entry 73), the
configuration is applied; the control state is then UNCONFIGURED for any boot code but LOADED, and for LOADED
SUSPENDED while a reason is set, else RUNNING. An application computes both records from stage E; makes a
circuit no longer configured, or a tyre to be renumbered, ABSENT with the record of R4 and its own valves' flags
clear; writes the frozen fields and, at a change of P53 or P54, the clamped frozen targets; makes a configured
ABSENT circuit IDLE with the record of R6; hands the loads on, writes the targets; then evaluates the tyres
changed and the circuits become present, an overloaded side with TYRE_OVERLOAD (the order where R57 gives none
is the model's, log entries 29, 33, 44, 57). Before these moments nothing changes, which is the model's (log
entry 3). That the configuration is replaced before PROFILE_LOADED or PROFILE_FAILED is logged, and that the
control state moves after it, is the model's choice (log entry 29). (R1, R5, R6, R7, R52, R57, R123, R144, R174,
R175, R176.) -/
def Obligations.LoaderAndStartUp : Prop :=
  (∀ (s : State) (run : LoaderRun), s.startUp.loader = some run → run.ends ≤ s.now →
    ∃ t, exec .loaderEnd s = .next t ∧ t.params = (loadImage s.store.image).2 ∧
      t.startUp = ⟨s.startUp.resetAt, none, some (loadImage s.store.image).1, true⟩ ∧ t.store.busyUntil = none) ∧
  (∀ (s : State) (run : LoaderRun), s.startUp.loader = some run → s.now < run.ends → s.deferred = [] →
    exec .loaderEnd s = .next s) ∧
  (∀ s : State, s.supervisor.control = .starting → s.startUp.loadEnded = true → s.startUp.resetAt + 1000 ≤ s.now →
    ∃ t, exec .startUpEnd s = .next t ∧
      (s.startUp.bootCode ≠ some .loaded → t.supervisor.control = .unconfigured) ∧
      (s.startUp.bootCode = some .loaded →
        t.supervisor.control = .running ∨ t.supervisor.control = .suspended) ∧
      (s.startUp.bootCode = some .loaded → s.supervisor.reasonCab = true → t.supervisor.control = .suspended) ∧
      (s.startUp.bootCode = some .loaded → t.supervisor.control =
        if s.supervisor.reasonCab = true ∨ s.supervisor.reasonSupply = true ∨ s.supervisor.supplyJudged = false
        then .suspended else .running)) ∧
  (∀ s : State, (s.startUp.loadEnded = false ∨ s.now < s.startUp.resetAt + 1000) → s.deferred = [] →
    exec .startUpEnd s = .next s) ∧
  (∀ (s : State) (run : LoaderRun), s.startUp.loader = some run → run.ends ≤ s.now →
    let found := loadImage s.store.image
    let told := ((s.closeLoad found.1).reconfigure found.2).logLoad found.1
    exec .loaderEnd s = .next (if run.reload then told.moveAfterReload found.1 else told).settle) ∧
  (∀ (s : State) (boot : BootCode),
    let moved (c : ControlState) := s.setSupervisor { s.supervisor with control := c }
    let held := s.supervisor.reasonCab = true ∨ s.supervisor.reasonSupply = true
    (boot = .loaded → s.supervisor.control = .unconfigured →
      (held → s.moveAfterReload boot = moved .suspended) ∧ (¬held → s.moveAfterReload boot = s.enterRunning)) ∧
    (boot = .loaded → s.supervisor.control ≠ .unconfigured → s.moveAfterReload boot = s) ∧
    (boot ≠ .loaded → s.supervisor.control ≠ .running → s.moveAfterReload boot = moved .unconfigured) ∧
    (boot ≠ .loaded → s.supervisor.control = .running → s.moveAfterReload boot = s.leaveRunning .unconfigured)) ∧
  (∀ s : State, s.enterRunning.supervisor = { s.supervisor with control := .running }) ∧
  (∀ (p : Params) (c : CircuitId),
    (c.val ≤ 1 → configured p c = true) ∧ (c = liftCircuit → (configured p c = true ↔ p.p03 = .fitted)) ∧
    (∀ t : TyreId, c = tyreCircuit t →
      (configured p c = true ↔ t.val + 1 ≤ p.p01 * (if p.p02 = .dual then 4 else 2)))) ∧
  (∀ (s : State) (renumber : Bool) (c : CircuitId),
    let stays := configured s.params c = true ∧ (renumber = false ∨ circuitTyre c = none)
    let t := s.dropCircuits renumber
    (s.isPresent c = true → stays → t.circuit c = s.circuit c) ∧
    (s.isPresent c = true → ¬stays → t.circuit c = CircuitRecord.initial ∧
      ∀ v ∈ ownValves c, (t.valve v).fault = false)) ∧
  (∀ (s : State) (c : CircuitId),
    let t := s.circuitsToAppear.foldl State.becomePresent s
    ((s.isPresent c = true ∨ configured s.params c = false) → t.circuit c = s.circuit c) ∧
    (s.isPresent c = false → configured s.params c = true →
      (t.circuit c).state = .idle ∧ (t.circuit c).strikes = 0 ∧ (t.circuit c).lastOutcome = .noOutcome ∧
      (t.circuit c).holdoffEnd = none ∧
      (∀ side : Side, c = sideCircuit side → (t.circuit c).measured = s.validValue (heightChannel side) ∧
        (t.circuit c).target = s.height.target) ∧
      (c = liftCircuit → (t.circuit c).measured = s.validValue 3 ∧ (t.circuit c).target = none) ∧
      (∀ w : TyreId, c = tyreCircuit w → (t.circuit c).measured = none ∧ (t.circuit c).probeDue = true ∧
        (t.circuit c).target = (s.sideRecord (tyreSide s.params w)).target))) ∧
  (∀ s : State, s.supervisor.control = .starting → s.startUp.loadEnded = true → s.startUp.resetAt + 1000 ≤ s.now →
    let air := if s.supervisor.reserveJudged then s else s.changeReserve .low true
    let judged := if s.supervisor.supplyJudged then air else air.enterLowSupply
    let applied := judged.judgeHeightLost.reconcileLift.applyConfiguration
    exec .startUpEnd s = .next (if s.startUp.bootCode = some .loaded then
        (if applied.supervisor.reasonCab = true ∨ applied.supervisor.reasonSupply = true then
          applied.setSupervisor { applied.supervisor with control := .suspended } else applied.enterRunning)
      else applied.setSupervisor { applied.supervisor with control := .unconfigured }).settle) ∧
  (∀ s : State,
    let b := s.validValue 3
    let isolated := s.position = some .isolated
    (s.params.p03 = .notFitted → s.foundLift = .down) ∧
    (s.params.p03 = .fitted → ¬isolated →
      (b = none → s.foundLift = .down) ∧ (∀ x, b = some x → x ≤ s.params.p83 → s.foundLift = .down) ∧
      (∀ x, b = some x → s.params.p83 < x → s.foundLift = .lowering)) ∧
    (s.params.p03 = .fitted → isolated →
      (b = none → s.foundLift = .lowering) ∧ (∀ x, b = some x → x < s.params.p82 → s.foundLift = .lowering) ∧
      (∀ x, b = some x → s.params.p82 ≤ x → s.foundLift = if s.height.ramp = .up then .up else .lowering)) ∧
    (let lowering := s.foundLift = .lowering
     let written := s.setLift { s.lift with
       reconciled := true, state := s.foundLift, step := if lowering then .venting else .noStep
       loweringClass := if lowering then some (if s.height.ramp = .up then .lift else .safety) else none
       refilling := false, blindVentDone := false, ventHeld := false, dwellSince := none }
     (s.foundLift = .down → s.reconcileLift = written) ∧
     (s.foundLift = .up → s.reconcileLift = written.logEvent .liftChanged .advisory none (some 2)) ∧
     (lowering → s.reconcileLift = written.logEvent .liftChanged .advisory none (some 3)))) ∧
  (∀ s : State, s.applyConfiguration = s.applyChange ⟨.fromE, .fromE, true, false, false⟩) ∧
  (∀ (s : State) (a : Application),
    let computed := (s.recomputeRecord .left a.left).recomputeRecord .right a.right
    let dropped := if a.presence then computed.dropCircuits a.renumber else computed
    let refrozen := if a.presence then allTyres.filter fun t =>
        let r := dropped.circuit (tyreCircuit t)
        decide (r.state ≠ .absent ∧ r.frozen ≠ decide (dropped.params.p03 = .fitted ∧
          dropped.position = some .isolated ∧ tyreAxle dropped.params t = 1))
      else []
    let frozen := refrozen.foldl State.writeFrozen dropped
    let clampOf (t : TyreId) : Option Nat := (frozen.circuit (tyreCircuit t)).target.bind fun x =>
      if frozen.params.p53 ≤ frozen.params.p54 then some (max frozen.params.p53 (min frozen.params.p54 x)) else none
    let moved := if a.reclamp then allTyres.filter fun t =>
        let r := frozen.circuit (tyreCircuit t)
        decide (r.state ≠ .absent ∧ r.frozen = true ∧ r.target ≠ clampOf t)
      else []
    let clamped := moved.foldl (fun (u : State) (t : TyreId) => u.setCircuit (tyreCircuit t)
      { u.circuit (tyreCircuit t) with target := clampOf t }) frozen
    let fresh := if a.presence then ([0, 1, 2, 3, 4, 5, 6, 7, 8, 9, 10, 11, 12, 13, 14] : List CircuitId).filter
        fun c => decide ((clamped.circuit c).state = .absent ∧ configured clamped.params c = true)
      else []
    let made := fresh.foldl State.becomePresent clamped
    let handed := (made.handLoads .left a.left).handLoads .right a.right
    let written := (handed.writeTargets .left).writeTargets .right
    let told := refrozen.foldl State.evaluateTyre (moved.foldl (fun u t => (u.judgeLow t).evaluateTyre t) written)
    s.applyChange a = fresh.foldl State.firstEvaluation told) ∧
  (∀ (s : State) (c : CircuitId),
    (∀ side : Side, c = sideCircuit side → s.firstEvaluation c =
      (if (s.sideRecord side).overload = true then (s.raise (.tyreOverload side) .degraded).logEvent .tyreOverload
        .degraded (some c) (some (((s.sideRecord side).perTyre.getD 0 : Nat) : Int)) else s).evaluateSide side) ∧
    (c = liftCircuit → s.firstEvaluation c = s.evaluateLift) ∧
    (∀ w : TyreId, c = tyreCircuit w → s.firstEvaluation c = s.evaluateTyre w))

/-- The area and the base pressure are read from their tables: at points, at ends, between. P51 holds 2 to 8 points
and P52 2 to 12, first values strictly ascending, the pressures of P52 not falling, in every configuration that
is consistent; the defaults are the tables of the book. Stage C reads the area from P51 at the height used,
whatever the pressure source, and the loads take it only while the source is LIVE; the base pressure is then
read from P52 at the per-tyre load, and overload is yes exactly above the last point. In a table whose first
values are strictly ascending, the lookup at the first value of a point is its second value; at or below the
first point and at or above the last it is held there; between two consecutive points it is the value on the
line through them, worked out exactly and rounded to nearest with halves up, and lies between their second
values. The examples of chapter 3 with the default tables: heights 292, 120 and 450 mm give 794, 690 and 840;
loads 2106, 1388 and 2900 daN give 571, 450 and 720 kPa. (R46, R51.) -/
def Obligations.TableLookup : Prop :=
  (∀ (pts : List (Nat × Nat)) (pt : Nat × Nat), ascending pts = true → pt ∈ pts → lookup pts pt.1 = pt.2) ∧
  (∀ (a : Nat × Nat) (pts : List (Nat × Nat)) (x : Nat), ascending (a :: pts) = true → x ≤ a.1 →
    lookup (a :: pts) x = a.2) ∧
  (∀ (z : Nat × Nat) (pts : List (Nat × Nat)) (x : Nat), ascending (pts ++ [z]) = true → z.1 ≤ x →
    lookup (pts ++ [z]) x = z.2) ∧
  (lookup defaultAreaTable 292 = 794 ∧ lookup defaultAreaTable 120 = 690 ∧ lookup defaultAreaTable 450 = 840 ∧
    lookup defaultLoadTable 2106 = 571 ∧ lookup defaultLoadTable 1388 = 450 ∧ lookup defaultLoadTable 2900 = 720) ∧
  (∀ (pre post : List (Nat × Nat)) (a b : Nat × Nat) (x : Nat), ascending (pre ++ a :: b :: post) = true →
    a.1 < x → x < b.1 →
    let y : Int := lookup (pre ++ a :: b :: post) x
    let n : Int := a.2 * (b.1 - a.1) + (x - a.1) * ((b.2 : Int) - a.2)
    let d : Int := b.1 - a.1
    2 * d * y ≤ 2 * n + d ∧ 2 * n + d < 2 * d * (y + 1) ∧ min (a.2 : Int) b.2 ≤ y ∧ y ≤ max (a.2 : Int) b.2) ∧
  (Params.defaults.p51 = [(150, 690), (200, 720), (250, 760), (300, 800), (400, 840)] ∧
    Params.defaults.p52 = [(1500, 450), (2000, 550), (2250, 600), (2500, 650), (2800, 720)]) ∧
  (∀ p : Params, consistent p = true →
    2 ≤ p.p51.length ∧ p.p51.length ≤ 8 ∧ p.p51.Pairwise (fun a b => a.1 < b.1) ∧
    2 ≤ p.p52.length ∧ p.p52.length ≤ 12 ∧ p.p52.Pairwise (fun a b => a.1 < b.1 ∧ a.2 ≤ b.2)) ∧
  (∀ (s : State) (side : Side) (r : SideRecord),
    let x := s.computeRecord side .fromC r
    x.heightUsed ≠ none ∧ x.area = x.heightUsed.map (lookup s.params.p51) ∧
    (r.source ≠ .live → x.perBellows = r.perBellows) ∧
    (r.source = .live → x.perTyre ≠ none ∧ x.base = x.perTyre.map (lookup s.params.p52)) ∧
    (r.source = .live → consistent s.params = true →
      (x.overload = true ↔ ∀ pt ∈ s.params.p52, pt.1 < x.perTyre.getD 0)))

/-- A side's computation by stages C to H, what it hands on, frozen tyre targets, and the bounds of every target. A
tyre target that stages G and H form lies within [P53, P54], where it is the raised pressure clamped, and there
is none while P53 is above P54; with allowance in force the raised pressure is base x (100 + P55) / 100 rounded,
else the base, and allowance applied is yes exactly when the two differ. A height target formed with P12 at most
P13 lies within [P12, P13] and is the mode's height wherever that lies within them; forming it makes it the
target held. A new filtered side pressure makes the source LIVE and the record by R45 to R51: height source and
area, per-bellows load p x area / 100 rounded, axles down, sprung load, side total with P50, per-tyre load
rounded, base pressure and overload. With any other source a height event runs stage C alone, and while HELD
stage E changes nothing. A pressure channel that fails holds a side that has a per-tyre load (log entry 16). A
frozen tyre keeps the target it holds; any other takes its side's; frozen are the tyres of axle 1 while P03 is
FITTED and the position reads ISOLATED. That axles down of a HELD side is kept at a change of P01 or P03 too is
the model's choice (log entry 67). A computation stores the record, with TYRE_OVERLOAD raised and logged with
the per-tyre load where a present side becomes overloaded and cleared where it no longer is; hands the loads on
while the source is LIVE and stage E has run; and writes the targets of the side's present tyres that differ,
judging TYRE_LOW and evaluating each (in this order: the model's, log entry 29). (R44, R45, R47, R48, R49, R50,
R51, R52, R54, R55, R56, R105.) -/
def Obligations.TargetsWithinBounds : Prop :=
  (∀ (s : State) (base : Nat) (r : SideRecord),
    let x := s.stageGH base r
    (∀ y, x.target = some y → s.params.p53 ≤ y ∧ y ≤ s.params.p54) ∧
    (x.target = none ↔ s.params.p54 < s.params.p53) ∧
    (s.estimator.allowance = false → s.params.p53 ≤ base → base ≤ s.params.p54 →
      x.target = some base ∧ x.allowanceApplied = false) ∧
    (s.estimator.allowance = true → s.raisedPressure base = (2 * (base * (100 + s.params.p55)) + 100) / 200) ∧
    (s.params.p53 ≤ s.params.p54 →
      x.target = some (max s.params.p53 (min s.params.p54 (s.raisedPressure base)))) ∧
    (x.allowanceApplied = true ↔ s.raisedPressure base ≠ base)) ∧
  (∀ s : State, s.params.p12 ≤ s.params.p13 →
    let h := match s.height.mode with
      | .ride => s.params.p10
      | .dock => s.params.p11
      | .custom => s.height.customHeight
    s.params.p12 ≤ s.formedTarget ∧ s.formedTarget ≤ s.params.p13 ∧
      (s.params.p12 ≤ h → h ≤ s.params.p13 → s.formedTarget = h)) ∧
  (∀ s : State, s.formTarget.height.target = some s.formedTarget) ∧
  (∀ (s : State) (side : Side),
    let own := s.validValue (heightChannel side)
    let other := s.validValue (heightChannel (otherSide side))
    let target := (s.circuit (sideCircuit side)).target
    (∀ h, own = some h → s.chosenHeight side = (.own, h)) ∧
    (∀ h, own = none → other = some h → s.chosenHeight side = (.other, h)) ∧
    (∀ h, own = none → other = none → target = some h → s.chosenHeight side = (.target, h)) ∧
    (own = none → other = none → target = none → s.chosenHeight side = (.ride, s.params.p10))) ∧
  (∀ s : State, s.axlesDown =
    if s.params.p03 = .fitted ∧ s.position = some .isolated then s.params.p01 - 1 else s.params.p01) ∧
  (∀ (s : State) (side : Side) (p : Nat),
    let x := s.computeRecord side .fromC { s.sideRecord side with source := .live, pressure := some p }
    let area := lookup s.params.p51 (s.chosenHeight side).2
    let w := (2 * (p * area) + 100) / 200
    let n := s.axlesDown
    let total := n * w + n * s.params.p50
    let share := n * (if s.params.p02 = .dual then 2 else 1)
    let load := (2 * total + share) / (2 * share)
    (s.estimatePressure side p).sideRecord side = x ∧ x.source = .live ∧ x.pressure = some p ∧
    x.heightSource = (s.chosenHeight side).1 ∧ x.heightUsed = some (s.chosenHeight side).2 ∧ x.area = some area ∧
    x.perBellows = some w ∧ x.axlesDown = n ∧ x.sprung = some (n * w) ∧ x.sideTotal = some total ∧
    x.perTyre = some load ∧ x.base = some (lookup s.params.p52 load) ∧
    (x.overload = true ↔ ((s.params.p52.getLast?).map Prod.fst).getD 0 < load)) ∧
  (∀ (s : State) (side : Side), (s.sideRecord side).source ≠ .live →
    s.computeRecord side .fromC (s.sideRecord side) = { s.sideRecord side with
      heightSource := (s.chosenHeight side).1, heightUsed := some (s.chosenHeight side).2
      area := some (lookup s.params.p51 (s.chosenHeight side).2) } ∧
    ((s.sideRecord side).source = .held →
      s.computeRecord side .fromE (s.sideRecord side) = s.sideRecord side)) ∧
  (∀ (s : State) (side : Side),
    ((s.sideRecord side).perTyre ≠ none → (s.pressureFailed side).sideRecord side =
      { s.sideRecord side with source := .held }) ∧
    ((s.sideRecord side).perTyre = none → s.pressureFailed side = s)) ∧
  (∀ (s : State) (t : TyreId),
    let c := tyreCircuit t
    let r := s.circuit c
    (s.writeTyreTarget t).circuit c = { r with target := if r.frozen = true ∧ r.target ≠ none then r.target
      else (s.sideRecord (tyreSide s.params t)).target } ∧
    (s.writeFrozen t).circuit c = { r with
      frozen := decide (s.params.p03 = .fitted ∧ s.position = some .isolated ∧ tyreAxle s.params t = 1) }) ∧
  (∀ (s : State) (base : Nat), s.estimator.allowance = false → s.raisedPressure base = base) ∧
  (∀ (s : State) (side : Side) (st : Stages),
    let c := sideCircuit side
    let r := s.sideRecord side
    let x := s.computeRecord side st r
    let stored := s.setSideRecord side x
    (x.overload = true → r.overload = false → (s.circuit c).state ≠ .absent → s.recomputeRecord side st =
      (stored.raise (.tyreOverload side) .degraded).logEvent .tyreOverload .degraded (some c)
        (some ((x.perTyre.getD 0 : Nat) : Int))) ∧
    (x.overload = true → (r.overload = true ∨ (s.circuit c).state = .absent) → s.recomputeRecord side st = stored) ∧
    (x.overload = false → r.overload = true → s.recomputeRecord side st = stored.clear (.tyreOverload side)) ∧
    (x.overload = false → r.overload = false → s.recomputeRecord side st = stored) ∧
    ((st.c = true ∨ st.e = true) → r.source = .live → s.handLoads side st = s.liftLoads side r) ∧
    (((st.c = false ∧ st.e = false) ∨ r.source ≠ .live) → s.handLoads side st = s) ∧
    s.recompute side st = ((s.recomputeRecord side st).handLoads side st).writeTargets side ∧
    (∀ p : Nat, s.estimatePressure side p =
      (s.setSideRecord side { r with source := .live, pressure := some p }).recompute side .fromC)) ∧
  (∀ (s : State) (side : Side),
    let ts := allTyres.filter fun t =>
      let y := s.circuit (tyreCircuit t)
      let next := if y.frozen = true ∧ y.target ≠ none then y.target else (s.sideRecord (tyreSide s.params t)).target
      decide (y.state ≠ .absent ∧ tyreSide s.params t = side ∧ y.target ≠ next)
    s.writeTargets side = ts.foldl (fun u t => (u.judgeLow t).evaluateTyre t) (ts.foldl State.writeTyreTarget s))
end

