-- ==== Sys2Proof/Laws/State.lean ====
section
/-! SUPPORT. What each update of the state leaves alone: one lemma per field per update, true by rfl, so that no
proof unfolds a record update. -/

namespace Sys2Proof.Machine.State

@[simp] theorem setNow_now (s : State) (x : Nat) : (s.setNow x).now = x := rfl
@[simp] theorem setNow_params (s : State) (x : Nat) : (s.setNow x).params = s.params := rfl
@[simp] theorem setNow_sensing (s : State) (x : Nat) : (s.setNow x).sensing = s.sensing := rfl
@[simp] theorem setNow_circuits (s : State) (x : Nat) : (s.setNow x).circuits = s.circuits := rfl
@[simp] theorem setNow_estimator (s : State) (x : Nat) : (s.setNow x).estimator = s.estimator := rfl
@[simp] theorem setNow_scheduler (s : State) (x : Nat) : (s.setNow x).scheduler = s.scheduler := rfl
@[simp] theorem setNow_engine (s : State) (x : Nat) : (s.setNow x).engine = s.engine := rfl
@[simp] theorem setNow_driver (s : State) (x : Nat) : (s.setNow x).driver = s.driver := rfl
@[simp] theorem setNow_height (s : State) (x : Nat) : (s.setNow x).height = s.height := rfl
@[simp] theorem setNow_lift (s : State) (x : Nat) : (s.setNow x).lift = s.lift := rfl
@[simp] theorem setNow_tyres (s : State) (x : Nat) : (s.setNow x).tyres = s.tyres := rfl
@[simp] theorem setNow_supervisor (s : State) (x : Nat) : (s.setNow x).supervisor = s.supervisor := rfl
@[simp] theorem setNow_link (s : State) (x : Nat) : (s.setNow x).link = s.link := rfl
@[simp] theorem setNow_events (s : State) (x : Nat) : (s.setNow x).events = s.events := rfl
@[simp] theorem setNow_store (s : State) (x : Nat) : (s.setNow x).store = s.store := rfl
@[simp] theorem setNow_startUp (s : State) (x : Nat) : (s.setNow x).startUp = s.startUp := rfl
@[simp] theorem setNow_deferred (s : State) (x : Nat) : (s.setNow x).deferred = s.deferred := rfl
@[simp] theorem setNow_pending (s : State) (x : Nat) : (s.setNow x).pending = s.pending := rfl

@[simp] theorem setParams_now (s : State) (x : Params) : (s.setParams x).now = s.now := rfl
@[simp] theorem setParams_params (s : State) (x : Params) : (s.setParams x).params = x := rfl
@[simp] theorem setParams_sensing (s : State) (x : Params) : (s.setParams x).sensing = s.sensing := rfl
@[simp] theorem setParams_circuits (s : State) (x : Params) : (s.setParams x).circuits = s.circuits := rfl
@[simp] theorem setParams_estimator (s : State) (x : Params) : (s.setParams x).estimator = s.estimator := rfl
@[simp] theorem setParams_scheduler (s : State) (x : Params) : (s.setParams x).scheduler = s.scheduler := rfl
@[simp] theorem setParams_engine (s : State) (x : Params) : (s.setParams x).engine = s.engine := rfl
@[simp] theorem setParams_driver (s : State) (x : Params) : (s.setParams x).driver = s.driver := rfl
@[simp] theorem setParams_height (s : State) (x : Params) : (s.setParams x).height = s.height := rfl
@[simp] theorem setParams_lift (s : State) (x : Params) : (s.setParams x).lift = s.lift := rfl
@[simp] theorem setParams_tyres (s : State) (x : Params) : (s.setParams x).tyres = s.tyres := rfl
@[simp] theorem setParams_supervisor (s : State) (x : Params) : (s.setParams x).supervisor = s.supervisor := rfl
@[simp] theorem setParams_link (s : State) (x : Params) : (s.setParams x).link = s.link := rfl
@[simp] theorem setParams_events (s : State) (x : Params) : (s.setParams x).events = s.events := rfl
@[simp] theorem setParams_store (s : State) (x : Params) : (s.setParams x).store = s.store := rfl
@[simp] theorem setParams_startUp (s : State) (x : Params) : (s.setParams x).startUp = s.startUp := rfl
@[simp] theorem setParams_deferred (s : State) (x : Params) : (s.setParams x).deferred = s.deferred := rfl
@[simp] theorem setParams_pending (s : State) (x : Params) : (s.setParams x).pending = s.pending := rfl

@[simp] theorem setSensing_now (s : State) (x : Sensing) : (s.setSensing x).now = s.now := rfl
@[simp] theorem setSensing_params (s : State) (x : Sensing) : (s.setSensing x).params = s.params := rfl
@[simp] theorem setSensing_sensing (s : State) (x : Sensing) : (s.setSensing x).sensing = x := rfl
@[simp] theorem setSensing_circuits (s : State) (x : Sensing) : (s.setSensing x).circuits = s.circuits := rfl
@[simp] theorem setSensing_estimator (s : State) (x : Sensing) : (s.setSensing x).estimator = s.estimator := rfl
@[simp] theorem setSensing_scheduler (s : State) (x : Sensing) : (s.setSensing x).scheduler = s.scheduler := rfl
@[simp] theorem setSensing_engine (s : State) (x : Sensing) : (s.setSensing x).engine = s.engine := rfl
@[simp] theorem setSensing_driver (s : State) (x : Sensing) : (s.setSensing x).driver = s.driver := rfl
@[simp] theorem setSensing_height (s : State) (x : Sensing) : (s.setSensing x).height = s.height := rfl
@[simp] theorem setSensing_lift (s : State) (x : Sensing) : (s.setSensing x).lift = s.lift := rfl
@[simp] theorem setSensing_tyres (s : State) (x : Sensing) : (s.setSensing x).tyres = s.tyres := rfl
@[simp] theorem setSensing_supervisor (s : State) (x : Sensing) : (s.setSensing x).supervisor = s.supervisor := rfl
@[simp] theorem setSensing_link (s : State) (x : Sensing) : (s.setSensing x).link = s.link := rfl
@[simp] theorem setSensing_events (s : State) (x : Sensing) : (s.setSensing x).events = s.events := rfl
@[simp] theorem setSensing_store (s : State) (x : Sensing) : (s.setSensing x).store = s.store := rfl
@[simp] theorem setSensing_startUp (s : State) (x : Sensing) : (s.setSensing x).startUp = s.startUp := rfl
@[simp] theorem setSensing_deferred (s : State) (x : Sensing) : (s.setSensing x).deferred = s.deferred := rfl
@[simp] theorem setSensing_pending (s : State) (x : Sensing) : (s.setSensing x).pending = s.pending := rfl

@[simp] theorem setCircuits_now (s : State) (x : Vector CircuitRecord 15) : (s.setCircuits x).now = s.now := rfl
@[simp] theorem setCircuits_params (s : State) (x : Vector CircuitRecord 15) : (s.setCircuits x).params = s.params := rfl
@[simp] theorem setCircuits_sensing (s : State) (x : Vector CircuitRecord 15) : (s.setCircuits x).sensing = s.sensing := rfl
@[simp] theorem setCircuits_circuits (s : State) (x : Vector CircuitRecord 15) : (s.setCircuits x).circuits = x := rfl
@[simp] theorem setCircuits_estimator (s : State) (x : Vector CircuitRecord 15) : (s.setCircuits x).estimator = s.estimator := rfl
@[simp] theorem setCircuits_scheduler (s : State) (x : Vector CircuitRecord 15) : (s.setCircuits x).scheduler = s.scheduler := rfl
@[simp] theorem setCircuits_engine (s : State) (x : Vector CircuitRecord 15) : (s.setCircuits x).engine = s.engine := rfl
@[simp] theorem setCircuits_driver (s : State) (x : Vector CircuitRecord 15) : (s.setCircuits x).driver = s.driver := rfl
@[simp] theorem setCircuits_height (s : State) (x : Vector CircuitRecord 15) : (s.setCircuits x).height = s.height := rfl
@[simp] theorem setCircuits_lift (s : State) (x : Vector CircuitRecord 15) : (s.setCircuits x).lift = s.lift := rfl
@[simp] theorem setCircuits_tyres (s : State) (x : Vector CircuitRecord 15) : (s.setCircuits x).tyres = s.tyres := rfl
@[simp] theorem setCircuits_supervisor (s : State) (x : Vector CircuitRecord 15) : (s.setCircuits x).supervisor = s.supervisor := rfl
@[simp] theorem setCircuits_link (s : State) (x : Vector CircuitRecord 15) : (s.setCircuits x).link = s.link := rfl
@[simp] theorem setCircuits_events (s : State) (x : Vector CircuitRecord 15) : (s.setCircuits x).events = s.events := rfl
@[simp] theorem setCircuits_store (s : State) (x : Vector CircuitRecord 15) : (s.setCircuits x).store = s.store := rfl
@[simp] theorem setCircuits_startUp (s : State) (x : Vector CircuitRecord 15) : (s.setCircuits x).startUp = s.startUp := rfl
@[simp] theorem setCircuits_deferred (s : State) (x : Vector CircuitRecord 15) : (s.setCircuits x).deferred = s.deferred := rfl
@[simp] theorem setCircuits_pending (s : State) (x : Vector CircuitRecord 15) : (s.setCircuits x).pending = s.pending := rfl

@[simp] theorem setEstimator_now (s : State) (x : Estimator) : (s.setEstimator x).now = s.now := rfl
@[simp] theorem setEstimator_params (s : State) (x : Estimator) : (s.setEstimator x).params = s.params := rfl
@[simp] theorem setEstimator_sensing (s : State) (x : Estimator) : (s.setEstimator x).sensing = s.sensing := rfl
@[simp] theorem setEstimator_circuits (s : State) (x : Estimator) : (s.setEstimator x).circuits = s.circuits := rfl
@[simp] theorem setEstimator_estimator (s : State) (x : Estimator) : (s.setEstimator x).estimator = x := rfl
@[simp] theorem setEstimator_scheduler (s : State) (x : Estimator) : (s.setEstimator x).scheduler = s.scheduler := rfl
@[simp] theorem setEstimator_engine (s : State) (x : Estimator) : (s.setEstimator x).engine = s.engine := rfl
@[simp] theorem setEstimator_driver (s : State) (x : Estimator) : (s.setEstimator x).driver = s.driver := rfl
@[simp] theorem setEstimator_height (s : State) (x : Estimator) : (s.setEstimator x).height = s.height := rfl
@[simp] theorem setEstimator_lift (s : State) (x : Estimator) : (s.setEstimator x).lift = s.lift := rfl
@[simp] theorem setEstimator_tyres (s : State) (x : Estimator) : (s.setEstimator x).tyres = s.tyres := rfl
@[simp] theorem setEstimator_supervisor (s : State) (x : Estimator) : (s.setEstimator x).supervisor = s.supervisor := rfl
@[simp] theorem setEstimator_link (s : State) (x : Estimator) : (s.setEstimator x).link = s.link := rfl
@[simp] theorem setEstimator_events (s : State) (x : Estimator) : (s.setEstimator x).events = s.events := rfl
@[simp] theorem setEstimator_store (s : State) (x : Estimator) : (s.setEstimator x).store = s.store := rfl
@[simp] theorem setEstimator_startUp (s : State) (x : Estimator) : (s.setEstimator x).startUp = s.startUp := rfl
@[simp] theorem setEstimator_deferred (s : State) (x : Estimator) : (s.setEstimator x).deferred = s.deferred := rfl
@[simp] theorem setEstimator_pending (s : State) (x : Estimator) : (s.setEstimator x).pending = s.pending := rfl

@[simp] theorem setScheduler_now (s : State) (x : Scheduler) : (s.setScheduler x).now = s.now := rfl
@[simp] theorem setScheduler_params (s : State) (x : Scheduler) : (s.setScheduler x).params = s.params := rfl
@[simp] theorem setScheduler_sensing (s : State) (x : Scheduler) : (s.setScheduler x).sensing = s.sensing := rfl
@[simp] theorem setScheduler_circuits (s : State) (x : Scheduler) : (s.setScheduler x).circuits = s.circuits := rfl
@[simp] theorem setScheduler_estimator (s : State) (x : Scheduler) : (s.setScheduler x).estimator = s.estimator := rfl
@[simp] theorem setScheduler_scheduler (s : State) (x : Scheduler) : (s.setScheduler x).scheduler = x := rfl
@[simp] theorem setScheduler_engine (s : State) (x : Scheduler) : (s.setScheduler x).engine = s.engine := rfl
@[simp] theorem setScheduler_driver (s : State) (x : Scheduler) : (s.setScheduler x).driver = s.driver := rfl
@[simp] theorem setScheduler_height (s : State) (x : Scheduler) : (s.setScheduler x).height = s.height := rfl
@[simp] theorem setScheduler_lift (s : State) (x : Scheduler) : (s.setScheduler x).lift = s.lift := rfl
@[simp] theorem setScheduler_tyres (s : State) (x : Scheduler) : (s.setScheduler x).tyres = s.tyres := rfl
@[simp] theorem setScheduler_supervisor (s : State) (x : Scheduler) : (s.setScheduler x).supervisor = s.supervisor := rfl
@[simp] theorem setScheduler_link (s : State) (x : Scheduler) : (s.setScheduler x).link = s.link := rfl
@[simp] theorem setScheduler_events (s : State) (x : Scheduler) : (s.setScheduler x).events = s.events := rfl
@[simp] theorem setScheduler_store (s : State) (x : Scheduler) : (s.setScheduler x).store = s.store := rfl
@[simp] theorem setScheduler_startUp (s : State) (x : Scheduler) : (s.setScheduler x).startUp = s.startUp := rfl
@[simp] theorem setScheduler_deferred (s : State) (x : Scheduler) : (s.setScheduler x).deferred = s.deferred := rfl
@[simp] theorem setScheduler_pending (s : State) (x : Scheduler) : (s.setScheduler x).pending = s.pending := rfl

@[simp] theorem setEngine_now (s : State) (x : List Transaction) : (s.setEngine x).now = s.now := rfl
@[simp] theorem setEngine_params (s : State) (x : List Transaction) : (s.setEngine x).params = s.params := rfl
@[simp] theorem setEngine_sensing (s : State) (x : List Transaction) : (s.setEngine x).sensing = s.sensing := rfl
@[simp] theorem setEngine_circuits (s : State) (x : List Transaction) : (s.setEngine x).circuits = s.circuits := rfl
@[simp] theorem setEngine_estimator (s : State) (x : List Transaction) : (s.setEngine x).estimator = s.estimator := rfl
@[simp] theorem setEngine_scheduler (s : State) (x : List Transaction) : (s.setEngine x).scheduler = s.scheduler := rfl
@[simp] theorem setEngine_engine (s : State) (x : List Transaction) : (s.setEngine x).engine = x := rfl
@[simp] theorem setEngine_driver (s : State) (x : List Transaction) : (s.setEngine x).driver = s.driver := rfl
@[simp] theorem setEngine_height (s : State) (x : List Transaction) : (s.setEngine x).height = s.height := rfl
@[simp] theorem setEngine_lift (s : State) (x : List Transaction) : (s.setEngine x).lift = s.lift := rfl
@[simp] theorem setEngine_tyres (s : State) (x : List Transaction) : (s.setEngine x).tyres = s.tyres := rfl
@[simp] theorem setEngine_supervisor (s : State) (x : List Transaction) : (s.setEngine x).supervisor = s.supervisor := rfl
@[simp] theorem setEngine_link (s : State) (x : List Transaction) : (s.setEngine x).link = s.link := rfl
@[simp] theorem setEngine_events (s : State) (x : List Transaction) : (s.setEngine x).events = s.events := rfl
@[simp] theorem setEngine_store (s : State) (x : List Transaction) : (s.setEngine x).store = s.store := rfl
@[simp] theorem setEngine_startUp (s : State) (x : List Transaction) : (s.setEngine x).startUp = s.startUp := rfl
@[simp] theorem setEngine_deferred (s : State) (x : List Transaction) : (s.setEngine x).deferred = s.deferred := rfl
@[simp] theorem setEngine_pending (s : State) (x : List Transaction) : (s.setEngine x).pending = s.pending := rfl

@[simp] theorem setDriver_now (s : State) (x : Driver) : (s.setDriver x).now = s.now := rfl
@[simp] theorem setDriver_params (s : State) (x : Driver) : (s.setDriver x).params = s.params := rfl
@[simp] theorem setDriver_sensing (s : State) (x : Driver) : (s.setDriver x).sensing = s.sensing := rfl
@[simp] theorem setDriver_circuits (s : State) (x : Driver) : (s.setDriver x).circuits = s.circuits := rfl
@[simp] theorem setDriver_estimator (s : State) (x : Driver) : (s.setDriver x).estimator = s.estimator := rfl
@[simp] theorem setDriver_scheduler (s : State) (x : Driver) : (s.setDriver x).scheduler = s.scheduler := rfl
@[simp] theorem setDriver_engine (s : State) (x : Driver) : (s.setDriver x).engine = s.engine := rfl
@[simp] theorem setDriver_driver (s : State) (x : Driver) : (s.setDriver x).driver = x := rfl
@[simp] theorem setDriver_height (s : State) (x : Driver) : (s.setDriver x).height = s.height := rfl
@[simp] theorem setDriver_lift (s : State) (x : Driver) : (s.setDriver x).lift = s.lift := rfl
@[simp] theorem setDriver_tyres (s : State) (x : Driver) : (s.setDriver x).tyres = s.tyres := rfl
@[simp] theorem setDriver_supervisor (s : State) (x : Driver) : (s.setDriver x).supervisor = s.supervisor := rfl
@[simp] theorem setDriver_link (s : State) (x : Driver) : (s.setDriver x).link = s.link := rfl
@[simp] theorem setDriver_events (s : State) (x : Driver) : (s.setDriver x).events = s.events := rfl
@[simp] theorem setDriver_store (s : State) (x : Driver) : (s.setDriver x).store = s.store := rfl
@[simp] theorem setDriver_startUp (s : State) (x : Driver) : (s.setDriver x).startUp = s.startUp := rfl
@[simp] theorem setDriver_deferred (s : State) (x : Driver) : (s.setDriver x).deferred = s.deferred := rfl
@[simp] theorem setDriver_pending (s : State) (x : Driver) : (s.setDriver x).pending = s.pending := rfl

@[simp] theorem setHeight_now (s : State) (x : HeightController) : (s.setHeight x).now = s.now := rfl
@[simp] theorem setHeight_params (s : State) (x : HeightController) : (s.setHeight x).params = s.params := rfl
@[simp] theorem setHeight_sensing (s : State) (x : HeightController) : (s.setHeight x).sensing = s.sensing := rfl
@[simp] theorem setHeight_circuits (s : State) (x : HeightController) : (s.setHeight x).circuits = s.circuits := rfl
@[simp] theorem setHeight_estimator (s : State) (x : HeightController) : (s.setHeight x).estimator = s.estimator := rfl
@[simp] theorem setHeight_scheduler (s : State) (x : HeightController) : (s.setHeight x).scheduler = s.scheduler := rfl
@[simp] theorem setHeight_engine (s : State) (x : HeightController) : (s.setHeight x).engine = s.engine := rfl
@[simp] theorem setHeight_driver (s : State) (x : HeightController) : (s.setHeight x).driver = s.driver := rfl
@[simp] theorem setHeight_height (s : State) (x : HeightController) : (s.setHeight x).height = x := rfl
@[simp] theorem setHeight_lift (s : State) (x : HeightController) : (s.setHeight x).lift = s.lift := rfl
@[simp] theorem setHeight_tyres (s : State) (x : HeightController) : (s.setHeight x).tyres = s.tyres := rfl
@[simp] theorem setHeight_supervisor (s : State) (x : HeightController) : (s.setHeight x).supervisor = s.supervisor := rfl
@[simp] theorem setHeight_link (s : State) (x : HeightController) : (s.setHeight x).link = s.link := rfl
@[simp] theorem setHeight_events (s : State) (x : HeightController) : (s.setHeight x).events = s.events := rfl
@[simp] theorem setHeight_store (s : State) (x : HeightController) : (s.setHeight x).store = s.store := rfl
@[simp] theorem setHeight_startUp (s : State) (x : HeightController) : (s.setHeight x).startUp = s.startUp := rfl
@[simp] theorem setHeight_deferred (s : State) (x : HeightController) : (s.setHeight x).deferred = s.deferred := rfl
@[simp] theorem setHeight_pending (s : State) (x : HeightController) : (s.setHeight x).pending = s.pending := rfl

@[simp] theorem setLift_now (s : State) (x : LiftController) : (s.setLift x).now = s.now := rfl
@[simp] theorem setLift_params (s : State) (x : LiftController) : (s.setLift x).params = s.params := rfl
@[simp] theorem setLift_sensing (s : State) (x : LiftController) : (s.setLift x).sensing = s.sensing := rfl
@[simp] theorem setLift_circuits (s : State) (x : LiftController) : (s.setLift x).circuits = s.circuits := rfl
@[simp] theorem setLift_estimator (s : State) (x : LiftController) : (s.setLift x).estimator = s.estimator := rfl
@[simp] theorem setLift_scheduler (s : State) (x : LiftController) : (s.setLift x).scheduler = s.scheduler := rfl
@[simp] theorem setLift_engine (s : State) (x : LiftController) : (s.setLift x).engine = s.engine := rfl
@[simp] theorem setLift_driver (s : State) (x : LiftController) : (s.setLift x).driver = s.driver := rfl
@[simp] theorem setLift_height (s : State) (x : LiftController) : (s.setLift x).height = s.height := rfl
@[simp] theorem setLift_lift (s : State) (x : LiftController) : (s.setLift x).lift = x := rfl
@[simp] theorem setLift_tyres (s : State) (x : LiftController) : (s.setLift x).tyres = s.tyres := rfl
@[simp] theorem setLift_supervisor (s : State) (x : LiftController) : (s.setLift x).supervisor = s.supervisor := rfl
@[simp] theorem setLift_link (s : State) (x : LiftController) : (s.setLift x).link = s.link := rfl
@[simp] theorem setLift_events (s : State) (x : LiftController) : (s.setLift x).events = s.events := rfl
@[simp] theorem setLift_store (s : State) (x : LiftController) : (s.setLift x).store = s.store := rfl
@[simp] theorem setLift_startUp (s : State) (x : LiftController) : (s.setLift x).startUp = s.startUp := rfl
@[simp] theorem setLift_deferred (s : State) (x : LiftController) : (s.setLift x).deferred = s.deferred := rfl
@[simp] theorem setLift_pending (s : State) (x : LiftController) : (s.setLift x).pending = s.pending := rfl

@[simp] theorem setTyres_now (s : State) (x : Vector TyreItems 12) : (s.setTyres x).now = s.now := rfl
@[simp] theorem setTyres_params (s : State) (x : Vector TyreItems 12) : (s.setTyres x).params = s.params := rfl
@[simp] theorem setTyres_sensing (s : State) (x : Vector TyreItems 12) : (s.setTyres x).sensing = s.sensing := rfl
@[simp] theorem setTyres_circuits (s : State) (x : Vector TyreItems 12) : (s.setTyres x).circuits = s.circuits := rfl
@[simp] theorem setTyres_estimator (s : State) (x : Vector TyreItems 12) : (s.setTyres x).estimator = s.estimator := rfl
@[simp] theorem setTyres_scheduler (s : State) (x : Vector TyreItems 12) : (s.setTyres x).scheduler = s.scheduler := rfl
@[simp] theorem setTyres_engine (s : State) (x : Vector TyreItems 12) : (s.setTyres x).engine = s.engine := rfl
@[simp] theorem setTyres_driver (s : State) (x : Vector TyreItems 12) : (s.setTyres x).driver = s.driver := rfl
@[simp] theorem setTyres_height (s : State) (x : Vector TyreItems 12) : (s.setTyres x).height = s.height := rfl
@[simp] theorem setTyres_lift (s : State) (x : Vector TyreItems 12) : (s.setTyres x).lift = s.lift := rfl
@[simp] theorem setTyres_tyres (s : State) (x : Vector TyreItems 12) : (s.setTyres x).tyres = x := rfl
@[simp] theorem setTyres_supervisor (s : State) (x : Vector TyreItems 12) : (s.setTyres x).supervisor = s.supervisor := rfl
@[simp] theorem setTyres_link (s : State) (x : Vector TyreItems 12) : (s.setTyres x).link = s.link := rfl
@[simp] theorem setTyres_events (s : State) (x : Vector TyreItems 12) : (s.setTyres x).events = s.events := rfl
@[simp] theorem setTyres_store (s : State) (x : Vector TyreItems 12) : (s.setTyres x).store = s.store := rfl
@[simp] theorem setTyres_startUp (s : State) (x : Vector TyreItems 12) : (s.setTyres x).startUp = s.startUp := rfl
@[simp] theorem setTyres_deferred (s : State) (x : Vector TyreItems 12) : (s.setTyres x).deferred = s.deferred := rfl
@[simp] theorem setTyres_pending (s : State) (x : Vector TyreItems 12) : (s.setTyres x).pending = s.pending := rfl

@[simp] theorem setSupervisor_now (s : State) (x : Supervisor) : (s.setSupervisor x).now = s.now := rfl
@[simp] theorem setSupervisor_params (s : State) (x : Supervisor) : (s.setSupervisor x).params = s.params := rfl
@[simp] theorem setSupervisor_sensing (s : State) (x : Supervisor) : (s.setSupervisor x).sensing = s.sensing := rfl
@[simp] theorem setSupervisor_circuits (s : State) (x : Supervisor) : (s.setSupervisor x).circuits = s.circuits := rfl
@[simp] theorem setSupervisor_estimator (s : State) (x : Supervisor) : (s.setSupervisor x).estimator = s.estimator := rfl
@[simp] theorem setSupervisor_scheduler (s : State) (x : Supervisor) : (s.setSupervisor x).scheduler = s.scheduler := rfl
@[simp] theorem setSupervisor_engine (s : State) (x : Supervisor) : (s.setSupervisor x).engine = s.engine := rfl
@[simp] theorem setSupervisor_driver (s : State) (x : Supervisor) : (s.setSupervisor x).driver = s.driver := rfl
@[simp] theorem setSupervisor_height (s : State) (x : Supervisor) : (s.setSupervisor x).height = s.height := rfl
@[simp] theorem setSupervisor_lift (s : State) (x : Supervisor) : (s.setSupervisor x).lift = s.lift := rfl
@[simp] theorem setSupervisor_tyres (s : State) (x : Supervisor) : (s.setSupervisor x).tyres = s.tyres := rfl
@[simp] theorem setSupervisor_supervisor (s : State) (x : Supervisor) : (s.setSupervisor x).supervisor = x := rfl
@[simp] theorem setSupervisor_link (s : State) (x : Supervisor) : (s.setSupervisor x).link = s.link := rfl
@[simp] theorem setSupervisor_events (s : State) (x : Supervisor) : (s.setSupervisor x).events = s.events := rfl
@[simp] theorem setSupervisor_store (s : State) (x : Supervisor) : (s.setSupervisor x).store = s.store := rfl
@[simp] theorem setSupervisor_startUp (s : State) (x : Supervisor) : (s.setSupervisor x).startUp = s.startUp := rfl
@[simp] theorem setSupervisor_deferred (s : State) (x : Supervisor) : (s.setSupervisor x).deferred = s.deferred := rfl
@[simp] theorem setSupervisor_pending (s : State) (x : Supervisor) : (s.setSupervisor x).pending = s.pending := rfl

@[simp] theorem setLink_now (s : State) (x : LinkPort) : (s.setLink x).now = s.now := rfl
@[simp] theorem setLink_params (s : State) (x : LinkPort) : (s.setLink x).params = s.params := rfl
@[simp] theorem setLink_sensing (s : State) (x : LinkPort) : (s.setLink x).sensing = s.sensing := rfl
@[simp] theorem setLink_circuits (s : State) (x : LinkPort) : (s.setLink x).circuits = s.circuits := rfl
@[simp] theorem setLink_estimator (s : State) (x : LinkPort) : (s.setLink x).estimator = s.estimator := rfl
@[simp] theorem setLink_scheduler (s : State) (x : LinkPort) : (s.setLink x).scheduler = s.scheduler := rfl
@[simp] theorem setLink_engine (s : State) (x : LinkPort) : (s.setLink x).engine = s.engine := rfl
@[simp] theorem setLink_driver (s : State) (x : LinkPort) : (s.setLink x).driver = s.driver := rfl
@[simp] theorem setLink_height (s : State) (x : LinkPort) : (s.setLink x).height = s.height := rfl
@[simp] theorem setLink_lift (s : State) (x : LinkPort) : (s.setLink x).lift = s.lift := rfl
@[simp] theorem setLink_tyres (s : State) (x : LinkPort) : (s.setLink x).tyres = s.tyres := rfl
@[simp] theorem setLink_supervisor (s : State) (x : LinkPort) : (s.setLink x).supervisor = s.supervisor := rfl
@[simp] theorem setLink_link (s : State) (x : LinkPort) : (s.setLink x).link = x := rfl
@[simp] theorem setLink_events (s : State) (x : LinkPort) : (s.setLink x).events = s.events := rfl
@[simp] theorem setLink_store (s : State) (x : LinkPort) : (s.setLink x).store = s.store := rfl
@[simp] theorem setLink_startUp (s : State) (x : LinkPort) : (s.setLink x).startUp = s.startUp := rfl
@[simp] theorem setLink_deferred (s : State) (x : LinkPort) : (s.setLink x).deferred = s.deferred := rfl
@[simp] theorem setLink_pending (s : State) (x : LinkPort) : (s.setLink x).pending = s.pending := rfl

@[simp] theorem setEvents_now (s : State) (x : EventUnit) : (s.setEvents x).now = s.now := rfl
@[simp] theorem setEvents_params (s : State) (x : EventUnit) : (s.setEvents x).params = s.params := rfl
@[simp] theorem setEvents_sensing (s : State) (x : EventUnit) : (s.setEvents x).sensing = s.sensing := rfl
@[simp] theorem setEvents_circuits (s : State) (x : EventUnit) : (s.setEvents x).circuits = s.circuits := rfl
@[simp] theorem setEvents_estimator (s : State) (x : EventUnit) : (s.setEvents x).estimator = s.estimator := rfl
@[simp] theorem setEvents_scheduler (s : State) (x : EventUnit) : (s.setEvents x).scheduler = s.scheduler := rfl
@[simp] theorem setEvents_engine (s : State) (x : EventUnit) : (s.setEvents x).engine = s.engine := rfl
@[simp] theorem setEvents_driver (s : State) (x : EventUnit) : (s.setEvents x).driver = s.driver := rfl
@[simp] theorem setEvents_height (s : State) (x : EventUnit) : (s.setEvents x).height = s.height := rfl
@[simp] theorem setEvents_lift (s : State) (x : EventUnit) : (s.setEvents x).lift = s.lift := rfl
@[simp] theorem setEvents_tyres (s : State) (x : EventUnit) : (s.setEvents x).tyres = s.tyres := rfl
@[simp] theorem setEvents_supervisor (s : State) (x : EventUnit) : (s.setEvents x).supervisor = s.supervisor := rfl
@[simp] theorem setEvents_link (s : State) (x : EventUnit) : (s.setEvents x).link = s.link := rfl
@[simp] theorem setEvents_events (s : State) (x : EventUnit) : (s.setEvents x).events = x := rfl
@[simp] theorem setEvents_store (s : State) (x : EventUnit) : (s.setEvents x).store = s.store := rfl
@[simp] theorem setEvents_startUp (s : State) (x : EventUnit) : (s.setEvents x).startUp = s.startUp := rfl
@[simp] theorem setEvents_deferred (s : State) (x : EventUnit) : (s.setEvents x).deferred = s.deferred := rfl
@[simp] theorem setEvents_pending (s : State) (x : EventUnit) : (s.setEvents x).pending = s.pending := rfl

@[simp] theorem setStore_now (s : State) (x : ProfileStore) : (s.setStore x).now = s.now := rfl
@[simp] theorem setStore_params (s : State) (x : ProfileStore) : (s.setStore x).params = s.params := rfl
@[simp] theorem setStore_sensing (s : State) (x : ProfileStore) : (s.setStore x).sensing = s.sensing := rfl
@[simp] theorem setStore_circuits (s : State) (x : ProfileStore) : (s.setStore x).circuits = s.circuits := rfl
@[simp] theorem setStore_estimator (s : State) (x : ProfileStore) : (s.setStore x).estimator = s.estimator := rfl
@[simp] theorem setStore_scheduler (s : State) (x : ProfileStore) : (s.setStore x).scheduler = s.scheduler := rfl
@[simp] theorem setStore_engine (s : State) (x : ProfileStore) : (s.setStore x).engine = s.engine := rfl
@[simp] theorem setStore_driver (s : State) (x : ProfileStore) : (s.setStore x).driver = s.driver := rfl
@[simp] theorem setStore_height (s : State) (x : ProfileStore) : (s.setStore x).height = s.height := rfl
@[simp] theorem setStore_lift (s : State) (x : ProfileStore) : (s.setStore x).lift = s.lift := rfl
@[simp] theorem setStore_tyres (s : State) (x : ProfileStore) : (s.setStore x).tyres = s.tyres := rfl
@[simp] theorem setStore_supervisor (s : State) (x : ProfileStore) : (s.setStore x).supervisor = s.supervisor := rfl
@[simp] theorem setStore_link (s : State) (x : ProfileStore) : (s.setStore x).link = s.link := rfl
@[simp] theorem setStore_events (s : State) (x : ProfileStore) : (s.setStore x).events = s.events := rfl
@[simp] theorem setStore_store (s : State) (x : ProfileStore) : (s.setStore x).store = x := rfl
@[simp] theorem setStore_startUp (s : State) (x : ProfileStore) : (s.setStore x).startUp = s.startUp := rfl
@[simp] theorem setStore_deferred (s : State) (x : ProfileStore) : (s.setStore x).deferred = s.deferred := rfl
@[simp] theorem setStore_pending (s : State) (x : ProfileStore) : (s.setStore x).pending = s.pending := rfl

@[simp] theorem setStartUp_now (s : State) (x : StartUp) : (s.setStartUp x).now = s.now := rfl
@[simp] theorem setStartUp_params (s : State) (x : StartUp) : (s.setStartUp x).params = s.params := rfl
@[simp] theorem setStartUp_sensing (s : State) (x : StartUp) : (s.setStartUp x).sensing = s.sensing := rfl
@[simp] theorem setStartUp_circuits (s : State) (x : StartUp) : (s.setStartUp x).circuits = s.circuits := rfl
@[simp] theorem setStartUp_estimator (s : State) (x : StartUp) : (s.setStartUp x).estimator = s.estimator := rfl
@[simp] theorem setStartUp_scheduler (s : State) (x : StartUp) : (s.setStartUp x).scheduler = s.scheduler := rfl
@[simp] theorem setStartUp_engine (s : State) (x : StartUp) : (s.setStartUp x).engine = s.engine := rfl
@[simp] theorem setStartUp_driver (s : State) (x : StartUp) : (s.setStartUp x).driver = s.driver := rfl
@[simp] theorem setStartUp_height (s : State) (x : StartUp) : (s.setStartUp x).height = s.height := rfl
@[simp] theorem setStartUp_lift (s : State) (x : StartUp) : (s.setStartUp x).lift = s.lift := rfl
@[simp] theorem setStartUp_tyres (s : State) (x : StartUp) : (s.setStartUp x).tyres = s.tyres := rfl
@[simp] theorem setStartUp_supervisor (s : State) (x : StartUp) : (s.setStartUp x).supervisor = s.supervisor := rfl
@[simp] theorem setStartUp_link (s : State) (x : StartUp) : (s.setStartUp x).link = s.link := rfl
@[simp] theorem setStartUp_events (s : State) (x : StartUp) : (s.setStartUp x).events = s.events := rfl
@[simp] theorem setStartUp_store (s : State) (x : StartUp) : (s.setStartUp x).store = s.store := rfl
@[simp] theorem setStartUp_startUp (s : State) (x : StartUp) : (s.setStartUp x).startUp = x := rfl
@[simp] theorem setStartUp_deferred (s : State) (x : StartUp) : (s.setStartUp x).deferred = s.deferred := rfl
@[simp] theorem setStartUp_pending (s : State) (x : StartUp) : (s.setStartUp x).pending = s.pending := rfl

@[simp] theorem setDeferred_now (s : State) (x : List Deferred) : (s.setDeferred x).now = s.now := rfl
@[simp] theorem setDeferred_params (s : State) (x : List Deferred) : (s.setDeferred x).params = s.params := rfl
@[simp] theorem setDeferred_sensing (s : State) (x : List Deferred) : (s.setDeferred x).sensing = s.sensing := rfl
@[simp] theorem setDeferred_circuits (s : State) (x : List Deferred) : (s.setDeferred x).circuits = s.circuits := rfl
@[simp] theorem setDeferred_estimator (s : State) (x : List Deferred) : (s.setDeferred x).estimator = s.estimator := rfl
@[simp] theorem setDeferred_scheduler (s : State) (x : List Deferred) : (s.setDeferred x).scheduler = s.scheduler := rfl
@[simp] theorem setDeferred_engine (s : State) (x : List Deferred) : (s.setDeferred x).engine = s.engine := rfl
@[simp] theorem setDeferred_driver (s : State) (x : List Deferred) : (s.setDeferred x).driver = s.driver := rfl
@[simp] theorem setDeferred_height (s : State) (x : List Deferred) : (s.setDeferred x).height = s.height := rfl
@[simp] theorem setDeferred_lift (s : State) (x : List Deferred) : (s.setDeferred x).lift = s.lift := rfl
@[simp] theorem setDeferred_tyres (s : State) (x : List Deferred) : (s.setDeferred x).tyres = s.tyres := rfl
@[simp] theorem setDeferred_supervisor (s : State) (x : List Deferred) : (s.setDeferred x).supervisor = s.supervisor := rfl
@[simp] theorem setDeferred_link (s : State) (x : List Deferred) : (s.setDeferred x).link = s.link := rfl
@[simp] theorem setDeferred_events (s : State) (x : List Deferred) : (s.setDeferred x).events = s.events := rfl
@[simp] theorem setDeferred_store (s : State) (x : List Deferred) : (s.setDeferred x).store = s.store := rfl
@[simp] theorem setDeferred_startUp (s : State) (x : List Deferred) : (s.setDeferred x).startUp = s.startUp := rfl
@[simp] theorem setDeferred_deferred (s : State) (x : List Deferred) : (s.setDeferred x).deferred = x := rfl
@[simp] theorem setDeferred_pending (s : State) (x : List Deferred) : (s.setDeferred x).pending = s.pending := rfl

@[simp] theorem setPending_now (s : State) (x : List Instr) : (s.setPending x).now = s.now := rfl
@[simp] theorem setPending_params (s : State) (x : List Instr) : (s.setPending x).params = s.params := rfl
@[simp] theorem setPending_sensing (s : State) (x : List Instr) : (s.setPending x).sensing = s.sensing := rfl
@[simp] theorem setPending_circuits (s : State) (x : List Instr) : (s.setPending x).circuits = s.circuits := rfl
@[simp] theorem setPending_estimator (s : State) (x : List Instr) : (s.setPending x).estimator = s.estimator := rfl
@[simp] theorem setPending_scheduler (s : State) (x : List Instr) : (s.setPending x).scheduler = s.scheduler := rfl
@[simp] theorem setPending_engine (s : State) (x : List Instr) : (s.setPending x).engine = s.engine := rfl
@[simp] theorem setPending_driver (s : State) (x : List Instr) : (s.setPending x).driver = s.driver := rfl
@[simp] theorem setPending_height (s : State) (x : List Instr) : (s.setPending x).height = s.height := rfl
@[simp] theorem setPending_lift (s : State) (x : List Instr) : (s.setPending x).lift = s.lift := rfl
@[simp] theorem setPending_tyres (s : State) (x : List Instr) : (s.setPending x).tyres = s.tyres := rfl
@[simp] theorem setPending_supervisor (s : State) (x : List Instr) : (s.setPending x).supervisor = s.supervisor := rfl
@[simp] theorem setPending_link (s : State) (x : List Instr) : (s.setPending x).link = s.link := rfl
@[simp] theorem setPending_events (s : State) (x : List Instr) : (s.setPending x).events = s.events := rfl
@[simp] theorem setPending_store (s : State) (x : List Instr) : (s.setPending x).store = s.store := rfl
@[simp] theorem setPending_startUp (s : State) (x : List Instr) : (s.setPending x).startUp = s.startUp := rfl
@[simp] theorem setPending_deferred (s : State) (x : List Instr) : (s.setPending x).deferred = s.deferred := rfl
@[simp] theorem setPending_pending (s : State) (x : List Instr) : (s.setPending x).pending = x := rfl

@[simp] theorem setCircuit_now (s : State) (c : CircuitId) (r : CircuitRecord) : (s.setCircuit c r).now = s.now := rfl
@[simp] theorem setCircuit_params (s : State) (c : CircuitId) (r : CircuitRecord) : (s.setCircuit c r).params = s.params := rfl
@[simp] theorem setCircuit_sensing (s : State) (c : CircuitId) (r : CircuitRecord) : (s.setCircuit c r).sensing = s.sensing := rfl
@[simp] theorem setCircuit_estimator (s : State) (c : CircuitId) (r : CircuitRecord) : (s.setCircuit c r).estimator = s.estimator := rfl
@[simp] theorem setCircuit_scheduler (s : State) (c : CircuitId) (r : CircuitRecord) : (s.setCircuit c r).scheduler = s.scheduler := rfl
@[simp] theorem setCircuit_engine (s : State) (c : CircuitId) (r : CircuitRecord) : (s.setCircuit c r).engine = s.engine := rfl
@[simp] theorem setCircuit_driver (s : State) (c : CircuitId) (r : CircuitRecord) : (s.setCircuit c r).driver = s.driver := rfl
@[simp] theorem setCircuit_height (s : State) (c : CircuitId) (r : CircuitRecord) : (s.setCircuit c r).height = s.height := rfl
@[simp] theorem setCircuit_lift (s : State) (c : CircuitId) (r : CircuitRecord) : (s.setCircuit c r).lift = s.lift := rfl
@[simp] theorem setCircuit_tyres (s : State) (c : CircuitId) (r : CircuitRecord) : (s.setCircuit c r).tyres = s.tyres := rfl
@[simp] theorem setCircuit_supervisor (s : State) (c : CircuitId) (r : CircuitRecord) : (s.setCircuit c r).supervisor = s.supervisor := rfl
@[simp] theorem setCircuit_link (s : State) (c : CircuitId) (r : CircuitRecord) : (s.setCircuit c r).link = s.link := rfl
@[simp] theorem setCircuit_events (s : State) (c : CircuitId) (r : CircuitRecord) : (s.setCircuit c r).events = s.events := rfl
@[simp] theorem setCircuit_store (s : State) (c : CircuitId) (r : CircuitRecord) : (s.setCircuit c r).store = s.store := rfl
@[simp] theorem setCircuit_startUp (s : State) (c : CircuitId) (r : CircuitRecord) : (s.setCircuit c r).startUp = s.startUp := rfl
@[simp] theorem setCircuit_deferred (s : State) (c : CircuitId) (r : CircuitRecord) : (s.setCircuit c r).deferred = s.deferred := rfl
@[simp] theorem setCircuit_pending (s : State) (c : CircuitId) (r : CircuitRecord) : (s.setCircuit c r).pending = s.pending := rfl

@[simp] theorem setTyre_now (s : State) (t : TyreId) (x : TyreItems) : (s.setTyre t x).now = s.now := rfl
@[simp] theorem setTyre_params (s : State) (t : TyreId) (x : TyreItems) : (s.setTyre t x).params = s.params := rfl
@[simp] theorem setTyre_sensing (s : State) (t : TyreId) (x : TyreItems) : (s.setTyre t x).sensing = s.sensing := rfl
@[simp] theorem setTyre_circuits (s : State) (t : TyreId) (x : TyreItems) : (s.setTyre t x).circuits = s.circuits := rfl
@[simp] theorem setTyre_estimator (s : State) (t : TyreId) (x : TyreItems) : (s.setTyre t x).estimator = s.estimator := rfl
@[simp] theorem setTyre_scheduler (s : State) (t : TyreId) (x : TyreItems) : (s.setTyre t x).scheduler = s.scheduler := rfl
@[simp] theorem setTyre_engine (s : State) (t : TyreId) (x : TyreItems) : (s.setTyre t x).engine = s.engine := rfl
@[simp] theorem setTyre_driver (s : State) (t : TyreId) (x : TyreItems) : (s.setTyre t x).driver = s.driver := rfl
@[simp] theorem setTyre_height (s : State) (t : TyreId) (x : TyreItems) : (s.setTyre t x).height = s.height := rfl
@[simp] theorem setTyre_lift (s : State) (t : TyreId) (x : TyreItems) : (s.setTyre t x).lift = s.lift := rfl
@[simp] theorem setTyre_supervisor (s : State) (t : TyreId) (x : TyreItems) : (s.setTyre t x).supervisor = s.supervisor := rfl
@[simp] theorem setTyre_link (s : State) (t : TyreId) (x : TyreItems) : (s.setTyre t x).link = s.link := rfl
@[simp] theorem setTyre_events (s : State) (t : TyreId) (x : TyreItems) : (s.setTyre t x).events = s.events := rfl
@[simp] theorem setTyre_store (s : State) (t : TyreId) (x : TyreItems) : (s.setTyre t x).store = s.store := rfl
@[simp] theorem setTyre_startUp (s : State) (t : TyreId) (x : TyreItems) : (s.setTyre t x).startUp = s.startUp := rfl
@[simp] theorem setTyre_deferred (s : State) (t : TyreId) (x : TyreItems) : (s.setTyre t x).deferred = s.deferred := rfl
@[simp] theorem setTyre_pending (s : State) (t : TyreId) (x : TyreItems) : (s.setTyre t x).pending = s.pending := rfl

@[simp] theorem setValve_now (s : State) (v : ValveId) (x : Valve) : (s.setValve v x).now = s.now := rfl
@[simp] theorem setValve_params (s : State) (v : ValveId) (x : Valve) : (s.setValve v x).params = s.params := rfl
@[simp] theorem setValve_sensing (s : State) (v : ValveId) (x : Valve) : (s.setValve v x).sensing = s.sensing := rfl
@[simp] theorem setValve_circuits (s : State) (v : ValveId) (x : Valve) : (s.setValve v x).circuits = s.circuits := rfl
@[simp] theorem setValve_estimator (s : State) (v : ValveId) (x : Valve) : (s.setValve v x).estimator = s.estimator := rfl
@[simp] theorem setValve_scheduler (s : State) (v : ValveId) (x : Valve) : (s.setValve v x).scheduler = s.scheduler := rfl
@[simp] theorem setValve_engine (s : State) (v : ValveId) (x : Valve) : (s.setValve v x).engine = s.engine := rfl
@[simp] theorem setValve_height (s : State) (v : ValveId) (x : Valve) : (s.setValve v x).height = s.height := rfl
@[simp] theorem setValve_lift (s : State) (v : ValveId) (x : Valve) : (s.setValve v x).lift = s.lift := rfl
@[simp] theorem setValve_tyres (s : State) (v : ValveId) (x : Valve) : (s.setValve v x).tyres = s.tyres := rfl
@[simp] theorem setValve_supervisor (s : State) (v : ValveId) (x : Valve) : (s.setValve v x).supervisor = s.supervisor := rfl
@[simp] theorem setValve_link (s : State) (v : ValveId) (x : Valve) : (s.setValve v x).link = s.link := rfl
@[simp] theorem setValve_events (s : State) (v : ValveId) (x : Valve) : (s.setValve v x).events = s.events := rfl
@[simp] theorem setValve_store (s : State) (v : ValveId) (x : Valve) : (s.setValve v x).store = s.store := rfl
@[simp] theorem setValve_startUp (s : State) (v : ValveId) (x : Valve) : (s.setValve v x).startUp = s.startUp := rfl
@[simp] theorem setValve_deferred (s : State) (v : ValveId) (x : Valve) : (s.setValve v x).deferred = s.deferred := rfl
@[simp] theorem setValve_pending (s : State) (v : ValveId) (x : Valve) : (s.setValve v x).pending = s.pending := rfl

@[simp] theorem setIsolation_now (s : State) (x : IsolationValve) : (s.setIsolation x).now = s.now := rfl
@[simp] theorem setIsolation_params (s : State) (x : IsolationValve) : (s.setIsolation x).params = s.params := rfl
@[simp] theorem setIsolation_sensing (s : State) (x : IsolationValve) : (s.setIsolation x).sensing = s.sensing := rfl
@[simp] theorem setIsolation_circuits (s : State) (x : IsolationValve) : (s.setIsolation x).circuits = s.circuits := rfl
@[simp] theorem setIsolation_estimator (s : State) (x : IsolationValve) : (s.setIsolation x).estimator = s.estimator := rfl
@[simp] theorem setIsolation_scheduler (s : State) (x : IsolationValve) : (s.setIsolation x).scheduler = s.scheduler := rfl
@[simp] theorem setIsolation_engine (s : State) (x : IsolationValve) : (s.setIsolation x).engine = s.engine := rfl
@[simp] theorem setIsolation_height (s : State) (x : IsolationValve) : (s.setIsolation x).height = s.height := rfl
@[simp] theorem setIsolation_lift (s : State) (x : IsolationValve) : (s.setIsolation x).lift = s.lift := rfl
@[simp] theorem setIsolation_tyres (s : State) (x : IsolationValve) : (s.setIsolation x).tyres = s.tyres := rfl
@[simp] theorem setIsolation_supervisor (s : State) (x : IsolationValve) : (s.setIsolation x).supervisor = s.supervisor := rfl
@[simp] theorem setIsolation_link (s : State) (x : IsolationValve) : (s.setIsolation x).link = s.link := rfl
@[simp] theorem setIsolation_events (s : State) (x : IsolationValve) : (s.setIsolation x).events = s.events := rfl
@[simp] theorem setIsolation_store (s : State) (x : IsolationValve) : (s.setIsolation x).store = s.store := rfl
@[simp] theorem setIsolation_startUp (s : State) (x : IsolationValve) : (s.setIsolation x).startUp = s.startUp := rfl
@[simp] theorem setIsolation_deferred (s : State) (x : IsolationValve) : (s.setIsolation x).deferred = s.deferred := rfl
@[simp] theorem setIsolation_pending (s : State) (x : IsolationValve) : (s.setIsolation x).pending = s.pending := rfl

@[simp] theorem setChannel_now (s : State) (ch : Channel) (x : AnalogChannel) : (s.setChannel ch x).now = s.now := rfl
@[simp] theorem setChannel_params (s : State) (ch : Channel) (x : AnalogChannel) : (s.setChannel ch x).params = s.params := rfl
@[simp] theorem setChannel_circuits (s : State) (ch : Channel) (x : AnalogChannel) : (s.setChannel ch x).circuits = s.circuits := rfl
@[simp] theorem setChannel_estimator (s : State) (ch : Channel) (x : AnalogChannel) : (s.setChannel ch x).estimator = s.estimator := rfl
@[simp] theorem setChannel_scheduler (s : State) (ch : Channel) (x : AnalogChannel) : (s.setChannel ch x).scheduler = s.scheduler := rfl
@[simp] theorem setChannel_engine (s : State) (ch : Channel) (x : AnalogChannel) : (s.setChannel ch x).engine = s.engine := rfl
@[simp] theorem setChannel_driver (s : State) (ch : Channel) (x : AnalogChannel) : (s.setChannel ch x).driver = s.driver := rfl
@[simp] theorem setChannel_height (s : State) (ch : Channel) (x : AnalogChannel) : (s.setChannel ch x).height = s.height := rfl
@[simp] theorem setChannel_lift (s : State) (ch : Channel) (x : AnalogChannel) : (s.setChannel ch x).lift = s.lift := rfl
@[simp] theorem setChannel_tyres (s : State) (ch : Channel) (x : AnalogChannel) : (s.setChannel ch x).tyres = s.tyres := rfl
@[simp] theorem setChannel_supervisor (s : State) (ch : Channel) (x : AnalogChannel) : (s.setChannel ch x).supervisor = s.supervisor := rfl
@[simp] theorem setChannel_link (s : State) (ch : Channel) (x : AnalogChannel) : (s.setChannel ch x).link = s.link := rfl
@[simp] theorem setChannel_events (s : State) (ch : Channel) (x : AnalogChannel) : (s.setChannel ch x).events = s.events := rfl
@[simp] theorem setChannel_store (s : State) (ch : Channel) (x : AnalogChannel) : (s.setChannel ch x).store = s.store := rfl
@[simp] theorem setChannel_startUp (s : State) (ch : Channel) (x : AnalogChannel) : (s.setChannel ch x).startUp = s.startUp := rfl
@[simp] theorem setChannel_deferred (s : State) (ch : Channel) (x : AnalogChannel) : (s.setChannel ch x).deferred = s.deferred := rfl
@[simp] theorem setChannel_pending (s : State) (ch : Channel) (x : AnalogChannel) : (s.setChannel ch x).pending = s.pending := rfl

@[simp] theorem setComparator_now (s : State) (k : ComparatorId) (x : Comparator) : (s.setComparator k x).now = s.now := rfl
@[simp] theorem setComparator_params (s : State) (k : ComparatorId) (x : Comparator) : (s.setComparator k x).params = s.params := rfl
@[simp] theorem setComparator_circuits (s : State) (k : ComparatorId) (x : Comparator) : (s.setComparator k x).circuits = s.circuits := rfl
@[simp] theorem setComparator_estimator (s : State) (k : ComparatorId) (x : Comparator) : (s.setComparator k x).estimator = s.estimator := rfl
@[simp] theorem setComparator_scheduler (s : State) (k : ComparatorId) (x : Comparator) : (s.setComparator k x).scheduler = s.scheduler := rfl
@[simp] theorem setComparator_engine (s : State) (k : ComparatorId) (x : Comparator) : (s.setComparator k x).engine = s.engine := rfl
@[simp] theorem setComparator_driver (s : State) (k : ComparatorId) (x : Comparator) : (s.setComparator k x).driver = s.driver := rfl
@[simp] theorem setComparator_height (s : State) (k : ComparatorId) (x : Comparator) : (s.setComparator k x).height = s.height := rfl
@[simp] theorem setComparator_lift (s : State) (k : ComparatorId) (x : Comparator) : (s.setComparator k x).lift = s.lift := rfl
@[simp] theorem setComparator_tyres (s : State) (k : ComparatorId) (x : Comparator) : (s.setComparator k x).tyres = s.tyres := rfl
@[simp] theorem setComparator_supervisor (s : State) (k : ComparatorId) (x : Comparator) : (s.setComparator k x).supervisor = s.supervisor := rfl
@[simp] theorem setComparator_link (s : State) (k : ComparatorId) (x : Comparator) : (s.setComparator k x).link = s.link := rfl
@[simp] theorem setComparator_events (s : State) (k : ComparatorId) (x : Comparator) : (s.setComparator k x).events = s.events := rfl
@[simp] theorem setComparator_store (s : State) (k : ComparatorId) (x : Comparator) : (s.setComparator k x).store = s.store := rfl
@[simp] theorem setComparator_startUp (s : State) (k : ComparatorId) (x : Comparator) : (s.setComparator k x).startUp = s.startUp := rfl
@[simp] theorem setComparator_deferred (s : State) (k : ComparatorId) (x : Comparator) : (s.setComparator k x).deferred = s.deferred := rfl
@[simp] theorem setComparator_pending (s : State) (k : ComparatorId) (x : Comparator) : (s.setComparator k x).pending = s.pending := rfl

@[simp] theorem setSideRecord_now (s : State) (side : Side) (r : SideRecord) : (s.setSideRecord side r).now = s.now := rfl
@[simp] theorem setSideRecord_params (s : State) (side : Side) (r : SideRecord) : (s.setSideRecord side r).params = s.params := rfl
@[simp] theorem setSideRecord_sensing (s : State) (side : Side) (r : SideRecord) : (s.setSideRecord side r).sensing = s.sensing := rfl
@[simp] theorem setSideRecord_circuits (s : State) (side : Side) (r : SideRecord) : (s.setSideRecord side r).circuits = s.circuits := rfl
@[simp] theorem setSideRecord_scheduler (s : State) (side : Side) (r : SideRecord) : (s.setSideRecord side r).scheduler = s.scheduler := rfl
@[simp] theorem setSideRecord_engine (s : State) (side : Side) (r : SideRecord) : (s.setSideRecord side r).engine = s.engine := rfl
@[simp] theorem setSideRecord_driver (s : State) (side : Side) (r : SideRecord) : (s.setSideRecord side r).driver = s.driver := rfl
@[simp] theorem setSideRecord_height (s : State) (side : Side) (r : SideRecord) : (s.setSideRecord side r).height = s.height := rfl
@[simp] theorem setSideRecord_lift (s : State) (side : Side) (r : SideRecord) : (s.setSideRecord side r).lift = s.lift := rfl
@[simp] theorem setSideRecord_tyres (s : State) (side : Side) (r : SideRecord) : (s.setSideRecord side r).tyres = s.tyres := rfl
@[simp] theorem setSideRecord_supervisor (s : State) (side : Side) (r : SideRecord) : (s.setSideRecord side r).supervisor = s.supervisor := rfl
@[simp] theorem setSideRecord_link (s : State) (side : Side) (r : SideRecord) : (s.setSideRecord side r).link = s.link := rfl
@[simp] theorem setSideRecord_events (s : State) (side : Side) (r : SideRecord) : (s.setSideRecord side r).events = s.events := rfl
@[simp] theorem setSideRecord_store (s : State) (side : Side) (r : SideRecord) : (s.setSideRecord side r).store = s.store := rfl
@[simp] theorem setSideRecord_startUp (s : State) (side : Side) (r : SideRecord) : (s.setSideRecord side r).startUp = s.startUp := rfl
@[simp] theorem setSideRecord_deferred (s : State) (side : Side) (r : SideRecord) : (s.setSideRecord side r).deferred = s.deferred := rfl
@[simp] theorem setSideRecord_pending (s : State) (side : Side) (r : SideRecord) : (s.setSideRecord side r).pending = s.pending := rfl

@[simp] theorem setAllowance_now (s : State) (b : Bool) : (s.setAllowance b).now = s.now := rfl
@[simp] theorem setAllowance_params (s : State) (b : Bool) : (s.setAllowance b).params = s.params := rfl
@[simp] theorem setAllowance_sensing (s : State) (b : Bool) : (s.setAllowance b).sensing = s.sensing := rfl
@[simp] theorem setAllowance_circuits (s : State) (b : Bool) : (s.setAllowance b).circuits = s.circuits := rfl
@[simp] theorem setAllowance_scheduler (s : State) (b : Bool) : (s.setAllowance b).scheduler = s.scheduler := rfl
@[simp] theorem setAllowance_engine (s : State) (b : Bool) : (s.setAllowance b).engine = s.engine := rfl
@[simp] theorem setAllowance_driver (s : State) (b : Bool) : (s.setAllowance b).driver = s.driver := rfl
@[simp] theorem setAllowance_height (s : State) (b : Bool) : (s.setAllowance b).height = s.height := rfl
@[simp] theorem setAllowance_lift (s : State) (b : Bool) : (s.setAllowance b).lift = s.lift := rfl
@[simp] theorem setAllowance_tyres (s : State) (b : Bool) : (s.setAllowance b).tyres = s.tyres := rfl
@[simp] theorem setAllowance_supervisor (s : State) (b : Bool) : (s.setAllowance b).supervisor = s.supervisor := rfl
@[simp] theorem setAllowance_link (s : State) (b : Bool) : (s.setAllowance b).link = s.link := rfl
@[simp] theorem setAllowance_events (s : State) (b : Bool) : (s.setAllowance b).events = s.events := rfl
@[simp] theorem setAllowance_store (s : State) (b : Bool) : (s.setAllowance b).store = s.store := rfl
@[simp] theorem setAllowance_startUp (s : State) (b : Bool) : (s.setAllowance b).startUp = s.startUp := rfl
@[simp] theorem setAllowance_deferred (s : State) (b : Bool) : (s.setAllowance b).deferred = s.deferred := rfl
@[simp] theorem setAllowance_pending (s : State) (b : Bool) : (s.setAllowance b).pending = s.pending := rfl

@[simp] theorem setSideControl_now (s : State) (side : Side) (x : SideControl) : (s.setSideControl side x).now = s.now := rfl
@[simp] theorem setSideControl_params (s : State) (side : Side) (x : SideControl) : (s.setSideControl side x).params = s.params := rfl
@[simp] theorem setSideControl_sensing (s : State) (side : Side) (x : SideControl) : (s.setSideControl side x).sensing = s.sensing := rfl
@[simp] theorem setSideControl_circuits (s : State) (side : Side) (x : SideControl) : (s.setSideControl side x).circuits = s.circuits := rfl
@[simp] theorem setSideControl_estimator (s : State) (side : Side) (x : SideControl) : (s.setSideControl side x).estimator = s.estimator := rfl
@[simp] theorem setSideControl_scheduler (s : State) (side : Side) (x : SideControl) : (s.setSideControl side x).scheduler = s.scheduler := rfl
@[simp] theorem setSideControl_engine (s : State) (side : Side) (x : SideControl) : (s.setSideControl side x).engine = s.engine := rfl
@[simp] theorem setSideControl_driver (s : State) (side : Side) (x : SideControl) : (s.setSideControl side x).driver = s.driver := rfl
@[simp] theorem setSideControl_lift (s : State) (side : Side) (x : SideControl) : (s.setSideControl side x).lift = s.lift := rfl
@[simp] theorem setSideControl_tyres (s : State) (side : Side) (x : SideControl) : (s.setSideControl side x).tyres = s.tyres := rfl
@[simp] theorem setSideControl_supervisor (s : State) (side : Side) (x : SideControl) : (s.setSideControl side x).supervisor = s.supervisor := rfl
@[simp] theorem setSideControl_link (s : State) (side : Side) (x : SideControl) : (s.setSideControl side x).link = s.link := rfl
@[simp] theorem setSideControl_events (s : State) (side : Side) (x : SideControl) : (s.setSideControl side x).events = s.events := rfl
@[simp] theorem setSideControl_store (s : State) (side : Side) (x : SideControl) : (s.setSideControl side x).store = s.store := rfl
@[simp] theorem setSideControl_startUp (s : State) (side : Side) (x : SideControl) : (s.setSideControl side x).startUp = s.startUp := rfl
@[simp] theorem setSideControl_deferred (s : State) (side : Side) (x : SideControl) : (s.setSideControl side x).deferred = s.deferred := rfl
@[simp] theorem setSideControl_pending (s : State) (side : Side) (x : SideControl) : (s.setSideControl side x).pending = s.pending := rfl

@[simp] theorem setTransaction_now (s : State) (t : Transaction) : (s.setTransaction t).now = s.now := rfl
@[simp] theorem setTransaction_params (s : State) (t : Transaction) : (s.setTransaction t).params = s.params := rfl
@[simp] theorem setTransaction_sensing (s : State) (t : Transaction) : (s.setTransaction t).sensing = s.sensing := rfl
@[simp] theorem setTransaction_circuits (s : State) (t : Transaction) : (s.setTransaction t).circuits = s.circuits := rfl
@[simp] theorem setTransaction_estimator (s : State) (t : Transaction) : (s.setTransaction t).estimator = s.estimator := rfl
@[simp] theorem setTransaction_scheduler (s : State) (t : Transaction) : (s.setTransaction t).scheduler = s.scheduler := rfl
@[simp] theorem setTransaction_driver (s : State) (t : Transaction) : (s.setTransaction t).driver = s.driver := rfl
@[simp] theorem setTransaction_height (s : State) (t : Transaction) : (s.setTransaction t).height = s.height := rfl
@[simp] theorem setTransaction_lift (s : State) (t : Transaction) : (s.setTransaction t).lift = s.lift := rfl
@[simp] theorem setTransaction_tyres (s : State) (t : Transaction) : (s.setTransaction t).tyres = s.tyres := rfl
@[simp] theorem setTransaction_supervisor (s : State) (t : Transaction) : (s.setTransaction t).supervisor = s.supervisor := rfl
@[simp] theorem setTransaction_link (s : State) (t : Transaction) : (s.setTransaction t).link = s.link := rfl
@[simp] theorem setTransaction_events (s : State) (t : Transaction) : (s.setTransaction t).events = s.events := rfl
@[simp] theorem setTransaction_store (s : State) (t : Transaction) : (s.setTransaction t).store = s.store := rfl
@[simp] theorem setTransaction_startUp (s : State) (t : Transaction) : (s.setTransaction t).startUp = s.startUp := rfl
@[simp] theorem setTransaction_deferred (s : State) (t : Transaction) : (s.setTransaction t).deferred = s.deferred := rfl
@[simp] theorem setTransaction_pending (s : State) (t : Transaction) : (s.setTransaction t).pending = s.pending := rfl

@[simp] theorem setDemands_now (s : State) (ds : List Demand) : (s.setDemands ds).now = s.now := rfl
@[simp] theorem setDemands_params (s : State) (ds : List Demand) : (s.setDemands ds).params = s.params := rfl
@[simp] theorem setDemands_sensing (s : State) (ds : List Demand) : (s.setDemands ds).sensing = s.sensing := rfl
@[simp] theorem setDemands_circuits (s : State) (ds : List Demand) : (s.setDemands ds).circuits = s.circuits := rfl
@[simp] theorem setDemands_estimator (s : State) (ds : List Demand) : (s.setDemands ds).estimator = s.estimator := rfl
@[simp] theorem setDemands_engine (s : State) (ds : List Demand) : (s.setDemands ds).engine = s.engine := rfl
@[simp] theorem setDemands_driver (s : State) (ds : List Demand) : (s.setDemands ds).driver = s.driver := rfl
@[simp] theorem setDemands_height (s : State) (ds : List Demand) : (s.setDemands ds).height = s.height := rfl
@[simp] theorem setDemands_lift (s : State) (ds : List Demand) : (s.setDemands ds).lift = s.lift := rfl
@[simp] theorem setDemands_tyres (s : State) (ds : List Demand) : (s.setDemands ds).tyres = s.tyres := rfl
@[simp] theorem setDemands_supervisor (s : State) (ds : List Demand) : (s.setDemands ds).supervisor = s.supervisor := rfl
@[simp] theorem setDemands_link (s : State) (ds : List Demand) : (s.setDemands ds).link = s.link := rfl
@[simp] theorem setDemands_events (s : State) (ds : List Demand) : (s.setDemands ds).events = s.events := rfl
@[simp] theorem setDemands_store (s : State) (ds : List Demand) : (s.setDemands ds).store = s.store := rfl
@[simp] theorem setDemands_startUp (s : State) (ds : List Demand) : (s.setDemands ds).startUp = s.startUp := rfl
@[simp] theorem setDemands_deferred (s : State) (ds : List Demand) : (s.setDemands ds).deferred = s.deferred := rfl
@[simp] theorem setDemands_pending (s : State) (ds : List Demand) : (s.setDemands ds).pending = s.pending := rfl

@[simp] theorem removeDemand_now (s : State) (c : CircuitId) : (s.removeDemand c).now = s.now := rfl
@[simp] theorem removeDemand_params (s : State) (c : CircuitId) : (s.removeDemand c).params = s.params := rfl
@[simp] theorem removeDemand_sensing (s : State) (c : CircuitId) : (s.removeDemand c).sensing = s.sensing := rfl
@[simp] theorem removeDemand_circuits (s : State) (c : CircuitId) : (s.removeDemand c).circuits = s.circuits := rfl
@[simp] theorem removeDemand_estimator (s : State) (c : CircuitId) : (s.removeDemand c).estimator = s.estimator := rfl
@[simp] theorem removeDemand_engine (s : State) (c : CircuitId) : (s.removeDemand c).engine = s.engine := rfl
@[simp] theorem removeDemand_driver (s : State) (c : CircuitId) : (s.removeDemand c).driver = s.driver := rfl
@[simp] theorem removeDemand_height (s : State) (c : CircuitId) : (s.removeDemand c).height = s.height := rfl
@[simp] theorem removeDemand_lift (s : State) (c : CircuitId) : (s.removeDemand c).lift = s.lift := rfl
@[simp] theorem removeDemand_tyres (s : State) (c : CircuitId) : (s.removeDemand c).tyres = s.tyres := rfl
@[simp] theorem removeDemand_supervisor (s : State) (c : CircuitId) : (s.removeDemand c).supervisor = s.supervisor := rfl
@[simp] theorem removeDemand_link (s : State) (c : CircuitId) : (s.removeDemand c).link = s.link := rfl
@[simp] theorem removeDemand_events (s : State) (c : CircuitId) : (s.removeDemand c).events = s.events := rfl
@[simp] theorem removeDemand_store (s : State) (c : CircuitId) : (s.removeDemand c).store = s.store := rfl
@[simp] theorem removeDemand_startUp (s : State) (c : CircuitId) : (s.removeDemand c).startUp = s.startUp := rfl
@[simp] theorem removeDemand_deferred (s : State) (c : CircuitId) : (s.removeDemand c).deferred = s.deferred := rfl
@[simp] theorem removeDemand_pending (s : State) (c : CircuitId) : (s.removeDemand c).pending = s.pending := rfl

@[simp] theorem setReason_now (s : State) (c : CircuitId) (r : WaitReason) : (s.setReason c r).now = s.now := rfl
@[simp] theorem setReason_params (s : State) (c : CircuitId) (r : WaitReason) : (s.setReason c r).params = s.params := rfl
@[simp] theorem setReason_sensing (s : State) (c : CircuitId) (r : WaitReason) : (s.setReason c r).sensing = s.sensing := rfl
@[simp] theorem setReason_circuits (s : State) (c : CircuitId) (r : WaitReason) : (s.setReason c r).circuits = s.circuits := rfl
@[simp] theorem setReason_estimator (s : State) (c : CircuitId) (r : WaitReason) : (s.setReason c r).estimator = s.estimator := rfl
@[simp] theorem setReason_engine (s : State) (c : CircuitId) (r : WaitReason) : (s.setReason c r).engine = s.engine := rfl
@[simp] theorem setReason_driver (s : State) (c : CircuitId) (r : WaitReason) : (s.setReason c r).driver = s.driver := rfl
@[simp] theorem setReason_height (s : State) (c : CircuitId) (r : WaitReason) : (s.setReason c r).height = s.height := rfl
@[simp] theorem setReason_lift (s : State) (c : CircuitId) (r : WaitReason) : (s.setReason c r).lift = s.lift := rfl
@[simp] theorem setReason_tyres (s : State) (c : CircuitId) (r : WaitReason) : (s.setReason c r).tyres = s.tyres := rfl
@[simp] theorem setReason_supervisor (s : State) (c : CircuitId) (r : WaitReason) : (s.setReason c r).supervisor = s.supervisor := rfl
@[simp] theorem setReason_link (s : State) (c : CircuitId) (r : WaitReason) : (s.setReason c r).link = s.link := rfl
@[simp] theorem setReason_events (s : State) (c : CircuitId) (r : WaitReason) : (s.setReason c r).events = s.events := rfl
@[simp] theorem setReason_store (s : State) (c : CircuitId) (r : WaitReason) : (s.setReason c r).store = s.store := rfl
@[simp] theorem setReason_startUp (s : State) (c : CircuitId) (r : WaitReason) : (s.setReason c r).startUp = s.startUp := rfl
@[simp] theorem setReason_deferred (s : State) (c : CircuitId) (r : WaitReason) : (s.setReason c r).deferred = s.deferred := rfl
@[simp] theorem setReason_pending (s : State) (c : CircuitId) (r : WaitReason) : (s.setReason c r).pending = s.pending := rfl

@[simp] theorem freeResources_now (s : State) (c : CircuitId) (b g : Bool) : (s.freeResources c b g).now = s.now := rfl
@[simp] theorem freeResources_params (s : State) (c : CircuitId) (b g : Bool) : (s.freeResources c b g).params = s.params := rfl
@[simp] theorem freeResources_sensing (s : State) (c : CircuitId) (b g : Bool) : (s.freeResources c b g).sensing = s.sensing := rfl
@[simp] theorem freeResources_circuits (s : State) (c : CircuitId) (b g : Bool) : (s.freeResources c b g).circuits = s.circuits := rfl
@[simp] theorem freeResources_estimator (s : State) (c : CircuitId) (b g : Bool) : (s.freeResources c b g).estimator = s.estimator := rfl
@[simp] theorem freeResources_engine (s : State) (c : CircuitId) (b g : Bool) : (s.freeResources c b g).engine = s.engine := rfl
@[simp] theorem freeResources_driver (s : State) (c : CircuitId) (b g : Bool) : (s.freeResources c b g).driver = s.driver := rfl
@[simp] theorem freeResources_height (s : State) (c : CircuitId) (b g : Bool) : (s.freeResources c b g).height = s.height := rfl
@[simp] theorem freeResources_lift (s : State) (c : CircuitId) (b g : Bool) : (s.freeResources c b g).lift = s.lift := rfl
@[simp] theorem freeResources_tyres (s : State) (c : CircuitId) (b g : Bool) : (s.freeResources c b g).tyres = s.tyres := rfl
@[simp] theorem freeResources_supervisor (s : State) (c : CircuitId) (b g : Bool) : (s.freeResources c b g).supervisor = s.supervisor := rfl
@[simp] theorem freeResources_link (s : State) (c : CircuitId) (b g : Bool) : (s.freeResources c b g).link = s.link := rfl
@[simp] theorem freeResources_events (s : State) (c : CircuitId) (b g : Bool) : (s.freeResources c b g).events = s.events := rfl
@[simp] theorem freeResources_store (s : State) (c : CircuitId) (b g : Bool) : (s.freeResources c b g).store = s.store := rfl
@[simp] theorem freeResources_startUp (s : State) (c : CircuitId) (b g : Bool) : (s.freeResources c b g).startUp = s.startUp := rfl
@[simp] theorem freeResources_deferred (s : State) (c : CircuitId) (b g : Bool) : (s.freeResources c b g).deferred = s.deferred := rfl
@[simp] theorem freeResources_pending (s : State) (c : CircuitId) (b g : Bool) : (s.freeResources c b g).pending = s.pending := rfl

@[simp] theorem setCircuitState_now (s : State) (c : CircuitId) (st : CircuitState) : (s.setCircuitState c st).now = s.now := rfl
@[simp] theorem setCircuitState_params (s : State) (c : CircuitId) (st : CircuitState) : (s.setCircuitState c st).params = s.params := rfl
@[simp] theorem setCircuitState_sensing (s : State) (c : CircuitId) (st : CircuitState) : (s.setCircuitState c st).sensing = s.sensing := rfl
@[simp] theorem setCircuitState_estimator (s : State) (c : CircuitId) (st : CircuitState) : (s.setCircuitState c st).estimator = s.estimator := rfl
@[simp] theorem setCircuitState_scheduler (s : State) (c : CircuitId) (st : CircuitState) : (s.setCircuitState c st).scheduler = s.scheduler := rfl
@[simp] theorem setCircuitState_engine (s : State) (c : CircuitId) (st : CircuitState) : (s.setCircuitState c st).engine = s.engine := rfl
@[simp] theorem setCircuitState_driver (s : State) (c : CircuitId) (st : CircuitState) : (s.setCircuitState c st).driver = s.driver := rfl
@[simp] theorem setCircuitState_height (s : State) (c : CircuitId) (st : CircuitState) : (s.setCircuitState c st).height = s.height := rfl
@[simp] theorem setCircuitState_lift (s : State) (c : CircuitId) (st : CircuitState) : (s.setCircuitState c st).lift = s.lift := rfl
@[simp] theorem setCircuitState_tyres (s : State) (c : CircuitId) (st : CircuitState) : (s.setCircuitState c st).tyres = s.tyres := rfl
@[simp] theorem setCircuitState_supervisor (s : State) (c : CircuitId) (st : CircuitState) : (s.setCircuitState c st).supervisor = s.supervisor := rfl
@[simp] theorem setCircuitState_link (s : State) (c : CircuitId) (st : CircuitState) : (s.setCircuitState c st).link = s.link := rfl
@[simp] theorem setCircuitState_events (s : State) (c : CircuitId) (st : CircuitState) : (s.setCircuitState c st).events = s.events := rfl
@[simp] theorem setCircuitState_store (s : State) (c : CircuitId) (st : CircuitState) : (s.setCircuitState c st).store = s.store := rfl
@[simp] theorem setCircuitState_startUp (s : State) (c : CircuitId) (st : CircuitState) : (s.setCircuitState c st).startUp = s.startUp := rfl
@[simp] theorem setCircuitState_deferred (s : State) (c : CircuitId) (st : CircuitState) : (s.setCircuitState c st).deferred = s.deferred := rfl
@[simp] theorem setCircuitState_pending (s : State) (c : CircuitId) (st : CircuitState) : (s.setCircuitState c st).pending = s.pending := rfl

@[simp] theorem setControl_now (s : State) (c : ControlState) : (s.setControl c).now = s.now := rfl
@[simp] theorem setControl_params (s : State) (c : ControlState) : (s.setControl c).params = s.params := rfl
@[simp] theorem setControl_sensing (s : State) (c : ControlState) : (s.setControl c).sensing = s.sensing := rfl
@[simp] theorem setControl_circuits (s : State) (c : ControlState) : (s.setControl c).circuits = s.circuits := rfl
@[simp] theorem setControl_estimator (s : State) (c : ControlState) : (s.setControl c).estimator = s.estimator := rfl
@[simp] theorem setControl_scheduler (s : State) (c : ControlState) : (s.setControl c).scheduler = s.scheduler := rfl
@[simp] theorem setControl_engine (s : State) (c : ControlState) : (s.setControl c).engine = s.engine := rfl
@[simp] theorem setControl_driver (s : State) (c : ControlState) : (s.setControl c).driver = s.driver := rfl
@[simp] theorem setControl_height (s : State) (c : ControlState) : (s.setControl c).height = s.height := rfl
@[simp] theorem setControl_lift (s : State) (c : ControlState) : (s.setControl c).lift = s.lift := rfl
@[simp] theorem setControl_tyres (s : State) (c : ControlState) : (s.setControl c).tyres = s.tyres := rfl
@[simp] theorem setControl_link (s : State) (c : ControlState) : (s.setControl c).link = s.link := rfl
@[simp] theorem setControl_events (s : State) (c : ControlState) : (s.setControl c).events = s.events := rfl
@[simp] theorem setControl_store (s : State) (c : ControlState) : (s.setControl c).store = s.store := rfl
@[simp] theorem setControl_startUp (s : State) (c : ControlState) : (s.setControl c).startUp = s.startUp := rfl
@[simp] theorem setControl_deferred (s : State) (c : ControlState) : (s.setControl c).deferred = s.deferred := rfl
@[simp] theorem setControl_pending (s : State) (c : ControlState) : (s.setControl c).pending = s.pending := rfl

@[simp] theorem setCab_now (s : State) (b : Bool) : (s.setCab b).now = s.now := rfl
@[simp] theorem setCab_params (s : State) (b : Bool) : (s.setCab b).params = s.params := rfl
@[simp] theorem setCab_sensing (s : State) (b : Bool) : (s.setCab b).sensing = s.sensing := rfl
@[simp] theorem setCab_circuits (s : State) (b : Bool) : (s.setCab b).circuits = s.circuits := rfl
@[simp] theorem setCab_estimator (s : State) (b : Bool) : (s.setCab b).estimator = s.estimator := rfl
@[simp] theorem setCab_scheduler (s : State) (b : Bool) : (s.setCab b).scheduler = s.scheduler := rfl
@[simp] theorem setCab_engine (s : State) (b : Bool) : (s.setCab b).engine = s.engine := rfl
@[simp] theorem setCab_driver (s : State) (b : Bool) : (s.setCab b).driver = s.driver := rfl
@[simp] theorem setCab_height (s : State) (b : Bool) : (s.setCab b).height = s.height := rfl
@[simp] theorem setCab_lift (s : State) (b : Bool) : (s.setCab b).lift = s.lift := rfl
@[simp] theorem setCab_tyres (s : State) (b : Bool) : (s.setCab b).tyres = s.tyres := rfl
@[simp] theorem setCab_link (s : State) (b : Bool) : (s.setCab b).link = s.link := rfl
@[simp] theorem setCab_events (s : State) (b : Bool) : (s.setCab b).events = s.events := rfl
@[simp] theorem setCab_store (s : State) (b : Bool) : (s.setCab b).store = s.store := rfl
@[simp] theorem setCab_startUp (s : State) (b : Bool) : (s.setCab b).startUp = s.startUp := rfl
@[simp] theorem setCab_deferred (s : State) (b : Bool) : (s.setCab b).deferred = s.deferred := rfl
@[simp] theorem setCab_pending (s : State) (b : Bool) : (s.setCab b).pending = s.pending := rfl

@[simp] theorem setQueue_now (s : State) (q : List Telegram) : (s.setQueue q).now = s.now := rfl
@[simp] theorem setQueue_params (s : State) (q : List Telegram) : (s.setQueue q).params = s.params := rfl
@[simp] theorem setQueue_sensing (s : State) (q : List Telegram) : (s.setQueue q).sensing = s.sensing := rfl
@[simp] theorem setQueue_circuits (s : State) (q : List Telegram) : (s.setQueue q).circuits = s.circuits := rfl
@[simp] theorem setQueue_estimator (s : State) (q : List Telegram) : (s.setQueue q).estimator = s.estimator := rfl
@[simp] theorem setQueue_scheduler (s : State) (q : List Telegram) : (s.setQueue q).scheduler = s.scheduler := rfl
@[simp] theorem setQueue_engine (s : State) (q : List Telegram) : (s.setQueue q).engine = s.engine := rfl
@[simp] theorem setQueue_driver (s : State) (q : List Telegram) : (s.setQueue q).driver = s.driver := rfl
@[simp] theorem setQueue_height (s : State) (q : List Telegram) : (s.setQueue q).height = s.height := rfl
@[simp] theorem setQueue_lift (s : State) (q : List Telegram) : (s.setQueue q).lift = s.lift := rfl
@[simp] theorem setQueue_tyres (s : State) (q : List Telegram) : (s.setQueue q).tyres = s.tyres := rfl
@[simp] theorem setQueue_supervisor (s : State) (q : List Telegram) : (s.setQueue q).supervisor = s.supervisor := rfl
@[simp] theorem setQueue_events (s : State) (q : List Telegram) : (s.setQueue q).events = s.events := rfl
@[simp] theorem setQueue_store (s : State) (q : List Telegram) : (s.setQueue q).store = s.store := rfl
@[simp] theorem setQueue_startUp (s : State) (q : List Telegram) : (s.setQueue q).startUp = s.startUp := rfl
@[simp] theorem setQueue_deferred (s : State) (q : List Telegram) : (s.setQueue q).deferred = s.deferred := rfl
@[simp] theorem setQueue_pending (s : State) (q : List Telegram) : (s.setQueue q).pending = s.pending := rfl

@[simp] theorem setFramer_now (s : State) (f : FramerState) (p : List Byte) : (s.setFramer f p).now = s.now := rfl
@[simp] theorem setFramer_params (s : State) (f : FramerState) (p : List Byte) : (s.setFramer f p).params = s.params := rfl
@[simp] theorem setFramer_sensing (s : State) (f : FramerState) (p : List Byte) : (s.setFramer f p).sensing = s.sensing := rfl
@[simp] theorem setFramer_circuits (s : State) (f : FramerState) (p : List Byte) : (s.setFramer f p).circuits = s.circuits := rfl
@[simp] theorem setFramer_estimator (s : State) (f : FramerState) (p : List Byte) : (s.setFramer f p).estimator = s.estimator := rfl
@[simp] theorem setFramer_scheduler (s : State) (f : FramerState) (p : List Byte) : (s.setFramer f p).scheduler = s.scheduler := rfl
@[simp] theorem setFramer_engine (s : State) (f : FramerState) (p : List Byte) : (s.setFramer f p).engine = s.engine := rfl
@[simp] theorem setFramer_driver (s : State) (f : FramerState) (p : List Byte) : (s.setFramer f p).driver = s.driver := rfl
@[simp] theorem setFramer_height (s : State) (f : FramerState) (p : List Byte) : (s.setFramer f p).height = s.height := rfl
@[simp] theorem setFramer_lift (s : State) (f : FramerState) (p : List Byte) : (s.setFramer f p).lift = s.lift := rfl
@[simp] theorem setFramer_tyres (s : State) (f : FramerState) (p : List Byte) : (s.setFramer f p).tyres = s.tyres := rfl
@[simp] theorem setFramer_supervisor (s : State) (f : FramerState) (p : List Byte) : (s.setFramer f p).supervisor = s.supervisor := rfl
@[simp] theorem setFramer_events (s : State) (f : FramerState) (p : List Byte) : (s.setFramer f p).events = s.events := rfl
@[simp] theorem setFramer_store (s : State) (f : FramerState) (p : List Byte) : (s.setFramer f p).store = s.store := rfl
@[simp] theorem setFramer_startUp (s : State) (f : FramerState) (p : List Byte) : (s.setFramer f p).startUp = s.startUp := rfl
@[simp] theorem setFramer_deferred (s : State) (f : FramerState) (p : List Byte) : (s.setFramer f p).deferred = s.deferred := rfl
@[simp] theorem setFramer_pending (s : State) (f : FramerState) (p : List Byte) : (s.setFramer f p).pending = s.pending := rfl

@[simp] theorem placeReply_now (s : State) (t : Telegram) : (s.placeReply t).now = s.now := rfl
@[simp] theorem placeReply_params (s : State) (t : Telegram) : (s.placeReply t).params = s.params := rfl
@[simp] theorem placeReply_sensing (s : State) (t : Telegram) : (s.placeReply t).sensing = s.sensing := rfl
@[simp] theorem placeReply_circuits (s : State) (t : Telegram) : (s.placeReply t).circuits = s.circuits := rfl
@[simp] theorem placeReply_estimator (s : State) (t : Telegram) : (s.placeReply t).estimator = s.estimator := rfl
@[simp] theorem placeReply_scheduler (s : State) (t : Telegram) : (s.placeReply t).scheduler = s.scheduler := rfl
@[simp] theorem placeReply_engine (s : State) (t : Telegram) : (s.placeReply t).engine = s.engine := rfl
@[simp] theorem placeReply_driver (s : State) (t : Telegram) : (s.placeReply t).driver = s.driver := rfl
@[simp] theorem placeReply_height (s : State) (t : Telegram) : (s.placeReply t).height = s.height := rfl
@[simp] theorem placeReply_lift (s : State) (t : Telegram) : (s.placeReply t).lift = s.lift := rfl
@[simp] theorem placeReply_tyres (s : State) (t : Telegram) : (s.placeReply t).tyres = s.tyres := rfl
@[simp] theorem placeReply_supervisor (s : State) (t : Telegram) : (s.placeReply t).supervisor = s.supervisor := rfl
@[simp] theorem placeReply_events (s : State) (t : Telegram) : (s.placeReply t).events = s.events := rfl
@[simp] theorem placeReply_store (s : State) (t : Telegram) : (s.placeReply t).store = s.store := rfl
@[simp] theorem placeReply_startUp (s : State) (t : Telegram) : (s.placeReply t).startUp = s.startUp := rfl
@[simp] theorem placeReply_deferred (s : State) (t : Telegram) : (s.placeReply t).deferred = s.deferred := rfl
@[simp] theorem placeReply_pending (s : State) (t : Telegram) : (s.placeReply t).pending = s.pending := rfl

@[simp] theorem defer_now (s : State) (d : Deferred) : (s.defer d).now = s.now := rfl
@[simp] theorem defer_params (s : State) (d : Deferred) : (s.defer d).params = s.params := rfl
@[simp] theorem defer_sensing (s : State) (d : Deferred) : (s.defer d).sensing = s.sensing := rfl
@[simp] theorem defer_circuits (s : State) (d : Deferred) : (s.defer d).circuits = s.circuits := rfl
@[simp] theorem defer_estimator (s : State) (d : Deferred) : (s.defer d).estimator = s.estimator := rfl
@[simp] theorem defer_scheduler (s : State) (d : Deferred) : (s.defer d).scheduler = s.scheduler := rfl
@[simp] theorem defer_engine (s : State) (d : Deferred) : (s.defer d).engine = s.engine := rfl
@[simp] theorem defer_driver (s : State) (d : Deferred) : (s.defer d).driver = s.driver := rfl
@[simp] theorem defer_height (s : State) (d : Deferred) : (s.defer d).height = s.height := rfl
@[simp] theorem defer_lift (s : State) (d : Deferred) : (s.defer d).lift = s.lift := rfl
@[simp] theorem defer_tyres (s : State) (d : Deferred) : (s.defer d).tyres = s.tyres := rfl
@[simp] theorem defer_supervisor (s : State) (d : Deferred) : (s.defer d).supervisor = s.supervisor := rfl
@[simp] theorem defer_link (s : State) (d : Deferred) : (s.defer d).link = s.link := rfl
@[simp] theorem defer_events (s : State) (d : Deferred) : (s.defer d).events = s.events := rfl
@[simp] theorem defer_store (s : State) (d : Deferred) : (s.defer d).store = s.store := rfl
@[simp] theorem defer_startUp (s : State) (d : Deferred) : (s.defer d).startUp = s.startUp := rfl
@[simp] theorem defer_pending (s : State) (d : Deferred) : (s.defer d).pending = s.pending := rfl

/-! ### A record written is the record read -/

@[simp] theorem setCircuit_circuit (s : State) (c : CircuitId) (r : CircuitRecord) : (s.setCircuit c r).circuit c = r := by
  simp [circuit, setCircuit]

theorem setCircuit_circuit_of_ne (s : State) {c d : CircuitId} (r : CircuitRecord) (h : d ≠ c) :
    (s.setCircuit c r).circuit d = s.circuit d := by
  have : c.val ≠ d.val := fun e => h (Fin.ext e.symm)
  simp [circuit, setCircuit, this]

@[simp] theorem setTyre_tyre (s : State) (t : TyreId) (x : TyreItems) : (s.setTyre t x).tyre t = x := by
  simp [tyre, setTyre]

theorem setTyre_tyre_of_ne (s : State) {t u : TyreId} (x : TyreItems) (h : u ≠ t) :
    (s.setTyre t x).tyre u = s.tyre u := by
  have : t.val ≠ u.val := fun e => h (Fin.ext e.symm)
  simp [tyre, setTyre, this]

@[simp] theorem setValve_valve (s : State) (v : ValveId) (x : Valve) : (s.setValve v x).valve v = x := by
  simp [valve, setValve]

theorem setValve_valve_of_ne (s : State) {v w : ValveId} (x : Valve) (h : w ≠ v) :
    (s.setValve v x).valve w = s.valve w := by
  have : v.val ≠ w.val := fun e => h (Fin.ext e.symm)
  simp [valve, setValve, this]

@[simp] theorem setChannel_channel (s : State) (ch : Channel) (x : AnalogChannel) :
    (s.setChannel ch x).channel ch = x := by
  simp [channel, setChannel]

theorem setChannel_channel_of_ne (s : State) {ch dh : Channel} (x : AnalogChannel) (h : dh ≠ ch) :
    (s.setChannel ch x).channel dh = s.channel dh := by
  have : ch.val ≠ dh.val := fun e => h (Fin.ext e.symm)
  simp [channel, setChannel, this]

@[simp] theorem setComparator_comparator (s : State) (k : ComparatorId) (x : Comparator) :
    (s.setComparator k x).comparator k = x := by
  simp [comparator, setComparator]

@[simp] theorem setSideRecord_sideRecord (s : State) (side : Side) (r : SideRecord) :
    (s.setSideRecord side r).sideRecord side = r := by
  cases side <;> rfl

@[simp] theorem setSideRecord_sideRecord_other (s : State) (side : Side) (r : SideRecord) :
    (s.setSideRecord side r).sideRecord (otherSide side) = s.sideRecord (otherSide side) := by
  cases side <;> rfl

@[simp] theorem setSideControl_sideControl (s : State) (side : Side) (x : SideControl) :
    (s.setSideControl side x).sideControl side = x := by
  cases side <;> rfl

@[simp] theorem setSideControl_sideControl_other (s : State) (side : Side) (x : SideControl) :
    (s.setSideControl side x).sideControl (otherSide side) = s.sideControl (otherSide side) := by
  cases side <;> rfl

end Sys2Proof.Machine.State
end

