-- ==== Sys2Proof/Laws/Air.lean ====
section
/-! SUPPORT. What the air control can do, said once. The scheduler, the engine, the valves, the evaluators and the
Event Unit change the state by a few kinds of update alone. `AirClosed P` says that each kind keeps `P`; each
operation of these blocks then keeps `P` too. An invariant or a frame of the air control is proved by showing
`AirClosed` of it. -/

namespace Sys2Proof.Machine

/-- `P` is kept by every kind of update the air control makes. A hypothesis of a field says what is known where
the update is made. -/
structure AirClosed (P : State → Prop) : Prop where
  /-- an event is taken (R164) -/
  logEvent : ∀ {s : State} (k sev c v), P s → P (s.logEvent k sev c v)
  /-- the condition set is replaced and the lamp derived (R167, R168) -/
  setConditions : ∀ {s : State} (conds), P s → P (s.setConditions conds)
  /-- a circuit record is replaced; a strike count above 2 does not come up (R95) -/
  setCircuit : ∀ {s : State} (c) (r : CircuitRecord), r.strikes ≤ max 2 (s.circuit c).strikes → P s →
    P (s.setCircuit c r)
  /-- the items of a tyre are replaced -/
  setTyre : ∀ {s : State} (t x), P s → P (s.setTyre t x)
  /-- the flags and the timer of a side are replaced -/
  setSideControl : ∀ {s : State} (side x), P s → P (s.setSideControl side x)
  /-- the items of the Lift Axle Controller are replaced -/
  setLift : ∀ {s : State} (x), P s → P (s.setLift x)
  /-- a demand leaves the list (R62) -/
  removeDemand : ∀ {s : State} (c), P s → P (s.removeDemand c)
  /-- a wait reason is replaced (R72) -/
  setReason : ∀ {s : State} (c r), P s → P (s.setReason c r)
  /-- a demand held takes a more urgent class (R64, R66) -/
  raiseDemand : ∀ {s : State} (d cls) (c : CircuitId), s.demandOf c = some d → P s → P (s.raiseDemand d cls)
  /-- a demand joins, while RUNNING (R63) -/
  insertDemand : ∀ {s : State} (d), s.isRunning = true → P s →
    P (s.setDemands (placeDemand d s.scheduler.demands))
  /-- resources are given, while RUNNING (R74) -/
  giveResources : ∀ {s : State} (a b), s.isRunning = true → P s →
    P (s.setScheduler { s.scheduler with supply := a, gallery := b })
  /-- resources are released (R68) -/
  freeResources : ∀ {s : State} (c b g), P s → P (s.freeResources c b g)
  /-- a transaction takes a slot, while RUNNING and with a slot free (R80, R81) -/
  addTransaction : ∀ {s : State} (t : Transaction), s.isRunning = true → s.engine.length < Fixed.slots → P s →
    P (s.setEngine (s.engine ++ [t]))
  /-- the record of a transaction is replaced -/
  setTransaction : ∀ {s : State} (t), P s → P (s.setTransaction t)
  /-- a slot is freed (R97) -/
  dropTransaction : ∀ {s : State} (c : CircuitId), P s → P (s.setEngine (s.engine.filter fun u => u.circuit ≠ c))
  /-- a valve is energised on a request R11 admits (R11, R12) -/
  openValve : ∀ {s : State} (c v), s.mayOpen c v = true → (s.valve v).isOpen = false → (s.valve v).fault = false →
    P s → P (s.setValve v { s.valve v with isOpen := true, check := some s.now })
  /-- a valve output changes without being energised, its fault flag kept -/
  setValve : ∀ {s : State} (v) (x : Valve), (x.isOpen = true → (s.valve v).isOpen = true) →
    x.fault = (s.valve v).fault → P s → P (s.setValve v x)
  /-- the items of the isolation valve are replaced -/
  setIsolation : ∀ {s : State} (x), P s → P (s.setIsolation x)
  /-- the list is emptied (R77) -/
  clearDemands : ∀ {s : State}, P s → P (s.setDemands [])
  /-- the hand-offs are replaced -/
  setDeferred : ∀ {s : State} (d), P s → P (s.setDeferred d)

/-- A fold keeps what each of its steps keeps. -/
theorem foldl_closed {α : Type} {P : State → Prop} (f : State → α → State) (step : ∀ s x, P s → P (f s x))
    (l : List α) {s : State} (hs : P s) : P (l.foldl f s) := by
  induction l generalizing s with
  | nil => exact hs
  | cons x rest ih => exact ih (step s x hs)

namespace AirClosed

/-- Two properties kept each are kept together. -/
theorem and {P Q : State → Prop} (hP : AirClosed P) (hQ : AirClosed Q) : AirClosed fun s => P s ∧ Q s where
  logEvent k sev c v h := ⟨hP.logEvent k sev c v h.1, hQ.logEvent k sev c v h.2⟩
  setConditions x h := ⟨hP.setConditions x h.1, hQ.setConditions x h.2⟩
  setCircuit c r k h := ⟨hP.setCircuit c r k h.1, hQ.setCircuit c r k h.2⟩
  setTyre t x h := ⟨hP.setTyre t x h.1, hQ.setTyre t x h.2⟩
  setSideControl side x h := ⟨hP.setSideControl side x h.1, hQ.setSideControl side x h.2⟩
  setLift x h := ⟨hP.setLift x h.1, hQ.setLift x h.2⟩
  removeDemand c h := ⟨hP.removeDemand c h.1, hQ.removeDemand c h.2⟩
  setReason c r h := ⟨hP.setReason c r h.1, hQ.setReason c r h.2⟩
  raiseDemand d cls c k h := ⟨hP.raiseDemand d cls c k h.1, hQ.raiseDemand d cls c k h.2⟩
  insertDemand d k h := ⟨hP.insertDemand d k h.1, hQ.insertDemand d k h.2⟩
  giveResources a b k h := ⟨hP.giveResources a b k h.1, hQ.giveResources a b k h.2⟩
  freeResources c b g h := ⟨hP.freeResources c b g h.1, hQ.freeResources c b g h.2⟩
  addTransaction t k l h := ⟨hP.addTransaction t k l h.1, hQ.addTransaction t k l h.2⟩
  setTransaction t h := ⟨hP.setTransaction t h.1, hQ.setTransaction t h.2⟩
  dropTransaction c h := ⟨hP.dropTransaction c h.1, hQ.dropTransaction c h.2⟩
  openValve c v k l m h := ⟨hP.openValve c v k l m h.1, hQ.openValve c v k l m h.2⟩
  setValve v x k l h := ⟨hP.setValve v x k l h.1, hQ.setValve v x k l h.2⟩
  setIsolation x h := ⟨hP.setIsolation x h.1, hQ.setIsolation x h.2⟩
  clearDemands h := ⟨hP.clearDemands h.1, hQ.clearDemands h.2⟩
  setDeferred d h := ⟨hP.setDeferred d h.1, hQ.setDeferred d h.2⟩

end AirClosed

/-! ### The Event Unit's updates -/

namespace State

/-- A notice offered changes the Transmit Queue alone, or nothing (R157, R158). -/
theorem offerNotice_eq (s : State) (k body) : ∃ q, s.offerNotice k body = s.setLink { s.link with queue := q } := by
  unfold offerNotice
  split
  · exact ⟨_, rfl⟩
  · exact ⟨s.link.queue, rfl⟩

/-- A notice offered on a condition changes the Transmit Queue alone, or nothing. -/
theorem offerIf_eq (s : State) (b : Bool) (k body) :
    ∃ q, (if b = true then s.offerNotice k body else s) = s.setLink { s.link with queue := q } := by
  split
  · exact s.offerNotice_eq k body
  · exact ⟨s.link.queue, rfl⟩

/-- An event changes the Event Unit, and the Transmit Queue if its notice fits (R164, R158). -/
theorem logEvent_eq (s : State) (k sev c v) :
    ∃ e q, s.logEvent k sev c v = (s.setEvents e).setLink { s.link with queue := q } :=
  ⟨_, (s.setEvents _).offerIf_eq _ _ _⟩

/-- A state handed to the lamp output changes the lamp alone (R20). -/
theorem driveLamp_eq (s : State) (x) : ∃ l, s.driveLamp x = s.setDriver { s.driver with lamp := l } := by
  unfold driveLamp
  split
  · exact ⟨s.driver.lamp, rfl⟩
  · exact ⟨_, rfl⟩

/-- A change of the condition set changes the Event Unit's conditions and the lamp alone (R167, R168). -/
theorem setConditions_eq (s : State) (conds) :
    ∃ l, s.setConditions conds =
      (s.setEvents { s.events with conditions := conds }).setDriver { s.driver with lamp := l } := by
  obtain ⟨l, h⟩ := (s.setEvents { s.events with conditions := conds }).driveLamp_eq
    (if (s.setEvents { s.events with conditions := conds }).events.testEnd.isSome then .on
      else derivedLamp (s.setEvents { s.events with conditions := conds }).events.conditions)
  exact ⟨l, h⟩

@[simp] theorem logEvent_now (s : State) (k sev c v) : (s.logEvent k sev c v).now = s.now := by
  obtain ⟨e, q, h⟩ := s.logEvent_eq k sev c v; rw [h]; rfl
@[simp] theorem logEvent_params (s : State) (k sev c v) : (s.logEvent k sev c v).params = s.params := by
  obtain ⟨e, q, h⟩ := s.logEvent_eq k sev c v; rw [h]; rfl
@[simp] theorem logEvent_sensing (s : State) (k sev c v) : (s.logEvent k sev c v).sensing = s.sensing := by
  obtain ⟨e, q, h⟩ := s.logEvent_eq k sev c v; rw [h]; rfl
@[simp] theorem logEvent_circuits (s : State) (k sev c v) : (s.logEvent k sev c v).circuits = s.circuits := by
  obtain ⟨e, q, h⟩ := s.logEvent_eq k sev c v; rw [h]; rfl
@[simp] theorem logEvent_estimator (s : State) (k sev c v) : (s.logEvent k sev c v).estimator = s.estimator := by
  obtain ⟨e, q, h⟩ := s.logEvent_eq k sev c v; rw [h]; rfl
@[simp] theorem logEvent_scheduler (s : State) (k sev c v) : (s.logEvent k sev c v).scheduler = s.scheduler := by
  obtain ⟨e, q, h⟩ := s.logEvent_eq k sev c v; rw [h]; rfl
@[simp] theorem logEvent_engine (s : State) (k sev c v) : (s.logEvent k sev c v).engine = s.engine := by
  obtain ⟨e, q, h⟩ := s.logEvent_eq k sev c v; rw [h]; rfl
@[simp] theorem logEvent_driver (s : State) (k sev c v) : (s.logEvent k sev c v).driver = s.driver := by
  obtain ⟨e, q, h⟩ := s.logEvent_eq k sev c v; rw [h]; rfl
@[simp] theorem logEvent_height (s : State) (k sev c v) : (s.logEvent k sev c v).height = s.height := by
  obtain ⟨e, q, h⟩ := s.logEvent_eq k sev c v; rw [h]; rfl
@[simp] theorem logEvent_lift (s : State) (k sev c v) : (s.logEvent k sev c v).lift = s.lift := by
  obtain ⟨e, q, h⟩ := s.logEvent_eq k sev c v; rw [h]; rfl
@[simp] theorem logEvent_tyres (s : State) (k sev c v) : (s.logEvent k sev c v).tyres = s.tyres := by
  obtain ⟨e, q, h⟩ := s.logEvent_eq k sev c v; rw [h]; rfl
@[simp] theorem logEvent_supervisor (s : State) (k sev c v) : (s.logEvent k sev c v).supervisor = s.supervisor := by
  obtain ⟨e, q, h⟩ := s.logEvent_eq k sev c v; rw [h]; rfl
@[simp] theorem logEvent_store (s : State) (k sev c v) : (s.logEvent k sev c v).store = s.store := by
  obtain ⟨e, q, h⟩ := s.logEvent_eq k sev c v; rw [h]; rfl
@[simp] theorem logEvent_startUp (s : State) (k sev c v) : (s.logEvent k sev c v).startUp = s.startUp := by
  obtain ⟨e, q, h⟩ := s.logEvent_eq k sev c v; rw [h]; rfl
@[simp] theorem logEvent_deferred (s : State) (k sev c v) : (s.logEvent k sev c v).deferred = s.deferred := by
  obtain ⟨e, q, h⟩ := s.logEvent_eq k sev c v; rw [h]; rfl
@[simp] theorem logEvent_pending (s : State) (k sev c v) : (s.logEvent k sev c v).pending = s.pending := by
  obtain ⟨e, q, h⟩ := s.logEvent_eq k sev c v; rw [h]; rfl
@[simp] theorem logEvent_link_framer (s : State) (k sev c v) : (s.logEvent k sev c v).link.framer = s.link.framer := by
  obtain ⟨e, q, h⟩ := s.logEvent_eq k sev c v; rw [h]; rfl
@[simp] theorem logEvent_link_partialTelegram (s : State) (k sev c v) : (s.logEvent k sev c v).link.partialTelegram = s.link.partialTelegram := by
  obtain ⟨e, q, h⟩ := s.logEvent_eq k sev c v; rw [h]; rfl
@[simp] theorem logEvent_link_lastChar (s : State) (k sev c v) : (s.logEvent k sev c v).link.lastChar = s.link.lastChar := by
  obtain ⟨e, q, h⟩ := s.logEvent_eq k sev c v; rw [h]; rfl
@[simp] theorem logEvent_link_secured (s : State) (k sev c v) : (s.logEvent k sev c v).link.secured = s.link.secured := by
  obtain ⟨e, q, h⟩ := s.logEvent_eq k sev c v; rw [h]; rfl
@[simp] theorem logEvent_link_up (s : State) (k sev c v) : (s.logEvent k sev c v).link.up = s.link.up := by
  obtain ⟨e, q, h⟩ := s.logEvent_eq k sev c v; rw [h]; rfl
@[simp] theorem logEvent_link_seen (s : State) (k sev c v) : (s.logEvent k sev c v).link.seen = s.link.seen := by
  obtain ⟨e, q, h⟩ := s.logEvent_eq k sev c v; rw [h]; rfl
@[simp] theorem logEvent_link_lastValid (s : State) (k sev c v) : (s.logEvent k sev c v).link.lastValid = s.link.lastValid := by
  obtain ⟨e, q, h⟩ := s.logEvent_eq k sev c v; rw [h]; rfl
@[simp] theorem logEvent_link_summaryDue (s : State) (k sev c v) : (s.logEvent k sev c v).link.summaryDue = s.link.summaryDue := by
  obtain ⟨e, q, h⟩ := s.logEvent_eq k sev c v; rw [h]; rfl
@[simp] theorem logEvent_link_restartPending (s : State) (k sev c v) : (s.logEvent k sev c v).link.restartPending = s.link.restartPending := by
  obtain ⟨e, q, h⟩ := s.logEvent_eq k sev c v; rw [h]; rfl
@[simp] theorem logEvent_events_timeTag (s : State) (k sev c v) :
    (s.logEvent k sev c v).events.timeTag = s.events.timeTag := by
  unfold logEvent offerNotice capture
  dsimp only
  repeat' split
  all_goals rfl
@[simp] theorem logEvent_events_nextAdvance (s : State) (k sev c v) :
    (s.logEvent k sev c v).events.nextAdvance = s.events.nextAdvance := by
  unfold logEvent offerNotice capture
  dsimp only
  repeat' split
  all_goals rfl
@[simp] theorem logEvent_events_conditions (s : State) (k sev c v) :
    (s.logEvent k sev c v).events.conditions = s.events.conditions := by
  unfold logEvent offerNotice capture
  dsimp only
  repeat' split
  all_goals rfl
@[simp] theorem logEvent_events_testEnd (s : State) (k sev c v) :
    (s.logEvent k sev c v).events.testEnd = s.events.testEnd := by
  unfold logEvent offerNotice capture
  dsimp only
  repeat' split
  all_goals rfl
@[simp] theorem setConditions_now (s : State) (x) : (s.setConditions x).now = s.now := by
  obtain ⟨l, h⟩ := s.setConditions_eq x; rw [h]; rfl
@[simp] theorem setConditions_params (s : State) (x) : (s.setConditions x).params = s.params := by
  obtain ⟨l, h⟩ := s.setConditions_eq x; rw [h]; rfl
@[simp] theorem setConditions_sensing (s : State) (x) : (s.setConditions x).sensing = s.sensing := by
  obtain ⟨l, h⟩ := s.setConditions_eq x; rw [h]; rfl
@[simp] theorem setConditions_circuits (s : State) (x) : (s.setConditions x).circuits = s.circuits := by
  obtain ⟨l, h⟩ := s.setConditions_eq x; rw [h]; rfl
@[simp] theorem setConditions_estimator (s : State) (x) : (s.setConditions x).estimator = s.estimator := by
  obtain ⟨l, h⟩ := s.setConditions_eq x; rw [h]; rfl
@[simp] theorem setConditions_scheduler (s : State) (x) : (s.setConditions x).scheduler = s.scheduler := by
  obtain ⟨l, h⟩ := s.setConditions_eq x; rw [h]; rfl
@[simp] theorem setConditions_engine (s : State) (x) : (s.setConditions x).engine = s.engine := by
  obtain ⟨l, h⟩ := s.setConditions_eq x; rw [h]; rfl
@[simp] theorem setConditions_height (s : State) (x) : (s.setConditions x).height = s.height := by
  obtain ⟨l, h⟩ := s.setConditions_eq x; rw [h]; rfl
@[simp] theorem setConditions_lift (s : State) (x) : (s.setConditions x).lift = s.lift := by
  obtain ⟨l, h⟩ := s.setConditions_eq x; rw [h]; rfl
@[simp] theorem setConditions_tyres (s : State) (x) : (s.setConditions x).tyres = s.tyres := by
  obtain ⟨l, h⟩ := s.setConditions_eq x; rw [h]; rfl
@[simp] theorem setConditions_supervisor (s : State) (x) : (s.setConditions x).supervisor = s.supervisor := by
  obtain ⟨l, h⟩ := s.setConditions_eq x; rw [h]; rfl
@[simp] theorem setConditions_link (s : State) (x) : (s.setConditions x).link = s.link := by
  obtain ⟨l, h⟩ := s.setConditions_eq x; rw [h]; rfl
@[simp] theorem setConditions_store (s : State) (x) : (s.setConditions x).store = s.store := by
  obtain ⟨l, h⟩ := s.setConditions_eq x; rw [h]; rfl
@[simp] theorem setConditions_startUp (s : State) (x) : (s.setConditions x).startUp = s.startUp := by
  obtain ⟨l, h⟩ := s.setConditions_eq x; rw [h]; rfl
@[simp] theorem setConditions_deferred (s : State) (x) : (s.setConditions x).deferred = s.deferred := by
  obtain ⟨l, h⟩ := s.setConditions_eq x; rw [h]; rfl
@[simp] theorem setConditions_pending (s : State) (x) : (s.setConditions x).pending = s.pending := by
  obtain ⟨l, h⟩ := s.setConditions_eq x; rw [h]; rfl
@[simp] theorem setConditions_events_timeTag (s : State) (x) : (s.setConditions x).events.timeTag = s.events.timeTag := by
  obtain ⟨l, h⟩ := s.setConditions_eq x; rw [h]; rfl
@[simp] theorem setConditions_events_nextAdvance (s : State) (x) : (s.setConditions x).events.nextAdvance = s.events.nextAdvance := by
  obtain ⟨l, h⟩ := s.setConditions_eq x; rw [h]; rfl
@[simp] theorem setConditions_events_testEnd (s : State) (x) : (s.setConditions x).events.testEnd = s.events.testEnd := by
  obtain ⟨l, h⟩ := s.setConditions_eq x; rw [h]; rfl
@[simp] theorem setConditions_events_queue (s : State) (x) : (s.setConditions x).events.queue = s.events.queue := by
  obtain ⟨l, h⟩ := s.setConditions_eq x; rw [h]; rfl
@[simp] theorem setConditions_events_overrun (s : State) (x) : (s.setConditions x).events.overrun = s.events.overrun := by
  obtain ⟨l, h⟩ := s.setConditions_eq x; rw [h]; rfl
@[simp] theorem setConditions_events_detected (s : State) (x) : (s.setConditions x).events.detected = s.events.detected := by
  obtain ⟨l, h⟩ := s.setConditions_eq x; rw [h]; rfl
@[simp] theorem setConditions_driver_valves (s : State) (x) : (s.setConditions x).driver.valves = s.driver.valves := by
  obtain ⟨l, h⟩ := s.setConditions_eq x; rw [h]; rfl
@[simp] theorem setConditions_driver_isolation (s : State) (x) : (s.setConditions x).driver.isolation = s.driver.isolation := by
  obtain ⟨l, h⟩ := s.setConditions_eq x; rw [h]; rfl

end State

/-- What the air control leaves alone: internal time, the running configuration, the Sensing Block, the Load
Estimator, the Supervisor, the Profile Store, start-up, the waiting commands, and the Height Controller's mode,
target, ramp and speed. -/
structure AirFrame (a s : State) : Prop where
  now : s.now = a.now
  params : s.params = a.params
  sensing : s.sensing = a.sensing
  estimator : s.estimator = a.estimator
  supervisor : s.supervisor = a.supervisor
  store : s.store = a.store
  startUp : s.startUp = a.startUp
  pending : s.pending = a.pending
  mode : s.height.mode = a.height.mode
  customHeight : s.height.customHeight = a.height.customHeight
  target : s.height.target = a.height.target
  ramp : s.height.ramp = a.height.ramp
  rampRead : s.height.rampRead = a.height.rampRead
  speed : s.height.speed = a.height.speed
  speedMark : s.height.speedMark = a.height.speedMark
  testEnd : s.events.testEnd = a.events.testEnd
  timeTag : s.events.timeTag = a.events.timeTag
  nextAdvance : s.events.nextAdvance = a.events.nextAdvance
  framer : s.link.framer = a.link.framer
  partialTelegram : s.link.partialTelegram = a.link.partialTelegram
  lastChar : s.link.lastChar = a.link.lastChar
  secured : s.link.secured = a.link.secured
  up : s.link.up = a.link.up
  seen : s.link.seen = a.link.seen
  lastValid : s.link.lastValid = a.link.lastValid
  summaryDue : s.link.summaryDue = a.link.summaryDue
  restartPending : s.link.restartPending = a.link.restartPending

/-- A state agrees with itself. -/
theorem AirFrame.refl (a : State) : AirFrame a a := by constructor <;> rfl

/-- Agreement composes. -/
theorem AirFrame.trans {a b c : State} (h : AirFrame a b) (k : AirFrame b c) : AirFrame a c := by
  cases h; cases k; constructor <;> simp_all

/-- The air control leaves alone what `AirFrame` names. -/
theorem airFrame_closed (a : State) : AirClosed (AirFrame a) := by
  constructor <;> intros
  all_goals
    refine AirFrame.trans (by assumption) ?_
    constructor
  all_goals first
    | rfl
    | simp


end Sys2Proof.Machine
end

