-- ==== Sys2Proof/Laws/AirOps.lean ====
section
/-! SUPPORT. Each operation of the scheduler, the engine, the valves, the evaluators and the Event Unit keeps what
every kind of update of the air control keeps (`AirClosed`). -/

namespace Sys2Proof.Machine
namespace AirClosed

variable {P : State → Prop} {s : State}

/-- A condition is raised (R167). -/
theorem raise_closed (h : AirClosed P) (id) (sev) (hs : P s) : P (s.raise id sev) := by
  unfold State.raise
  repeat' first
    | assumption
    | (with_reducible apply h.setConditions)

/-- A condition is cleared (R167). -/
theorem clear_closed (h : AirClosed P) (id) (hs : P s) : P (s.clear id) := by
  unfold State.clear
  repeat' first
    | assumption
    | (with_reducible apply h.setConditions)

/-- A circuit's conditions are cleared (R167). -/
theorem clearCircuit_closed (h : AirClosed P) (c) (hs : P s) : P (s.clearCircuit c) := by
  unfold State.clearCircuit
  repeat' first
    | assumption
    | (with_reducible apply h.setConditions)

/-- A hand-off is made. -/
theorem defer_closed (h : AirClosed P) (d) (hs : P s) : P (s.defer d) := h.setDeferred _ hs

/-- An open request (R11). -/
theorem requestOpen_closed (h : AirClosed P) (c v) (hs : P s) : P (s.requestOpen c v) := by
  unfold State.requestOpen
  split
  · split
    · exact defer_closed h _ hs
    · split
      · exact hs
      · exact h.openValve c v ‹_› (by simpa using ‹¬(s.valve v).isOpen = true›)
          (by simpa using ‹¬(s.valve v).fault = true›) hs
  · exact hs

/-- A close request (R11). -/
theorem closeValve_closed (h : AirClosed P) (v) (hs : P s) : P (s.closeValve v) := by
  unfold State.closeValve
  split
  · exact h.setValve v _ (fun k => by simp at k) rfl hs
  · exact hs

/-- A valve closed at a verdict (R12, R100). -/
theorem closeAtVerdict_closed (h : AirClosed P) (v) (hs : P s) : P (s.closeAtVerdict v) := by
  unfold State.closeAtVerdict
  split
  · exact h.setValve v _ (fun k => by simp at k) rfl hs
  · exact hs

/-- A verdict is taken (R12). -/
theorem endCheck_closed (h : AirClosed P) (v) (hs : P s) : P (s.endCheck v) := by
  unfold State.endCheck
  split
  · exact h.setValve v _ (fun k => k) rfl hs
  · exact h.setValve v _ (fun k => k) rfl hs

/-- Open requests in turn. -/
theorem requestOpenAll_closed (h : AirClosed P) (c vs) (hs : P s) : P (s.requestOpenAll c vs) :=
  foldl_closed _ (fun _ _ k => requestOpen_closed h _ _ k) _ hs

/-- Close requests in turn. -/
theorem closeAll_closed (h : AirClosed P) (vs) (hs : P s) : P (s.closeAll vs) :=
  foldl_closed _ (fun _ _ k => closeValve_closed h _ k) _ hs

/-- A check is abandoned (R12). -/
theorem abandonCheck_closed (h : AirClosed P) (v) (hs : P s) : P (s.abandonCheck v) :=
  h.setValve v _ (fun k => k) rfl hs

/-- A switch ends (R17). -/
theorem endSwitch_closed (h : AirClosed P) (hs : P s) : P s.endSwitch :=
  abandonCheck_closed h _ (h.setIsolation _ hs)

/-- A pulse starts (R16). -/
theorem startPulse_closed (h : AirClosed P) (pos) (hs : P s) : P (s.startPulse pos) := by
  have k : P ((s.setIsolation ⟨some pos, .pulsing, some s.now⟩).setValve isolationValve
      { s.valve isolationValve with check := some s.now }) :=
    h.setValve _ _ (fun k => k) rfl (h.setIsolation _ hs)
  unfold State.startPulse
  dsimp only
  split
  · exact defer_closed h _ (endSwitch_closed h k)
  · exact k

/-- A switch begins (R16, R18). -/
theorem beginSwitch_closed (h : AirClosed P) (pos) (hs : P s) : P (s.beginSwitch pos) := by
  unfold State.beginSwitch
  repeat' first
    | assumption
    | (with_reducible apply startPulse_closed h)
    | (with_reducible apply h.setIsolation)
    | (with_reducible split)

/-- A switch is requested (R16). -/
theorem requestSwitch_closed (h : AirClosed P) (pos) (hs : P s) : P (s.requestSwitch pos) := by
  unfold State.requestSwitch
  repeat' first
    | assumption
    | (with_reducible apply beginSwitch_closed h)
    | (with_reducible apply abandonCheck_closed h)
    | (with_reducible apply h.setIsolation)
    | (with_reducible split)

/-- A pulse is held (R18). -/
theorem holdPulse_closed (h : AirClosed P) (hs : P s) : P (s.holdPulse) := by
  unfold State.holdPulse
  repeat' first
    | assumption
    | (with_reducible apply abandonCheck_closed h)
    | (with_reducible apply h.setIsolation)
    | (with_reducible split)

/-- A held pulse starts (R18). -/
theorem resumePulse_closed (h : AirClosed P) (hs : P s) : P (s.resumePulse) := by
  unfold State.resumePulse
  repeat' first
    | assumption
    | (with_reducible apply startPulse_closed h)
    | (with_reducible split)

/-- A transaction starts (R81). -/
theorem startTransaction_closed (h : AirClosed P) (c k) (hr : s.isRunning = true)
    (hl : s.engine.length < Fixed.slots) (hs : P s) : P (s.startTransaction c k) :=
  requestOpenAll_closed h _ _ (h.addTransaction _ hr hl hs)

/-- A circuit's state is replaced. -/
theorem setCircuitState_closed (h : AirClosed P) (c) (st) (hs : P s) : P (s.setCircuitState c st) := by
  unfold State.setCircuitState
  repeat' first
    | assumption
    | (with_reducible refine h.setCircuit _ _ (Nat.le_max_right _ _) ?_)

/-- A demand is granted (R74). -/
theorem grant_closed (h : AirClosed P) (d) (hr : s.isRunning = true) (hl : s.engine.length < Fixed.slots)
    (hs : P s) : P (s.grant d) := by
  have k := setCircuitState_closed h d.circuit .active (h.removeDemand d.circuit hs)
  exact startTransaction_closed h _ _ hr hl (h.giveResources _ _ hr k)

/-- A demand is examined (R73). -/
theorem examine_closed (h : AirClosed P) (d) (hr : s.isRunning = true) (hs : P s) : P (s.examine d) := by
  unfold State.examine
  split
  · exact h.setReason _ _ hs
  · split
    · exact grant_closed h _ hr ‹_› hs
    · exact hs

/-- A serving pass runs (R73). -/
theorem pass_closed (h : AirClosed P) (hs : P s) : P s.pass := by
  unfold State.pass
  split
  · rename_i hr
    refine (foldl_closed (P := fun t => P t ∧ t.isRunning = true) _ ?_ _ ⟨hs, hr⟩).1
    intro t d k
    refine ⟨examine_closed h d k.2 k.1, ?_⟩
    have f := examine_closed (airFrame_closed t) d k.2 (AirFrame.refl t)
    simpa [State.isRunning, f.supervisor] using k.2
  · exact hs

/-- A new demand joins (R63). -/
theorem joinFresh_closed (h : AirClosed P) (c a cls) (hr : s.isRunning = true) (hs : P s) :
    P (s.joinFresh c a cls) :=
  pass_closed h (setCircuitState_closed h _ _ (h.insertDemand _ hr hs))

/-- A join request is taken (R63, R64). -/
theorem join_closed (h : AirClosed P) (c a cls) (hs : P s) : P (s.join c a cls) := by
  unfold State.join
  split
  · rename_i hr
    split
    · exact joinFresh_closed h _ _ _ hr.2 hs
    · split
      · split
        · exact h.raiseDemand _ _ c ‹_› hs
        · exact hs
      · exact joinFresh_closed h _ _ _ hr.2 (h.removeDemand _ hs)
    · exact hs
  · exact hs

/-- A withdrawal is taken (R65). -/
theorem withdraw_closed (h : AirClosed P) (c) (hs : P s) : P (s.withdraw c) := by
  unfold State.withdraw
  repeat' first
    | assumption
    | (with_reducible apply setCircuitState_closed h)
    | (with_reducible apply h.removeDemand)
    | (with_reducible split)

/-- A demand is promoted (R66). -/
theorem promote_closed (h : AirClosed P) (c) (hs : P s) : P (s.promote c) := by
  unfold State.promote
  split
  · split
    · exact h.raiseDemand _ _ c ‹_› hs
    · exact hs
  · exact hs

/-! ### Evaluations -/

/-- A side's other demand is withdrawn (R113). -/
theorem withdrawOther_closed (h : AirClosed P) (side) (need) (hs : P s) : P (s.withdrawOther side need) := by
  unfold State.withdrawOther
  repeat' first
    | assumption
    | (with_reducible apply withdraw_closed h)
    | (with_reducible split)

/-- A side is evaluated (R113, R114). -/
theorem evaluateSide_closed (h : AirClosed P) (side) (hs : P s) : P (s.evaluateSide side) := by
  unfold State.evaluateSide
  dsimp only
  repeat' first
    | assumption
    | (with_reducible apply withdrawOther_closed h)
    | (with_reducible apply join_closed h)
    | (with_reducible apply h.setSideControl)
    | (with_reducible split)

/-- Both sides are evaluated. -/
theorem evaluateSides_closed (h : AirClosed P) (hs : P s) : P s.evaluateSides :=
  evaluateSide_closed h _ (evaluateSide_closed h _ hs)

/-- A waiting EXHAUST is withdrawn (R113). -/
theorem withdrawExhaust_closed (h : AirClosed P) (side) (hs : P s) : P (s.withdrawExhaust side) := by
  unfold State.withdrawExhaust
  repeat' first
    | assumption
    | (with_reducible apply withdraw_closed h)
    | (with_reducible split)

/-- A side reaches its limit (R91). -/
theorem markAtLimit_closed (h : AirClosed P) (side) (hs : P s) : P (s.markAtLimit side) := by
  unfold State.markAtLimit
  repeat' first
    | assumption
    | (with_reducible apply withdrawExhaust_closed h)
    | (with_reducible apply evaluateSide_closed h)
    | (with_reducible apply h.setSideControl)

/-- The lift state is replaced (R116). -/
theorem setLiftState_closed (h : AirClosed P) (st) (step) (hs : P s) : P (s.setLiftState st step) := by
  unfold State.setLiftState
  dsimp only
  repeat' first
    | assumption
    | (with_reducible apply h.logEvent)
    | (with_reducible apply h.setLift)
    | (with_reducible split)

/-- The controller asks for a switch (R116). -/
theorem liftSwitch_closed (h : AirClosed P) (pos) (hs : P s) : P (s.liftSwitch pos) := by
  unfold State.liftSwitch
  repeat' first
    | assumption
    | (with_reducible apply requestSwitch_closed h)
    | (with_reducible apply h.setLift)

/-- LIFT_UNAVAILABLE is raised (R122). -/
theorem raiseUnavailable_closed (h : AirClosed P) (sev) (hs : P s) : P (s.raiseUnavailable sev) := by
  unfold State.raiseUnavailable
  repeat' first
    | assumption
    | (with_reducible apply raise_closed h)
    | (with_reducible apply h.logEvent)
    | (with_reducible split)

/-- The axle is connected (R119). -/
theorem startConnecting_closed (h : AirClosed P) (hs : P s) : P (s.startConnecting) := by
  unfold State.startConnecting
  repeat' first
    | assumption
    | (with_reducible apply liftSwitch_closed h)
    | (with_reducible apply withdraw_closed h)
    | (with_reducible apply h.setLift)

/-- VENTING is evaluated (R119). -/
theorem ventingRows_closed (h : AirClosed P) (hs : P s) : P (s.ventingRows) := by
  unfold State.ventingRows
  repeat' first
    | assumption
    | (with_reducible apply startConnecting_closed h)
    | (with_reducible apply join_closed h)
    | (with_reducible split)

/-- A held lowering goes on at the return (R145). -/
theorem releaseVenting_closed (h : AirClosed P) (hs : P s) : P (s.releaseVenting) := by
  unfold State.releaseVenting
  dsimp only
  split
  · exact startConnecting_closed h (h.setLift _ hs)
  · exact ventingRows_closed h (h.setLift _ hs)

/-- LIFT is evaluated in VENTING (R119, R145). -/
theorem evaluateVenting_closed (h : AirClosed P) (hs : P s) : P (s.evaluateVenting) := by
  unfold State.evaluateVenting
  repeat' first
    | assumption
    | (with_reducible apply releaseVenting_closed h)
    | (with_reducible apply ventingRows_closed h)
    | (with_reducible split)

/-- A lowering is held in VENTING (R145). -/
theorem holdVenting_closed (h : AirClosed P) (hs : P s) : P (s.holdVenting) := by
  unfold State.holdVenting
  split
  · exact h.setLift _ hs
  · exact hs

/-- A lowering begins (R120). -/
theorem beginLowering_closed (h : AirClosed P) (cls) (hs : P s) : P (s.beginLowering cls) := by
  unfold State.beginLowering
  dsimp only
  repeat' first
    | assumption
    | (with_reducible apply evaluateVenting_closed h)
    | (with_reducible apply setLiftState_closed h)
    | (with_reducible apply h.setLift)

/-- A cause of a lowering is taken (R120). -/
theorem lower_closed (h : AirClosed P) (cls) (hs : P s) : P (s.lower cls) := by
  unfold State.lower
  dsimp only
  repeat' first
    | assumption
    | (with_reducible apply beginLowering_closed h)
    | (with_reducible apply evaluateVenting_closed h)
    | (with_reducible apply withdraw_closed h)
    | (with_reducible apply h.setLift)
    | (with_reducible split)

/-- FILLING is evaluated (R119). -/
theorem evaluateFilling_closed (h : AirClosed P) (hs : P s) : P (s.evaluateFilling) := by
  unfold State.evaluateFilling
  dsimp only
  repeat' first
    | assumption
    | (with_reducible apply lower_closed h)
    | (with_reducible apply setLiftState_closed h)
    | (with_reducible apply withdraw_closed h)
    | (with_reducible apply join_closed h)
    | (with_reducible apply h.setLift)
    | (with_reducible split)

/-- UP is evaluated (R119). -/
theorem evaluateUp_closed (h : AirClosed P) (hs : P s) : P (s.evaluateUp) := by
  unfold State.evaluateUp
  repeat' first
    | assumption
    | (with_reducible apply lower_closed h)
    | (with_reducible apply withdraw_closed h)
    | (with_reducible apply join_closed h)
    | (with_reducible apply h.setLift)
    | (with_reducible split)

/-- LIFT is evaluated (R119). -/
theorem evaluateLift_closed (h : AirClosed P) (hs : P s) : P (s.evaluateLift) := by
  unfold State.evaluateLift
  repeat' first
    | assumption
    | (with_reducible apply evaluateUp_closed h)
    | (with_reducible apply evaluateFilling_closed h)
    | (with_reducible apply evaluateVenting_closed h)
    | (with_reducible apply withdraw_closed h)
    | (with_reducible split)

/-- LIFT is handed back (R119). -/
theorem liftReturned_closed (h : AirClosed P) (k) (hs : P s) : P (s.liftReturned k) := by
  unfold State.liftReturned
  dsimp only
  repeat' first
    | assumption
    | (with_reducible apply evaluateLift_closed h)
    | (with_reducible apply startConnecting_closed h)
    | (with_reducible apply h.setLift)
    | (with_reducible split)

/-- What a SWITCHED does to the state and the step (R118, R120). -/
theorem afterSwitched_closed (h : AirClosed P) (hs : P s) : P (s.afterSwitched) := by
  unfold State.afterSwitched
  dsimp only
  repeat' first
    | assumption
    | (with_reducible apply setLiftState_closed h)
    | (with_reducible apply h.setLift)
    | (with_reducible split)

/-- A switch ends SWITCHED (R118, R119, R120). -/
theorem liftSwitched_closed (h : AirClosed P) (hs : P s) : P (s.liftSwitched) := by
  unfold State.liftSwitched
  dsimp only
  repeat' first
    | assumption
    | (with_reducible apply evaluateLift_closed h)
    | (with_reducible apply afterSwitched_closed h)
    | (with_reducible apply h.setLift)
    | (with_reducible split)

/-- A switch ends FAILED (R118, R120). -/
theorem liftSwitchFailed_closed (h : AirClosed P) (hs : P s) : P (s.liftSwitchFailed) := by
  unfold State.liftSwitchFailed
  dsimp only
  repeat' first
    | assumption
    | (with_reducible apply raiseUnavailable_closed h)
    | (with_reducible apply evaluateLift_closed h)
    | (with_reducible apply setLiftState_closed h)
    | (with_reducible apply h.setLift)
    | (with_reducible split)

/-- A raise starts (R118). -/
theorem startRaise_closed (h : AirClosed P) (hs : P s) : P (s.startRaise) := by
  unfold State.startRaise
  dsimp only
  repeat' first
    | assumption
    | (with_reducible apply liftSwitch_closed h)
    | (with_reducible apply evaluateLift_closed h)
    | (with_reducible apply setLiftState_closed h)
    | (with_reducible apply h.setLift)

/-- The dwell is tested (R121). -/
theorem testDwell_closed (h : AirClosed P) (hs : P s) : P (s.testDwell) := by
  unfold State.testDwell
  repeat' first
    | assumption
    | (with_reducible apply h.setLift)
    | (with_reducible split)

/-- A side's loads are taken (R121). -/
theorem liftLoads_closed (h : AirClosed P) (side) (r) (hs : P s) : P (s.liftLoads side r) := by
  unfold State.liftLoads
  dsimp only
  repeat' first
    | assumption
    | (with_reducible apply testDwell_closed h)
    | (with_reducible apply lower_closed h)
    | (with_reducible apply h.setLift)
    | (with_reducible split)

/-- A side's loads are held (R121). -/
theorem liftLoadsHeld_closed (h : AirClosed P) (side) (hs : P s) : P (s.liftLoadsHeld side) := by
  unfold State.liftLoadsHeld
  repeat' first
    | assumption
    | (with_reducible apply testDwell_closed h)
    | (with_reducible apply h.setLift)

/-- LIFT stalls (R122). -/
theorem liftStalled_closed (h : AirClosed P) (hs : P s) : P (s.liftStalled) := by
  unfold State.liftStalled
  dsimp only
  repeat' first
    | assumption
    | (with_reducible apply raiseUnavailable_closed h)
    | (with_reducible apply liftSwitch_closed h)
    | (with_reducible apply setLiftState_closed h)
    | (with_reducible apply h.setLift)
    | (with_reducible split)

/-- LIFT becomes ABSENT (R122). -/
theorem liftAbsent_closed (h : AirClosed P) (hs : P s) : P (s.liftAbsent) := by
  unfold State.liftAbsent
  dsimp only
  repeat' first
    | assumption
    | (with_reducible apply setLiftState_closed h)
    | (with_reducible apply clear_closed h)
    | (with_reducible apply h.setLift)

/-- The lift is reconciled (R123). -/
theorem reconcileLift_closed (h : AirClosed P) (hs : P s) : P (s.reconcileLift) := by
  unfold State.reconcileLift
  dsimp only
  repeat' first
    | assumption
    | (with_reducible apply h.logEvent)
    | (with_reducible apply h.setLift)
    | (with_reducible split)

/-- A new position reaches the lift (R123). -/
theorem liftPosition_closed (h : AirClosed P) (pos) (hs : P s) : P (s.liftPosition pos) := by
  unfold State.liftPosition
  repeat' first
    | assumption
    | (with_reducible apply lower_closed h)
    | (with_reducible apply liftSwitch_closed h)
    | (with_reducible split)

/-- A tyre is evaluated (R126). -/
theorem evaluateTyre_closed (h : AirClosed P) (t) (hs : P s) : P (s.evaluateTyre t) := by
  unfold State.evaluateTyre
  repeat' first
    | assumption
    | (with_reducible apply withdraw_closed h)
    | (with_reducible apply join_closed h)
    | (with_reducible split)

/-- Every tyre is evaluated (R125). -/
theorem evaluateTyres_closed (h : AirClosed P) (hs : P s) : P s.evaluateTyres :=
  foldl_closed _ (fun _ _ k => evaluateTyre_closed h _ k) _ hs

/-- A tyre becomes probe due. -/
theorem setProbeDue_closed (h : AirClosed P) (t) (hs : P s) : P (s.setProbeDue t) := by
  unfold State.setProbeDue
  repeat' first
    | assumption
    | (with_reducible refine h.setCircuit _ _ (Nat.le_max_right _ _) ?_)

/-- An interval is judged (R128). -/
theorem judgeInterval_closed (h : AirClosed P) (t) (hs : P s) : P (s.judgeInterval t) := by
  unfold State.judgeInterval
  repeat' first
    | assumption
    | (with_reducible apply setProbeDue_closed h)
    | (with_reducible apply evaluateTyre_closed h)
    | (with_reducible split)

/-- TYRE_LOW is judged (R132). -/
theorem judgeLow_closed (h : AirClosed P) (t) (hs : P s) : P (s.judgeLow t) := by
  unfold State.judgeLow
  dsimp only
  repeat' first
    | assumption
    | (with_reducible apply clear_closed h)
    | (with_reducible apply raise_closed h)
    | (with_reducible apply h.logEvent)
    | (with_reducible apply h.setTyre)
    | (with_reducible split)

/-- A target change is taken (R55). -/
theorem tyreTargetChanged_closed (h : AirClosed P) (t) (hs : P s) : P (s.tyreTargetChanged t) := by
  unfold State.tyreTargetChanged
  repeat' first
    | assumption
    | (with_reducible apply judgeLow_closed h)
    | (with_reducible apply evaluateTyre_closed h)

/-- A leak is measured (R130). -/
theorem measureLeak_closed (h : AirClosed P) (t) (p) (hs : P s) : P (s.measureLeak t p) := by
  unfold State.measureLeak
  dsimp only
  repeat' first
    | assumption
    | (with_reducible apply h.setTyre)
    | (with_reducible refine h.setCircuit _ _ (Nat.le_max_right _ _) ?_)
    | (with_reducible split)

/-- TYRE_LEAK is judged (R131). -/
theorem judgeLeak_closed (h : AirClosed P) (t) (rate) (hs : P s) : P (s.judgeLeak t rate) := by
  unfold State.judgeLeak
  repeat' first
    | assumption
    | (with_reducible apply clear_closed h)
    | (with_reducible apply raise_closed h)
    | (with_reducible apply h.logEvent)
    | (with_reducible apply h.setTyre)
    | (with_reducible split)

/-- A tyre is isolated (R134). -/
theorem isolate_closed (h : AirClosed P) (t) (cause) (value) (hs : P s) : P (s.isolate t cause value) := by
  unfold State.isolate
  dsimp only
  repeat' first
    | assumption
    | (with_reducible apply raise_closed h)
    | (with_reducible apply h.logEvent)
    | (with_reducible apply h.setTyre)
    | (with_reducible apply h.removeDemand)
    | (with_reducible refine h.setCircuit _ _ (Nat.le_max_right _ _) ?_)

/-- The isolation tests are made (R133). -/
theorem testIsolation_closed (h : AirClosed P) (t) (rate) (hs : P s) : P (s.testIsolation t rate) := by
  unfold State.testIsolation
  repeat' first
    | assumption
    | (with_reducible apply isolate_closed h)
    | (with_reducible split)

/-- The isolation tests are made on every tyre (R133). -/
theorem testIsolations_closed (h : AirClosed P) (hs : P s) : P s.testIsolations :=
  foldl_closed _ (fun _ _ k => testIsolation_closed h _ _ k) _ hs

/-- A tyre's transaction ends (R129). -/
theorem tyreReturned_closed (h : AirClosed P) (t k o read) (hs : P s) : P (s.tyreReturned t k o read) := by
  unfold State.tyreReturned
  extract_lets probed rate s1 s2 s3 s4 s5
  have k1 : P s1 := by
    show P (match probed with | some p => s.measureLeak t p | none => s)
    cases probed with
    | some p => exact measureLeak_closed h _ _ hs
    | none => exact hs
  have k2 : P s2 := by
    show P (match rate with | some x => s1.judgeLeak t x | none => s1)
    cases rate with
    | some x => exact judgeLeak_closed h _ _ k1
    | none => exact k1
  have k3 : P s3 := by
    show P (if read.isSome then s2.judgeLow t else s2)
    split
    · exact judgeLow_closed h _ k2
    · exact k2
  have k5 : P s5 := judgeInterval_closed h _ (testIsolation_closed h _ _ k3)
  split
  · exact evaluateTyre_closed h _ k5
  · exact k5

/-- A tyre is resumed (R136). -/
theorem resumeIsolated_closed (h : AirClosed P) (t) (hs : P s) : P (s.resumeIsolated t) := by
  unfold State.resumeIsolated
  dsimp only
  repeat' first
    | assumption
    | (with_reducible apply evaluateTyre_closed h)
    | (with_reducible apply clear_closed h)
    | (with_reducible apply h.logEvent)
    | (with_reducible apply h.setTyre)
    | (with_reducible refine h.setCircuit _ _ (Nat.le_max_right _ _) ?_)

/-! ### The Transaction Engine -/

/-- A stall is reported (R8). -/
theorem reportStall_closed (h : AirClosed P) (c) (value) (hs : P s) : P (s.reportStall c value) := by
  unfold State.reportStall
  repeat' first
    | assumption
    | (with_reducible apply raise_closed h)
    | (with_reducible apply h.logEvent)

/-- A stall sets the strike count to 0 (R8). -/
theorem stall_closed (h : AirClosed P) (c value) (hs : P s) : P (s.stall c value) := by
  unfold State.stall
  dsimp only
  have k : P (((s.removeDemand c).setCircuit c
      { (s.removeDemand c).circuit c with state := .stalled, strikes := 0, holdoffEnd := none }).reportStall c
        value) := reportStall_closed h _ _ (h.setCircuit _ _ (Nat.zero_le _) (h.removeDemand _ hs))
  split
  · split
    · exact liftStalled_closed h k
    · exact k
  · exact hs

/-- A circuit is evaluated (R97). -/
theorem evaluateCircuit_closed (h : AirClosed P) (c) (hs : P s) : P (s.evaluateCircuit c) := by
  unfold State.evaluateCircuit
  repeat' first
    | assumption
    | (with_reducible apply evaluateTyre_closed h)
    | (with_reducible apply evaluateLift_closed h)
    | (with_reducible apply evaluateSide_closed h)
    | (with_reducible split)

/-- A circuit is handed back (R97). -/
theorem handBack_closed (h : AirClosed P) (t) (o) (ending) (hs : P s) : P (s.handBack t o ending) := by
  unfold State.handBack
  repeat' first
    | assumption
    | (with_reducible apply tyreReturned_closed h)
    | (with_reducible apply liftStalled_closed h)
    | (with_reducible apply liftReturned_closed h)
    | (with_reducible apply markAtLimit_closed h)
    | (with_reducible apply evaluateSide_closed h)
    | (with_reducible split)

/-- The strike count after a transaction does not come above 2 (R95). -/
theorem recordAfter_strikes (r : CircuitRecord) (t : Transaction) (o : TransactionOutcome) (b : Bool) (m : Nat) :
    (recordAfter r t o (endingOf o r.strikes b) m).strikes ≤ max 2 r.strikes := by
  cases o <;> simp only [endingOf, strikesAfter, recordAfter]
  all_goals first
    | omega
    | (split <;> rename_i k <;> (try split at k) <;> simp_all <;> omega)

/-- The valves of a transaction closed at its end (R97, R100). -/
theorem closeAtEnd_closed (h : AirClosed P) (t o) (hs : P s) : P (s.closeAtEnd t o) := by
  unfold State.closeAtEnd
  split
  · exact foldl_closed _ (fun _ _ k => closeAtVerdict_closed h _ k) _ hs
  · exact closeAll_closed h _ hs

/-- A transaction ends (R97). -/
theorem endTransaction_closed (h : AirClosed P) (t o b) (hs : P s) : P (s.endTransaction t o b) := by
  unfold State.endTransaction
  extract_lets s1 released s2 ending s3 s4 s5 s6
  have k2 : P s2 := h.freeResources _ _ _ (closeAtEnd_closed h _ _ hs)
  have k3 : P s3 := h.setCircuit t.circuit _ (recordAfter_strikes _ t o b (s.now + s.params.p45)) k2
  have k4 : P s4 := by
    show P (match ending with | .stalled value => s3.reportStall t.circuit value | _ => s3)
    cases ending with
    | stalled value => exact reportStall_closed h _ _ k3
    | idle => exact k3
    | holdoff => exact k3
  have k5 : P s5 := h.dropTransaction _ k4
  have k6 : P s6 := by
    show P (if released = true then s5.pass else s5)
    split
    · exact pass_closed h k5
    · exact k5
  exact handBack_closed h _ _ _ k6

/-- A READ is written (R89). -/
theorem writeRead_closed (h : AirClosed P) (c) (read) (hs : P s) : P (s.writeRead c read) := by
  unfold State.writeRead
  repeat' first
    | assumption
    | (with_reducible refine h.setCircuit _ _ (Nat.le_max_right _ _) ?_)
    | (with_reducible split)

/-- A transaction is judged and ends (R84). -/
theorem finishTransaction_closed (h : AirClosed P) (t) (hs : P s) : P (s.finishTransaction t) := by
  unfold State.finishTransaction
  dsimp only
  repeat' first
    | assumption
    | (with_reducible apply writeRead_closed h)
    | (with_reducible apply endTransaction_closed h)
    | (with_reducible split)

/-- A fill pulse ends (R84). -/
theorem endFillPulse_closed (h : AirClosed P) (t) (next) (hs : P s) : P (s.endFillPulse t next) := by
  unfold State.endFillPulse
  dsimp only
  repeat' first
    | assumption
    | (with_reducible apply pass_closed h)
    | (with_reducible apply closeAll_closed h)
    | (with_reducible apply h.freeResources)
    | (with_reducible apply h.setTransaction)
    | (with_reducible split)

/-- A phase without a supply ends (R84). -/
theorem endPlainPhase_closed (h : AirClosed P) (t) (next) (hs : P s) : P (s.endPlainPhase t next) := by
  unfold State.endPlainPhase
  dsimp only
  repeat' first
    | assumption
    | (with_reducible apply closeAll_closed h)
    | (with_reducible apply requestOpenAll_closed h)
    | (with_reducible apply h.setTransaction)

/-- CHARGE ends (R87). -/
theorem endCharge_closed (h : AirClosed P) (t) (hs : P s) : P (s.endCharge t) := by
  unfold State.endCharge
  repeat' first
    | assumption
    | (with_reducible apply requestOpenAll_closed h)
    | (with_reducible apply h.setTransaction)

/-- A phase ends (R84). -/
theorem endPhase_closed (h : AirClosed P) (t) (hs : P s) : P (s.endPhase t) := by
  unfold State.endPhase
  repeat' first
    | assumption
    | (with_reducible apply endCharge_closed h)
    | (with_reducible apply endPlainPhase_closed h)
    | (with_reducible apply endFillPulse_closed h)
    | (with_reducible apply finishTransaction_closed h)
    | (with_reducible split)

/-- The reserve cuts a fill (R98). -/
theorem reserveCut_closed (h : AirClosed P) (hs : P s) : P (s.reserveCut) := by
  unfold State.reserveCut
  repeat' first
    | assumption
    | (with_reducible apply endTransaction_closed h)
    | (with_reducible split)

/-- A trip cuts a fill (R99). -/
theorem tripCut_closed (h : AirClosed P) (k) (hs : P s) : P (s.tripCut k) := by
  unfold State.tripCut
  repeat' first
    | assumption
    | (with_reducible apply endTransaction_closed h)
    | (with_reducible split)

/-- A faulty valve goes out of service (R14, R100). -/
theorem faultOutOfService_closed (h : AirClosed P) (v) (hs : P s) : P (s.faultOutOfService v) := by
  unfold State.faultOutOfService
  repeat' first
    | assumption
    | (with_reducible apply endTransaction_closed h)
    | (with_reducible apply stall_closed h)
    | (with_reducible split)

/-- Every transaction ends ABORTED (R101). -/
theorem abortAll_closed (h : AirClosed P) (hs : P s) : P s.abortAll :=
  foldl_closed _ (fun _ _ k => endTransaction_closed h _ _ _ k) _ hs

/-- A hand-off is taken. -/
theorem takeDeferred_closed (h : AirClosed P) (d) (hs : P s) : P (s.takeDeferred d) := by
  unfold State.takeDeferred
  repeat' first
    | assumption
    | (with_reducible apply endTransaction_closed h)
    | (with_reducible apply liftSwitched_closed h)
    | (with_reducible split)

/-- Hand-offs are taken, as many as the fuel lets. -/
theorem settleFor_closed (h : AirClosed P) (n : Nat) (hs : P s) : P (State.settleFor n s) := by
  induction n generalizing s with
  | zero => exact hs
  | succ n ih =>
    unfold State.settleFor
    split
    · exact hs
    · exact ih (takeDeferred_closed h _ (h.setDeferred _ hs))

/-- The hand-offs of a command are taken. -/
theorem settle_closed (h : AirClosed P) (hs : P s) : P s.settle := settleFor_closed h _ hs

end AirClosed
end Sys2Proof.Machine
end

