-- ==== Sys2Proof/Laws/Unit.lean ====
section
/-! SUPPORT. What the whole unit can do, said once: `EstimatorClosed P`, `MidClosed P` and `CoreClosed P` add to
`AirClosed P` the kinds of update of the other blocks, and `UnitClosed P` those of the handling of a request and
of the resets. Sys2Proof/Laws/UnitOps.lean and Sys2Proof/Laws/Exec.lean then say that every command keeps `P`. -/

namespace Sys2Proof.Machine

/-- What a reading may do to a channel's counters: none comes above its limit (R21, R26, R30). -/
def ChannelStep (ch : Channel) (old new : AnalogChannel) : Prop :=
  new.history.length ≤ max (historyCapacity ch) old.history.length ∧
    new.badScore ≤ max Fixed.badScoreLimit old.badScore ∧ new.goodRun ≤ max Fixed.recoveryRun old.goodRun

/-- `P` is kept by the updates of the air control, of the Load Estimator and of a fault flag cleared. -/
structure EstimatorClosed (P : State → Prop) : Prop extends AirClosed P where
  /-- the Load Estimator's items are replaced -/
  setEstimator : ∀ {s : State} (x), P s → P (s.setEstimator x)
  /-- a fault flag is cleared (R15) -/
  clearFlag : ∀ {s : State} (v), P s → P (s.setValve v { s.valve v with fault := false })

/-- `P` is kept by the updates of the air control, of the Load Estimator and of the Supervisor's items other than
the control state. -/
structure MidClosed (P : State → Prop) : Prop extends EstimatorClosed P where
  /-- the Supervisor's items are replaced, but for the control state -/
  setSupervisor : ∀ {s : State} (x : Supervisor), x.control = s.supervisor.control → P s → P (s.setSupervisor x)

/-- `P` is kept by every kind of update that carrying out a request or taking a reading or a moment makes. -/
structure CoreClosed (P : State → Prop) : Prop extends MidClosed P where
  /-- the control state is replaced, but for a departure from RUNNING -/
  setControl : ∀ {s : State} (c : ControlState), (s.isRunning = true → c = .running) → P s → P (s.setControl c)
  /-- a departure from RUNNING, as one act (R145) -/
  leaveRunning : ∀ {s : State} (c : ControlState), c ≠ .running → P s → P (s.leaveRunning c)
  /-- the Height Controller's items are replaced, but for the ramp state -/
  setHeight : ∀ {s : State} (x : HeightController), x.ramp = s.height.ramp → x.rampRead = s.height.rampRead → P s →
    P (s.setHeight x)
  /-- a fault flag is set (R13) -/
  setFlag : ∀ {s : State} (v), P s → P (s.setValve v { s.valve v with fault := true })
  /-- a channel takes a reading or is computed again -/
  setChannel : ∀ {s : State} (ch) (x : AnalogChannel), ChannelStep ch (s.channel ch) x → P s → P (s.setChannel ch x)
  /-- a comparator is replaced (R36, R37) -/
  setComparator : ∀ {s : State} (k) (x), P s → P (s.setComparator k x)
  /-- the ramp input is replaced (R38) -/
  setRamp : ∀ {s : State} (x), P s → P (s.setSensing { s.sensing with ramp := x })
  /-- the position input is replaced (R39) -/
  setPositionInput : ∀ {s : State} (x), P s → P (s.setSensing { s.sensing with position := x })
  /-- the lamp is replaced (R20) -/
  setLamp : ∀ {s : State} (x), P s → P (s.setDriver { s.driver with lamp := x })
  /-- items of the Link Port are replaced, but for the Transmit Queue, the secured place and the pending restart -/
  setLink : ∀ {s : State} (x : LinkPort), x.queue = s.link.queue → x.secured = s.link.secured →
    x.restartPending = s.link.restartPending → P s → P (s.setLink x)
  /-- the Transmit Queue grows shorter -/
  setQueue : ∀ {s : State} (q : List Telegram), q.length ≤ s.link.queue.length → P s → P (s.setQueue q)
  /-- a notice is offered (R158) -/
  offerNotice : ∀ {s : State} (k body), P s → P (s.offerNotice k body)
  /-- items of the Event Unit are replaced; its queue grows no longer -/
  setEvents : ∀ {s : State} (x : EventUnit), x.queue.length ≤ s.events.queue.length → P s → P (s.setEvents x)

/-- `P` is kept by the updates above and by those of the running configuration, the Profile Store and start-up. -/
structure ConfigClosed (P : State → Prop) : Prop extends CoreClosed P where
  /-- the running configuration is replaced -/
  setParams : ∀ {s : State} (x), P s → P (s.setParams x)
  /-- the Profile Store is replaced -/
  setStore : ∀ {s : State} (x), P s → P (s.setStore x)
  /-- the items of the loader and start-up are replaced -/
  setStartUp : ∀ {s : State} (x), P s → P (s.setStartUp x)

/-- `P` is kept by every kind of update that a request may make. -/
structure RequestClosed (P : State → Prop) : Prop extends ConfigClosed P where
  /-- a restart becomes pending (R148) -/
  setRestart : ∀ {s : State}, P s → P (s.setLink { s.link with restartPending := true })

/-- `P` is kept by every kind of update the unit makes. -/
structure UnitClosed (P : State → Prop) : Prop extends RequestClosed P where
  /-- the ramp state is replaced (R108) -/
  setRampState : ∀ {s : State} (x), P s → P (s.setHeight { s.height with rampRead := true, ramp := x })
  /-- a place for a reply is secured (R157) -/
  securePlace : ∀ {s t : State}, s.securePlace = some t → P s → P t
  /-- a reply takes its place (R153) -/
  placeReply : ∀ {s : State} (r), s.link.secured = true → P s → P (s.placeReply r)
  /-- the power-on reset (R148) -/
  powerOn : ∀ {s : State}, P s → P s.powerOn
  /-- a restart (R148) -/
  doRestart : ∀ {s : State}, P s → P s.doRestart

end Sys2Proof.Machine
end

