-- ==== Sys2Proof/Laws/UnitOps.lean ====
section
/-! SUPPORT. Each operation of the blocks above the air control, up to the carrying out of a request, keeps what
every kind of update keeps (`CoreClosed`). -/

namespace Sys2Proof.Machine
namespace EstimatorClosed

variable {P : State → Prop} {s : State}

/-! ### The valves -/

theorem clearFault_closed (hm : EstimatorClosed P) (v : ValveId) (hs : P s) : P (s.clearFault v) := by
  unfold State.clearFault
  split
  · exact AirClosed.clear_closed hm.toAirClosed _ (hm.clearFlag v hs)
  · exact hs

theorem clearFaults_closed (hm : EstimatorClosed P) (vs : List ValveId) (hs : P s) : P (s.clearFaults vs) :=
  foldl_closed _ (fun _ _ k => clearFault_closed hm _ k) _ hs

/-! ### The Load Estimator -/

theorem setSideRecord_closed (hm : EstimatorClosed P) (side : Side) (r : SideRecord) (hs : P s) :
    P (s.setSideRecord side r) := by
  unfold State.setSideRecord
  repeat' first
  | (with_reducible assumption)
  | (with_reducible apply hm.setEstimator)

theorem raiseOverload_closed (hm : EstimatorClosed P) (side : Side) (load : Nat) (hs : P s) :
    P (s.raiseOverload side load) := by
  unfold State.raiseOverload
  repeat' first
  | (with_reducible assumption)
  | (with_reducible apply AirClosed.raise_closed hm.toAirClosed)
  | (with_reducible apply hm.logEvent)

theorem storeRecord_closed (hm : EstimatorClosed P) (side : Side) (r : SideRecord) (hs : P s) :
    P (s.storeRecord side r) := by
  unfold State.storeRecord
  dsimp only
  repeat' first
  | (with_reducible assumption)
  | (with_reducible apply raiseOverload_closed hm)
  | (with_reducible apply setSideRecord_closed hm)
  | (with_reducible apply AirClosed.clear_closed hm.toAirClosed)
  | (with_reducible split)

theorem writeTyreTarget_closed (hm : EstimatorClosed P) (t : TyreId) (hs : P s) :
    P (s.writeTyreTarget t) := by
  unfold State.writeTyreTarget
  repeat' first
  | (with_reducible assumption)
  | (with_reducible refine hm.setCircuit _ _ (Nat.le_max_right _ _) ?_)

theorem writeTargets_closed (hm : EstimatorClosed P) (side : Side) (hs : P s) : P (s.writeTargets side) :=
  foldl_closed _ (fun _ _ k => AirClosed.tyreTargetChanged_closed hm.toAirClosed _ k) _
    (foldl_closed _ (fun _ _ k => writeTyreTarget_closed hm _ k) _ hs)

theorem recomputeRecord_closed (hm : EstimatorClosed P) (side : Side) (st : Stages) (hs : P s) :
    P (s.recomputeRecord side st) := by
  unfold State.recomputeRecord
  repeat' first
  | (with_reducible assumption)
  | (with_reducible apply storeRecord_closed hm)

theorem handLoads_closed (hm : EstimatorClosed P) (side : Side) (st : Stages) (hs : P s) :
    P (s.handLoads side st) := by
  unfold State.handLoads
  repeat' first
  | (with_reducible assumption)
  | (with_reducible apply AirClosed.liftLoads_closed hm.toAirClosed)
  | (with_reducible split)

theorem recompute_closed (hm : EstimatorClosed P) (side : Side) (st : Stages) (hs : P s) :
    P (s.recompute side st) := by
  unfold State.recompute
  repeat' first
  | (with_reducible assumption)
  | (with_reducible apply handLoads_closed hm)
  | (with_reducible apply recomputeRecord_closed hm)
  | (with_reducible apply writeTargets_closed hm)

theorem recomputeSides_closed (hm : EstimatorClosed P) (st : Stages) (hs : P s) :
    P (s.recomputeSides st) := by
  unfold State.recomputeSides
  dsimp only
  repeat' first
  | (with_reducible assumption)
  | (with_reducible apply handLoads_closed hm)
  | (with_reducible apply recomputeRecord_closed hm)
  | (with_reducible apply writeTargets_closed hm)

theorem estimatePressure_closed (hm : EstimatorClosed P) (side : Side) (p : Nat) (hs : P s) :
    P (s.estimatePressure side p) := by
  unfold State.estimatePressure
  repeat' first
  | (with_reducible assumption)
  | (with_reducible apply recompute_closed hm)
  | (with_reducible apply setSideRecord_closed hm)

theorem pressureFailed_closed (hm : EstimatorClosed P) (side : Side) (hs : P s) :
    P (s.pressureFailed side) := by
  unfold State.pressureFailed
  repeat' first
  | (with_reducible assumption)
  | (with_reducible apply setSideRecord_closed hm)
  | (with_reducible apply AirClosed.liftLoadsHeld_closed hm.toAirClosed)
  | (with_reducible split)

theorem estimateHeight_closed (hm : EstimatorClosed P) (side : Side) (hs : P s) :
    P (s.estimateHeight side) := by
  unfold State.estimateHeight
  dsimp only
  repeat' first
  | (with_reducible assumption)
  | (with_reducible apply recompute_closed hm)
  | (with_reducible split)

theorem refreshSource_closed (hm : EstimatorClosed P) (side : Side) (hs : P s) :
    P (s.refreshSource side) := by
  unfold State.refreshSource
  repeat' first
  | (with_reducible assumption)
  | (with_reducible apply recompute_closed hm)
  | (with_reducible split)

theorem estimateHeightStatus_closed (hm : EstimatorClosed P) (hs : P s) :
    P s.estimateHeightStatus := by
  unfold State.estimateHeightStatus
  repeat' first
  | (with_reducible assumption)
  | (with_reducible apply refreshSource_closed hm)

theorem refreshTarget_closed (hm : EstimatorClosed P) (side : Side) (hs : P s) :
    P (s.refreshTarget side) := by
  unfold State.refreshTarget
  repeat' first
  | (with_reducible assumption)
  | (with_reducible apply recompute_closed hm)
  | (with_reducible split)

theorem estimateTarget_closed (hm : EstimatorClosed P) (hs : P s) :
    P s.estimateTarget := by
  unfold State.estimateTarget
  repeat' first
  | (with_reducible assumption)
  | (with_reducible apply refreshTarget_closed hm)

theorem writeFrozen_closed (hm : EstimatorClosed P) (t : TyreId) (hs : P s) :
    P (s.writeFrozen t) := by
  unfold State.writeFrozen
  repeat' first
  | (with_reducible assumption)
  | (with_reducible refine hm.setCircuit _ _ (Nat.le_max_right _ _) ?_)

theorem estimatePosition_closed (hm : EstimatorClosed P) (hs : P s) : P s.estimatePosition := by
  unfold State.estimatePosition
  split
  · exact foldl_closed _ (fun _ _ k => AirClosed.evaluateTyre_closed hm.toAirClosed _ k) _
      (recomputeSides_closed hm _ (foldl_closed _ (fun _ _ k => writeFrozen_closed hm _ k) _ hs))
  · exact hs

theorem setAllowance_closed (hm : EstimatorClosed P) (b : Bool) (hs : P s) :
    P (s.setAllowance b) := by
  unfold State.setAllowance
  repeat' first
  | (with_reducible assumption)
  | (with_reducible apply hm.setEstimator)

theorem judgeAllowance_closed (hm : EstimatorClosed P) (hs : P s) :
    P s.judgeAllowance := by
  unfold State.judgeAllowance
  repeat' first
  | (with_reducible assumption)
  | (with_reducible apply setAllowance_closed hm)
  | (with_reducible apply recomputeSides_closed hm)
  | (with_reducible split)

theorem writeReclamped_closed (hm : EstimatorClosed P) (t : TyreId) (hs : P s) :
    P (s.writeReclamped t) := by
  unfold State.writeReclamped
  repeat' first
  | (with_reducible assumption)
  | (with_reducible refine hm.setCircuit _ _ (Nat.le_max_right _ _) ?_)

/-! ### Heights lost and presence -/

theorem followMeasured_closed (hm : EstimatorClosed P) (c : CircuitId) (v : Option Nat) (hs : P s) :
    P (s.followMeasured c v) := by
  unfold State.followMeasured
  repeat' first
  | (with_reducible assumption)
  | (with_reducible refine hm.setCircuit _ _ (Nat.le_max_right _ _) ?_)
  | (with_reducible split)

theorem loseSide_closed (hm : EstimatorClosed P) (side : Side) (hs : P s) :
    P (s.loseSide side) := by
  unfold State.loseSide
  dsimp only
  repeat' first
  | (with_reducible assumption)
  | (with_reducible apply AirClosed.withdraw_closed hm.toAirClosed)
  | (with_reducible apply hm.setSideControl)

theorem judgeHeightLost_closed (hm : EstimatorClosed P) (hs : P s) :
    P s.judgeHeightLost := by
  unfold State.judgeHeightLost
  repeat' first
  | (with_reducible assumption)
  | (with_reducible apply loseSide_closed hm)
  | (with_reducible apply AirClosed.clear_closed hm.toAirClosed)
  | (with_reducible apply AirClosed.raise_closed hm.toAirClosed)
  | (with_reducible apply hm.logEvent)
  | (with_reducible split)

theorem makeAbsent_closed (hm : EstimatorClosed P) (c : CircuitId) (hs : P s) : P (s.makeAbsent c) := by
  have k : P (((s.setCircuit c CircuitRecord.initial).clearCircuit c).clearFaults (ownValves c)) :=
    clearFaults_closed hm _ (AirClosed.clearCircuit_closed hm.toAirClosed _
      (hm.setCircuit _ _ (Nat.zero_le _) hs))
  unfold State.makeAbsent
  dsimp only
  split
  · exact k
  · exact hm.setTyre _ _ k
  · exact AirClosed.liftAbsent_closed hm.toAirClosed k

theorem dropCircuits_closed (hm : EstimatorClosed P) (renumber : Bool) (hs : P s) : P (s.dropCircuits renumber) :=
  foldl_closed _ (fun _ _ k => makeAbsent_closed hm _ k) _ hs

theorem becomePresent_closed (hm : EstimatorClosed P) (c : CircuitId) (hs : P s) : P (s.becomePresent c) := by
  have k : P (s.setCircuit c (s.presentRecord c)) := by
    refine hm.setCircuit _ _ ?_ hs
    unfold State.presentRecord
    split <;> exact Nat.zero_le _
  unfold State.becomePresent
  dsimp only
  split
  · exact hm.setTyre _ _ k
  · exact k

theorem firstEvaluation_closed (hm : EstimatorClosed P) (c : CircuitId) (hs : P s) : P (s.firstEvaluation c) := by
  unfold State.firstEvaluation
  refine AirClosed.evaluateCircuit_closed hm.toAirClosed _ ?_
  split
  · split
    · exact raiseOverload_closed hm _ _ hs
    · exact hs
  · exact hs

theorem applyChange_closed (hm : EstimatorClosed P) (a : Application) (hs : P s) : P (s.applyChange a) := by
  unfold State.applyChange
  extract_lets s1 s2 frozen s3 clamped s4 new s5 s6 s7 s8
  have k1 : P s1 := recomputeRecord_closed hm _ _ (recomputeRecord_closed hm _ _ hs)
  have k2 : P s2 := by
    show P (if a.presence then s1.dropCircuits a.renumber else s1)
    split
    · exact dropCircuits_closed hm _ k1
    · exact k1
  have k3 : P s3 := foldl_closed _ (fun _ _ k => writeFrozen_closed hm _ k) _ k2
  have k4 : P s4 := foldl_closed _ (fun _ _ k => writeReclamped_closed hm _ k) _ k3
  have k5 : P s5 := foldl_closed _ (fun _ _ k => becomePresent_closed hm _ k) _ k4
  have k6 : P s6 := handLoads_closed hm _ _ (handLoads_closed hm _ _ k5)
  have k7 : P s7 := writeTargets_closed hm _ (writeTargets_closed hm _ k6)
  have k8 : P s8 := foldl_closed _ (fun _ _ k => AirClosed.evaluateTyre_closed hm.toAirClosed _ k) _
    (foldl_closed _ (fun _ _ k => AirClosed.tyreTargetChanged_closed hm.toAirClosed _ k) _ k7)
  exact foldl_closed _ (fun _ _ k => firstEvaluation_closed hm _ k) _ k8

theorem applyConfiguration_closed (hm : EstimatorClosed P) (hs : P s) :
    P s.applyConfiguration := by
  unfold State.applyConfiguration
  repeat' first
  | (with_reducible assumption)
  | (with_reducible apply applyChange_closed hm)

end EstimatorClosed

/-- What the Load Estimator and the presence of the circuits leave alone: internal time, the running configuration, the
Sensing Block, the Supervisor, and the Height Controller's mode, target, ramp and speed. -/
structure EstimatorFrame (a s : State) : Prop where
  now : s.now = a.now
  params : s.params = a.params
  sensing : s.sensing = a.sensing
  supervisor : s.supervisor = a.supervisor
  mode : s.height.mode = a.height.mode
  customHeight : s.height.customHeight = a.height.customHeight
  target : s.height.target = a.height.target
  ramp : s.height.ramp = a.height.ramp
  rampRead : s.height.rampRead = a.height.rampRead
  speed : s.height.speed = a.height.speed
  speedMark : s.height.speedMark = a.height.speedMark

/-- What the air control leaves alone covers it. -/
theorem AirFrame.toEstimatorFrame {a s : State} (h : AirFrame a s) : EstimatorFrame a s :=
  ⟨h.now, h.params, h.sensing, h.supervisor, h.mode, h.customHeight, h.target, h.ramp, h.rampRead, h.speed,
    h.speedMark⟩

/-- Agreement composes. -/
theorem EstimatorFrame.trans {a b c : State} (h : EstimatorFrame a b) (k : EstimatorFrame b c) :
    EstimatorFrame a c := by
  cases h; cases k; constructor <;> simp_all

/-- The Load Estimator leaves alone what `EstimatorFrame` names. -/
theorem estimatorFrame_closed (a : State) : EstimatorClosed (EstimatorFrame a) where
  toAirClosed := by
    have k {s t : State} (f : AirClosed (AirFrame s) → AirFrame s t) (h : EstimatorFrame a s) : EstimatorFrame a t :=
      h.trans (f (airFrame_closed s)).toEstimatorFrame
    exact {
      logEvent := fun e sev c v h => k (fun f => f.logEvent e sev c v (.refl _)) h
      setConditions := fun x h => k (fun f => f.setConditions x (.refl _)) h
      setCircuit := fun c r l h => k (fun f => f.setCircuit c r l (.refl _)) h
      setTyre := fun t x h => k (fun f => f.setTyre t x (.refl _)) h
      setSideControl := fun side x h => k (fun f => f.setSideControl side x (.refl _)) h
      setLift := fun x h => k (fun f => f.setLift x (.refl _)) h
      removeDemand := fun c h => k (fun f => f.removeDemand c (.refl _)) h
      setReason := fun c r h => k (fun f => f.setReason c r (.refl _)) h
      raiseDemand := fun d cls c l h => k (fun f => f.raiseDemand d cls c l (.refl _)) h
      insertDemand := fun d l h => k (fun f => f.insertDemand d l (.refl _)) h
      giveResources := fun x y l h => k (fun f => f.giveResources x y l (.refl _)) h
      freeResources := fun c x y h => k (fun f => f.freeResources c x y (.refl _)) h
      addTransaction := fun t l m h => k (fun f => f.addTransaction t l m (.refl _)) h
      setTransaction := fun t h => k (fun f => f.setTransaction t (.refl _)) h
      dropTransaction := fun c h => k (fun f => f.dropTransaction c (.refl _)) h
      openValve := fun c v l m n h => k (fun f => f.openValve c v l m n (.refl _)) h
      setValve := fun v x l m h => k (fun f => f.setValve v x l m (.refl _)) h
      setIsolation := fun x h => k (fun f => f.setIsolation x (.refl _)) h
      clearDemands := fun h => k (fun f => f.clearDemands (.refl _)) h
      setDeferred := fun d h => k (fun f => f.setDeferred d (.refl _)) h }
  setEstimator x h := ⟨h.now, h.params, h.sensing, h.supervisor, h.mode, h.customHeight, h.target, h.ramp, h.rampRead,
    h.speed, h.speedMark⟩
  clearFlag v h := ⟨h.now, h.params, h.sensing, h.supervisor, h.mode, h.customHeight, h.target, h.ramp, h.rampRead,
    h.speed, h.speedMark⟩

namespace MidClosed

variable {P : State → Prop} {s : State}

/-! ### The reserve state -/

theorem reportReserve_closed (hm : MidClosed P) (held new : ReserveState) (first : Bool) (hs : P s) :
    P (s.reportReserve held new first) := by
  unfold State.reportReserve
  repeat' first
  | (with_reducible assumption)
  | (with_reducible apply AirClosed.clear_closed hm.toAirClosed)
  | (with_reducible apply AirClosed.raise_closed hm.toAirClosed)
  | (with_reducible apply hm.logEvent)
  | (with_reducible split)

theorem changeReserve_closed (hm : MidClosed P) (new : ReserveState) (first : Bool) (hs : P s) :
    P (s.changeReserve new first) := by
  unfold State.changeReserve
  dsimp only
  repeat' first
  | (with_reducible assumption)
  | (with_reducible apply reportReserve_closed hm)
  | (with_reducible apply AirClosed.reserveCut_closed hm.toAirClosed)
  | (with_reducible apply AirClosed.testIsolations_closed hm.toAirClosed)
  | (with_reducible apply AirClosed.pass_closed hm.toAirClosed)
  | (with_reducible apply AirClosed.closeValve_closed hm.toAirClosed)
  | (with_reducible refine hm.setSupervisor _ ?_ ?_)
  | exact rfl
  | (with_reducible split)

theorem judgeReserve_closed (hm : MidClosed P) (r : Nat) (hs : P s) :
    P (s.judgeReserve r) := by
  unfold State.judgeReserve
  dsimp only
  repeat' first
  | (with_reducible assumption)
  | (with_reducible apply changeReserve_closed hm)
  | (with_reducible split)

theorem reserveChannelFailed_closed (hm : MidClosed P) (hs : P s) :
    P s.reserveChannelFailed := by
  unfold State.reserveChannelFailed
  repeat' first
  | (with_reducible assumption)
  | (with_reducible apply changeReserve_closed hm)
  | (with_reducible split)

theorem rejudgeReserve_closed (hm : MidClosed P) (hs : P s) :
    P s.rejudgeReserve := by
  unfold State.rejudgeReserve
  repeat' first
  | (with_reducible assumption)
  | (with_reducible apply judgeReserve_closed hm)
  | (with_reducible split)

end MidClosed
namespace CoreClosed

variable {P : State → Prop} {s : State}

/-! ### The Supervisor -/

theorem enterRunning_closed (hc : CoreClosed P) (hs : P s) : P s.enterRunning := by
  have k : P ((s.setControl .running).pass.testDwell) :=
    AirClosed.testDwell_closed hc.toAirClosed (AirClosed.pass_closed hc.toAirClosed (hc.setControl _ (fun _ => rfl) hs))
  refine foldl_closed _ (fun t c kt => ?_) _ k
  unfold State.evaluatePresent
  split
  · exact AirClosed.evaluateCircuit_closed hc.toAirClosed _ kt
  · exact kt

theorem beginControl_closed (hc : CoreClosed P) (hr : s.isRunning = false) (hs : P s) : P s.beginControl := by
  unfold State.beginControl
  split
  · exact hc.setControl _ (fun k => by rw [hr] at k; cases k) hs
  · exact enterRunning_closed hc hs

theorem enterLowSupply_closed (hc : CoreClosed P) (hs : P s) : P s.enterLowSupply := by
  unfold State.enterLowSupply
  extract_lets src s1 s2
  have k1 : P s1 := hc.setSupervisor _ rfl hs
  have k2 : P s2 := AirClosed.holdPulse_closed hc.toAirClosed (hc.logEvent _ _ _ _
    (AirClosed.raise_closed hc.toAirClosed _ _ k1))
  split
  · exact hc.leaveRunning _ (by decide) k2
  · exact k2

theorem judgeSupply_closed (hc : CoreClosed P) (v : Nat) (hs : P s) :
    P (s.judgeSupply v) := by
  unfold State.judgeSupply
  repeat' first
  | (with_reducible assumption)
  | (with_reducible apply enterLowSupply_closed hc)
  | (with_reducible apply AirClosed.resumePulse_closed hc.toAirClosed)
  | (with_reducible refine hc.setSupervisor _ ?_ ?_)
  | exact rfl
  | (with_reducible split)

theorem supplyChannelFailed_closed (hc : CoreClosed P) (hs : P s) :
    P s.supplyChannelFailed := by
  unfold State.supplyChannelFailed
  repeat' first
  | (with_reducible assumption)
  | (with_reducible apply enterLowSupply_closed hc)
  | (with_reducible refine hc.setSupervisor _ ?_ ?_)
  | exact rfl
  | (with_reducible split)

theorem restoreSupply_closed (hc : CoreClosed P) (hs : P s) :
    P s.restoreSupply := by
  unfold State.restoreSupply
  dsimp only
  repeat' first
  | (with_reducible assumption)
  | (with_reducible apply enterRunning_closed hc)
  | (with_reducible apply AirClosed.resumePulse_closed hc.toAirClosed)
  | (with_reducible apply AirClosed.clear_closed hc.toAirClosed)
  | (with_reducible apply hc.logEvent)
  | (with_reducible refine hc.setSupervisor _ ?_ ?_)
  | exact rfl
  | (with_reducible split)

/-! ### The Sensing Block -/

theorem evaluateHeight_closed (hc : CoreClosed P) (side : Side) (hs : P s) :
    P (s.evaluateHeight side) := by
  unfold State.evaluateHeight
  dsimp only
  repeat' first
  | (with_reducible assumption)
  | (with_reducible apply AirClosed.evaluateSide_closed hc.toAirClosed)
  | (with_reducible split)

theorem handValue_closed (hc : CoreClosed P) (ch : Channel) (v : Nat) (hs : P s) :
    P (s.handValue ch v) := by
  unfold State.handValue
  dsimp only
  repeat' first
  | (with_reducible assumption)
  | (with_reducible apply evaluateHeight_closed hc)
  | (with_reducible apply judgeSupply_closed hc)
  | (with_reducible apply EstimatorClosed.followMeasured_closed hc.toEstimatorClosed)
  | (with_reducible apply EstimatorClosed.estimateHeight_closed hc.toEstimatorClosed)
  | (with_reducible apply EstimatorClosed.estimatePressure_closed hc.toEstimatorClosed)
  | (with_reducible apply MidClosed.judgeReserve_closed hc.toMidClosed)
  | (with_reducible apply AirClosed.evaluateLift_closed hc.toAirClosed)
  | (with_reducible apply AirClosed.pass_closed hc.toAirClosed)
  | (with_reducible split)

theorem handHeightStatus_closed (hc : CoreClosed P) (side : Side) (hs : P s) :
    P (s.handHeightStatus side) := by
  unfold State.handHeightStatus
  dsimp only
  repeat' first
  | (with_reducible assumption)
  | (with_reducible apply EstimatorClosed.judgeHeightLost_closed hc.toEstimatorClosed)
  | (with_reducible apply EstimatorClosed.followMeasured_closed hc.toEstimatorClosed)
  | (with_reducible apply EstimatorClosed.estimateHeightStatus_closed hc.toEstimatorClosed)
  | (with_reducible apply AirClosed.evaluateSides_closed hc.toAirClosed)
  | (with_reducible split)

theorem handStatus_closed (hc : CoreClosed P) (ch : Channel) (hs : P s) :
    P (s.handStatus ch) := by
  unfold State.handStatus
  dsimp only
  repeat' first
  | (with_reducible assumption)
  | (with_reducible apply handHeightStatus_closed hc)
  | (with_reducible apply supplyChannelFailed_closed hc)
  | (with_reducible apply EstimatorClosed.followMeasured_closed hc.toEstimatorClosed)
  | (with_reducible apply EstimatorClosed.pressureFailed_closed hc.toEstimatorClosed)
  | (with_reducible apply MidClosed.reserveChannelFailed_closed hc.toMidClosed)
  | (with_reducible apply AirClosed.evaluateTyres_closed hc.toAirClosed)
  | (with_reducible apply AirClosed.evaluateLift_closed hc.toAirClosed)
  | (with_reducible split)

theorem trip_closed (hc : CoreClosed P) (k : ComparatorId) (v : Nat) (hs : P s) : P (s.trip k v) :=
  AirClosed.tripCut_closed hc.toAirClosed _ (hc.logEvent _ _ _ _ (hc.setComparator k _ hs))

theorem offerTrip_closed (hc : CoreClosed P) (k : ComparatorId) (v : Nat) (hs : P s) : P (s.offerTrip k v) := by
  unfold State.offerTrip
  dsimp only
  split
  · split
    · split
      · exact hc.setComparator k _ hs
      · exact hc.setComparator k _ hs
    · exact hc.setComparator k _ hs
  · split
    · split
      · exact trip_closed hc _ _ hs
      · exact hc.setComparator k _ hs
    · exact hc.setComparator k _ hs

theorem offerReading_closed (hc : CoreClosed P) (ch : Channel) (raw : RawReading) (hs : P s) :
    P (s.offerReading ch raw) := by
  unfold State.offerReading
  repeat' first
  | (with_reducible assumption)
  | (with_reducible apply offerTrip_closed hc)
  | (with_reducible split)

theorem clearComparator_closed (hc : CoreClosed P) (ch : Channel) (hs : P s) : P (s.clearComparator ch) := by
  unfold State.clearComparator
  split
  · exact hc.setComparator _ _ hs
  · exact hs

theorem reportValid_closed (hc : CoreClosed P) (ch : Channel) (was : SensorStatus) (hs : P s) :
    P (s.reportValid ch was) := by
  unfold State.reportValid
  repeat' first
  | (with_reducible assumption)
  | (with_reducible apply AirClosed.clear_closed hc.toAirClosed)
  | (with_reducible apply hc.logEvent)
  | (with_reducible split)

theorem handCurrent_closed (hc : CoreClosed P) (ch : Channel) (hs : P s) :
    P (s.handCurrent ch) := by
  unfold State.handCurrent
  repeat' first
  | (with_reducible assumption)
  | (with_reducible apply handValue_closed hc)
  | (with_reducible split)

theorem channelAfterGood_step (s : State) (ch : Channel) (raw : RawReading) :
    ChannelStep ch (s.channel ch) (s.channelAfterGood ch raw) := by
  refine ⟨?_, ?_, ?_⟩ <;> simp only [State.channelAfterGood]
  · rw [List.length_take]; omega
  · omega
  · split
    · simp only [Fixed.recoveryRun]; omega
    · omega

theorem goodReading_closed (hc : CoreClosed P) (ch : Channel) (raw : RawReading) (hs : P s) :
    P (s.goodReading ch raw) := by
  unfold State.goodReading
  extract_lets s1 was s2 s3
  have k2 : P s2 := hc.setChannel ch _ (channelAfterGood_step _ _ _) (offerReading_closed hc _ _ hs)
  have k3 : P s3 := by
    show P (if (s2.channel ch).status = was then s2 else (s2.reportValid ch was).handStatus ch)
    split
    · exact k2
    · exact handStatus_closed hc _ (reportValid_closed hc _ _ k2)
  exact handCurrent_closed hc _ k3

theorem failChannel_closed (hc : CoreClosed P) (ch : Channel) (hs : P s) : P (s.failChannel ch) := by
  unfold State.failChannel
  refine handStatus_closed hc _ (AirClosed.raise_closed hc.toAirClosed _ _ (hc.logEvent _ _ _ _
    (clearComparator_closed hc _ (hc.setChannel ch _ ⟨?_, ?_, ?_⟩ hs)))) <;> simp

theorem badReading_closed (hc : CoreClosed P) (ch : Channel) (hs : P s) : P (s.badReading ch) := by
  unfold State.badReading
  dsimp only
  split
  · exact hc.setChannel ch _ ⟨by simp, by simp, by simp⟩ hs
  · split
    · exact failChannel_closed hc _ hs
    · refine hc.setChannel ch _ ⟨by simp, ?_, by simp⟩ hs
      simp only [Fixed.badScoreLimit] at *
      omega

theorem takeReading_closed (hc : CoreClosed P) (ch : Channel) (raw : RawReading) (hs : P s) :
    P (s.takeReading ch raw) := by
  have k : P (s.setChannel ch { s.channel ch with lastRaw := some raw }) :=
    hc.setChannel ch _ ⟨by simp, by simp, by simp⟩ hs
  unfold State.takeReading
  dsimp only
  split
  · split
    · exact goodReading_closed hc _ _ k
    · exact badReading_closed hc _ k
  · exact k

theorem recomputeChannel_closed (hc : CoreClosed P) (ch : Channel) (hs : P s) : P (s.recomputeChannel ch) := by
  have k (f) : P (s.setChannel ch { s.channel ch with filtered := f }) :=
    hc.setChannel ch _ ⟨by simp, by simp, by simp⟩ hs
  unfold State.recomputeChannel
  dsimp only
  split
  · exact hs
  · exact k _
  · exact handCurrent_closed hc _ (k _)

theorem recomputeHeights_closed (hc : CoreClosed P) (hs : P s) : P s.recomputeHeights :=
  recomputeChannel_closed hc _ (recomputeChannel_closed hc _ hs)

theorem resetLiftChannel_closed (hc : CoreClosed P) (hs : P s) : P s.resetLiftChannel := by
  have k : P (s.setChannel 3 { AnalogChannel.initial with lastRaw := (s.channel 3).lastRaw }) :=
    hc.setChannel 3 _ ⟨by simp [AnalogChannel.initial], by simp [AnalogChannel.initial],
      by simp [AnalogChannel.initial]⟩ hs
  exact EstimatorClosed.followMeasured_closed hc.toEstimatorClosed _ _ (AirClosed.clear_closed hc.toAirClosed _ (hc.setComparator _ _ k))

theorem changeContacts_closed (hc : CoreClosed P) (a b : Bool) (hs : P s) : P (s.changeContacts a b) :=
  hc.setRamp _ hs

theorem changePosition_closed (hc : CoreClosed P) (pos : Position) (hs : P s) : P (s.changePosition pos) :=
  hc.setPositionInput _ hs

theorem watchPosition_closed (hc : CoreClosed P) (hs : P s) : P s.watchPosition := by
  unfold State.watchPosition
  split
  · exact AirClosed.liftSwitched_closed hc.toAirClosed (AirClosed.endSwitch_closed hc.toAirClosed hs)
  · exact hs

theorem takePosition_closed (hc : CoreClosed P) (hs : P s) : P s.takePosition :=
  AirClosed.liftPosition_closed hc.toAirClosed _
    (EstimatorClosed.estimatePosition_closed hc.toEstimatorClosed (watchPosition_closed hc (hc.setPositionInput _ hs)))

/-! ### The Height Controller -/

theorem writeSideTarget_closed (hc : CoreClosed P) (side : Side) (hs : P s) :
    P (s.writeSideTarget side) := by
  unfold State.writeSideTarget
  repeat' first
  | (with_reducible assumption)
  | (with_reducible refine hc.setCircuit _ _ (Nat.le_max_right _ _) ?_)
  | (with_reducible split)

theorem markTargetChanged_closed (hc : CoreClosed P) (side : Side) (hs : P s) :
    P (s.markTargetChanged side) := by
  unfold State.markTargetChanged
  repeat' first
  | (with_reducible assumption)
  | (with_reducible apply hc.setSideControl)

theorem formTarget_closed (hc : CoreClosed P) (hs : P s) :
    P s.formTarget := by
  unfold State.formTarget
  dsimp only
  repeat' first
  | (with_reducible assumption)
  | (with_reducible apply markTargetChanged_closed hc)
  | (with_reducible apply writeSideTarget_closed hc)
  | (with_reducible apply EstimatorClosed.estimateTarget_closed hc.toEstimatorClosed)
  | (with_reducible apply AirClosed.evaluateSides_closed hc.toAirClosed)
  | (with_reducible refine hc.setHeight _ rfl rfl ?_)
  | (with_reducible split)

theorem tellLiftMode_closed (hc : CoreClosed P) (hs : P s) :
    P s.tellLiftMode := by
  unfold State.tellLiftMode
  repeat' first
  | (with_reducible assumption)
  | (with_reducible apply AirClosed.testDwell_closed hc.toAirClosed)
  | (with_reducible apply AirClosed.lower_closed hc.toAirClosed)
  | (with_reducible split)

theorem changeMode_closed (hc : CoreClosed P) (m : HeightMode) (hs : P s) :
    P (s.changeMode m) := by
  unfold State.changeMode
  dsimp only
  repeat' first
  | (with_reducible assumption)
  | (with_reducible apply tellLiftMode_closed hc)
  | (with_reducible apply formTarget_closed hc)
  | (with_reducible apply recomputeHeights_closed hc)
  | (with_reducible apply AirClosed.evaluateSides_closed hc.toAirClosed)
  | (with_reducible apply hc.logEvent)
  | (with_reducible refine hc.setHeight _ rfl rfl ?_)
  | (with_reducible split)

theorem takeMode_closed (hc : CoreClosed P) (m : HeightMode) (hs : P s) :
    P (s.takeMode m) := by
  unfold State.takeMode
  repeat' first
  | (with_reducible assumption)
  | (with_reducible apply changeMode_closed hc)
  | (with_reducible apply formTarget_closed hc)
  | (with_reducible split)

theorem takeCustom_closed (hc : CoreClosed P) (h : Nat) (hs : P s) :
    P (s.takeCustom h) := by
  unfold State.takeCustom
  repeat' first
  | (with_reducible assumption)
  | (with_reducible apply takeMode_closed hc)
  | (with_reducible refine hc.setHeight _ rfl rfl ?_)

theorem answerSetMode_closed (hc : CoreClosed P) (mode : Byte) (height : Option Word) (hs : P s) :
    P (s.answerSetMode mode height).2 := by
  unfold State.answerSetMode
  dsimp only
  repeat' first
  | (with_reducible assumption)
  | (with_reducible apply takeCustom_closed hc)
  | (with_reducible apply takeMode_closed hc)
  | (with_reducible split)

theorem answerStepHeight_closed (hc : CoreClosed P) (step : Byte) (hs : P s) :
    P (s.answerStepHeight step).2 := by
  unfold State.answerStepHeight
  dsimp only
  repeat' first
  | (with_reducible assumption)
  | (with_reducible apply takeCustom_closed hc)
  | (with_reducible split)

theorem returnToRide_closed (hc : CoreClosed P) (hs : P s) :
    P s.returnToRide := by
  unfold State.returnToRide
  repeat' first
  | (with_reducible assumption)
  | (with_reducible apply changeMode_closed hc)
  | (with_reducible split)

theorem judgeRampAtSpeed_closed (hc : CoreClosed P) (hs : P s) :
    P s.judgeRampAtSpeed := by
  unfold State.judgeRampAtSpeed
  repeat' first
  | (with_reducible assumption)
  | (with_reducible apply AirClosed.clear_closed hc.toAirClosed)
  | (with_reducible apply AirClosed.raise_closed hc.toAirClosed)
  | (with_reducible apply hc.logEvent)
  | (with_reducible split)

theorem rampEffects_closed (hc : CoreClosed P) (st : RampState) (hs : P s) :
    P (s.rampEffects st) := by
  unfold State.rampEffects
  repeat' first
  | (with_reducible assumption)
  | (with_reducible apply judgeRampAtSpeed_closed hc)
  | (with_reducible apply returnToRide_closed hc)
  | (with_reducible apply AirClosed.testDwell_closed hc.toAirClosed)
  | (with_reducible apply AirClosed.lower_closed hc.toAirClosed)
  | (with_reducible apply AirClosed.clear_closed hc.toAirClosed)
  | (with_reducible apply AirClosed.raise_closed hc.toAirClosed)
  | (with_reducible apply hc.logEvent)
  | (with_reducible split)

theorem takeSpeed_closed (hc : CoreClosed P) (v : Option Nat) (mark : Option Nat) (hs : P s) :
    P (s.takeSpeed v mark) := by
  unfold State.takeSpeed
  dsimp only
  repeat' first
  | (with_reducible assumption)
  | (with_reducible apply judgeRampAtSpeed_closed hc)
  | (with_reducible apply returnToRide_closed hc)
  | (with_reducible apply EstimatorClosed.judgeAllowance_closed hc.toEstimatorClosed)
  | (with_reducible refine hc.setHeight _ rfl rfl ?_)
  | (with_reducible split)

theorem answerSpeed_closed (hc : CoreClosed P) (kmh : Byte) (hs : P s) :
    P (s.answerSpeed kmh).2 := by
  unfold State.answerSpeed
  repeat' first
  | (with_reducible assumption)
  | (with_reducible apply takeSpeed_closed hc)

theorem ageSpeed_closed (hc : CoreClosed P) (hs : P s) :
    P s.ageSpeed := by
  unfold State.ageSpeed
  repeat' first
  | (with_reducible assumption)
  | (with_reducible apply takeSpeed_closed hc)
  | (with_reducible split)

/-! ### The link state -/

theorem dropNotices_closed (hc : CoreClosed P) (hs : P s) : P s.dropNotices := by
  unfold State.dropNotices
  split
  · exact hs
  · rename_i sending rest hq
    exact hc.setQueue _ (by rw [hq]; simpa using List.length_filter_le _ _) hs

theorem startSummary_closed (hc : CoreClosed P) (hs : P s) :
    P s.startSummary := by
  unfold State.startSummary
  repeat' first
  | (with_reducible assumption)
  | (with_reducible refine hc.setLink _ rfl rfl rfl ?_)

theorem reportRestored_closed (hc : CoreClosed P) (seenBefore : Bool) (hs : P s) :
    P (s.reportRestored seenBefore) := by
  unfold State.reportRestored
  repeat' first
  | (with_reducible assumption)
  | (with_reducible apply AirClosed.clear_closed hc.toAirClosed)
  | (with_reducible apply hc.logEvent)
  | (with_reducible split)

theorem linkHeard_closed (hc : CoreClosed P) (hs : P s) :
    P s.linkHeard := by
  unfold State.linkHeard
  dsimp only
  repeat' first
  | (with_reducible assumption)
  | (with_reducible apply reportRestored_closed hc)
  | (with_reducible apply startSummary_closed hc)
  | (with_reducible refine hc.setLink _ rfl rfl rfl ?_)
  | (with_reducible split)

theorem loseLink_closed (hc : CoreClosed P) (hs : P s) :
    P s.loseLink := by
  unfold State.loseLink
  dsimp only
  repeat' first
  | (with_reducible assumption)
  | (with_reducible apply dropNotices_closed hc)
  | (with_reducible apply AirClosed.raise_closed hc.toAirClosed)
  | (with_reducible apply hc.logEvent)
  | (with_reducible refine hc.setLink _ rfl rfl rfl ?_)

theorem judgeLink_closed (hc : CoreClosed P) (hs : P s) :
    P s.judgeLink := by
  unfold State.judgeLink
  repeat' first
  | (with_reducible assumption)
  | (with_reducible apply loseLink_closed hc)
  | (with_reducible split)

theorem offerSummary_closed (hc : CoreClosed P) (hs : P s) :
    P s.offerSummary := by
  unfold State.offerSummary
  repeat' first
  | (with_reducible assumption)
  | (with_reducible apply hc.offerNotice)
  | (with_reducible refine hc.setLink _ rfl rfl rfl ?_)

/-! ### The configuration -/

theorem changeCircuits_closed (hc : CoreClosed P) (old : Params) (written : Option Nat) (hs : P s) :
    P (s.changeCircuits old written) := by
  unfold State.changeCircuits
  extract_lets p apply s1 moved s2
  have k1 : P s1 := by
    show P (if apply = true ∧ p.p03 = .fitted ∧ old.p03 = .notFitted then s.reconcileLift else s)
    split
    · exact AirClosed.reconcileLift_closed hc.toAirClosed hs
    · exact hs
  have k2 : P s2 := by
    show P (if moved = true then s1.setAllowance s1.allowanceNow else s1)
    split
    · exact EstimatorClosed.setAllowance_closed hc.toEstimatorClosed _ k1
    · exact k1
  exact EstimatorClosed.applyChange_closed hc.toEstimatorClosed _ k2

theorem changeSensing_closed (hc : CoreClosed P) (old : Params) (w : Nat) (hs : P s) :
    P (s.changeSensing old w) := by
  refine foldl_closed _ (fun t ch k => ?_) _ hs
  split
  · exact recomputeChannel_closed hc _ k
  · exact k

theorem changeHeight_closed (hc : CoreClosed P) (old : Params) (hs : P s) : P (s.changeHeight old) := by
  unfold State.changeHeight
  extract_lets p src s1 s2 s3 s4
  have k1 : P s1 := by
    show P (ite _ (s.setHeight _) s)
    split
    · exact hc.setHeight _ rfl rfl hs
    · exact hs
  have k2 : P s2 := by
    show P (ite _ s1.formTarget s1)
    split
    · exact formTarget_closed hc k1
    · exact k1
  have k3 : P s3 := by
    show P (ite _ s2.evaluateSides s2)
    split
    · exact AirClosed.evaluateSides_closed hc.toAirClosed k2
    · exact k2
  have k4 : P s4 := by
    show P (ite _ s3.returnToRide s3)
    split
    · exact returnToRide_closed hc k3
    · exact k3
  split
  · exact ageSpeed_closed hc k4
  · exact k4

theorem changeUpkeep_closed (hc : CoreClosed P) (old : Params) (hs : P s) : P (s.changeUpkeep old) := by
  unfold State.changeUpkeep
  extract_lets p s1 s2 s3
  have k1 : P s1 := by
    show P (ite _ s.testIsolations s)
    split
    · exact AirClosed.testIsolations_closed hc.toAirClosed hs
    · exact hs
  have k2 : P s2 := by
    show P (ite _ s1.evaluateTyres s1)
    split
    · exact AirClosed.evaluateTyres_closed hc.toAirClosed k1
    · exact k1
  have k3 : P s3 := by
    show P (ite _ (allTyres.foldl State.judgeInterval s2) s2)
    split
    · exact foldl_closed _ (fun _ _ k => AirClosed.judgeInterval_closed hc.toAirClosed _ k) _ k2
    · exact k2
  split
  · exact foldl_closed _ (fun _ _ k => AirClosed.judgeLow_closed hc.toAirClosed _ k) _ k3
  · exact k3

theorem changeOthers_closed (hc : CoreClosed P) (old : Params) (hs : P s) : P (s.changeOthers old) := by
  unfold State.changeOthers
  extract_lets p s1 s2 src s3 s4
  have k1 : P s1 := by
    show P (ite _ s.rejudgeReserve s)
    split
    · exact MidClosed.rejudgeReserve_closed hc.toMidClosed hs
    · exact hs
  have k2 : P s2 := by
    show P (ite _ (allCircuits.foldl State.promote s1) s1)
    split
    · exact foldl_closed _ (fun _ _ k => AirClosed.promote_closed hc.toAirClosed _ k) _ k1
    · exact k1
  have k3 : P s3 := by
    show P (ite _ (s2.setLift _) s2)
    split
    · exact hc.setLift _ k2
    · exact k2
  have k4 : P s4 := by
    show P (ite _ s3.judgeLink s3)
    split
    · exact judgeLink_closed hc k3
    · exact k3
  split
  · exact startSummary_closed hc k4
  · exact k4


/-! ### Requests -/

theorem tellResumed_closed (hc : CoreClosed P) (c : CircuitId) (hs : P s) :
    P (s.tellResumed c) := by
  unfold State.tellResumed
  repeat' first
  | (with_reducible assumption)
  | (with_reducible apply AirClosed.setProbeDue_closed hc.toAirClosed)
  | (with_reducible apply AirClosed.clear_closed hc.toAirClosed)
  | (with_reducible split)

theorem resumeStalled_closed (hc : CoreClosed P) (c : CircuitId) (hs : P s) : P (s.resumeStalled c) := by
  unfold State.resumeStalled
  exact AirClosed.evaluateCircuit_closed hc.toAirClosed _ (tellResumed_closed hc _ (hc.logEvent _ _ _ _
    (AirClosed.clear_closed hc.toAirClosed _ (EstimatorClosed.clearFaults_closed hc.toEstimatorClosed _
      (hc.setCircuit _ _ (Nat.zero_le _) hs)))))

theorem resumeCircuit_closed (hc : CoreClosed P) (c : CircuitId) (hs : P s) :
    P (s.resumeCircuit c) := by
  unfold State.resumeCircuit
  repeat' first
  | (with_reducible assumption)
  | (with_reducible apply resumeStalled_closed hc)
  | (with_reducible apply AirClosed.resumeIsolated_closed hc.toAirClosed)
  | (with_reducible split)

theorem answerResume_closed (hc : CoreClosed P) (id : Byte) (hs : P s) :
    P (s.answerResume id).2 := by
  unfold State.answerResume
  repeat' first
  | (with_reducible assumption)
  | (with_reducible apply resumeCircuit_closed hc)
  | (with_reducible split)

theorem answerIsolate_closed (hc : CoreClosed P) (id : Byte) (hs : P s) :
    P (s.answerIsolate id).2 := by
  unfold State.answerIsolate
  repeat' first
  | (with_reducible assumption)
  | (with_reducible apply AirClosed.isolate_closed hc.toAirClosed)
  | (with_reducible split)

theorem demandProbe_closed (hc : CoreClosed P) (t : TyreId) (hs : P s) :
    P (s.demandProbe t) := by
  unfold State.demandProbe
  repeat' first
  | (with_reducible assumption)
  | (with_reducible apply AirClosed.setProbeDue_closed hc.toAirClosed)
  | (with_reducible apply AirClosed.evaluateTyre_closed hc.toAirClosed)

theorem answerProbe_closed (hc : CoreClosed P) (id : Byte) (hs : P s) :
    P (s.answerProbe id).2 := by
  unfold State.answerProbe
  repeat' first
  | (with_reducible assumption)
  | (with_reducible apply demandProbe_closed hc)
  | (with_reducible split)

theorem answerCircuit_closed (hc : CoreClosed P) (a : CircuitAction) (id : Byte) (hs : P s) :
    P (s.answerCircuit a id).2 := by
  unfold State.answerCircuit
  repeat' first
  | (with_reducible assumption)
  | (with_reducible apply answerProbe_closed hc)
  | (with_reducible apply answerIsolate_closed hc)
  | (with_reducible apply answerResume_closed hc)
  | (with_reducible apply AirClosed.isolate_closed hc.toAirClosed)
  | (with_reducible split)

theorem answerSurvey_closed (hc : CoreClosed P) (hs : P s) : P s.answerSurvey.2 :=
  foldl_closed _ (fun _ _ k => AirClosed.evaluateTyre_closed hc.toAirClosed _ k) _
    (foldl_closed _ (fun _ _ k => AirClosed.setProbeDue_closed hc.toAirClosed _ k) _ hs)

theorem setCab_closed (hc : CoreClosed P) (b : Bool) (hs : P s) :
    P (s.setCab b) := by
  unfold State.setCab
  repeat' first
  | (with_reducible assumption)
  | (with_reducible refine hc.setSupervisor _ ?_ ?_)
  | exact rfl

theorem answerRun_closed (hc : CoreClosed P) (hs : P s) : P s.answerRun.2 := by
  have k := setCab_closed hc false hs
  unfold State.answerRun State.controlDone
  split
  · exact hs
  · split
    · exact hs
    · dsimp only
      exact k
    · split
      · dsimp only
        exact k
      · dsimp only
        exact enterRunning_closed hc k
    · rename_i hu
      split
      · dsimp only
        exact beginControl_closed hc (by simp [State.isRunning, State.setCab, State.setSupervisor, hu]) k
      · exact hs

theorem answerHold_closed (hc : CoreClosed P) (hs : P s) : P s.answerHold.2 := by
  have k := setCab_closed hc true hs
  unfold State.answerHold State.controlDone
  dsimp only
  split
  · dsimp only
    exact hc.leaveRunning _ (by decide) k
  · dsimp only
    exact k


theorem deriveLamp_closed (hc : CoreClosed P) (hs : P s) : P s.deriveLamp := by
  unfold State.deriveLamp
  generalize ite (s.events.testEnd.isSome = true) _ _ = x
  obtain ⟨l, k⟩ := s.driveLamp_eq x
  rw [k]
  exact hc.setLamp _ hs

theorem answerEvents_closed (hc : CoreClosed P) (hs : P s) : P s.answerEvents.2 :=
  hc.setEvents _ (by simp) hs

theorem answerClear_closed (hc : CoreClosed P) (hs : P s) :
    P (s.answerClear).2 := by
  unfold State.answerClear
  dsimp only
  refine foldl_closed _ (fun _ _ k => AirClosed.pass_closed hc.toAirClosed k) _ ?_
  repeat' first
  | (with_reducible assumption)
  | (with_reducible apply EstimatorClosed.clearFaults_closed hc.toEstimatorClosed)
  | (with_reducible apply EstimatorClosed.clearFault_closed hc.toEstimatorClosed)
  | (with_reducible refine hc.setEvents _ (Nat.le_refl _) ?_)
  | (with_reducible split)

theorem answerTime_closed (hc : CoreClosed P) (v : BitVec 32) (hs : P s) :
    P (s.answerTime v).2 := by
  unfold State.answerTime
  repeat' first
  | (with_reducible assumption)
  | (with_reducible refine hc.setEvents _ (Nat.le_refl _) ?_)

theorem answerLampTest_closed (hc : CoreClosed P) (hs : P s) : P s.answerLampTest.2 :=
  deriveLamp_closed hc (hc.setEvents _ (Nat.le_refl _) hs)

theorem noteRefusal_closed (hc : CoreClosed P) (kind : Byte) (a : Answer) (hs : P s) :
    P (s.noteRefusal kind a) := by
  unfold State.noteRefusal
  repeat' first
  | (with_reducible assumption)
  | (with_reducible apply hc.logEvent)
  | (with_reducible split)

/-! ### Moments and checks -/

theorem setFault_closed (hc : CoreClosed P) (v : ValveId) (hs : P s) : P (s.setFault v) := by
  unfold State.setFault
  split
  · exact hs
  · exact AirClosed.raise_closed hc.toAirClosed _ _ (hc.logEvent _ _ _ _ (hc.setFlag v hs))

theorem failSwitch_closed (hc : CoreClosed P) (hs : P s) :
    P s.failSwitch := by
  unfold State.failSwitch
  repeat' first
  | (with_reducible assumption)
  | (with_reducible apply setFault_closed hc)
  | (with_reducible apply AirClosed.faultOutOfService_closed hc.toAirClosed)
  | (with_reducible apply AirClosed.liftSwitchFailed_closed hc.toAirClosed)
  | (with_reducible apply AirClosed.endSwitch_closed hc.toAirClosed)

theorem faultyVerdict_closed (hc : CoreClosed P) (v : ValveId) (hs : P s) :
    P (s.faultyVerdict v) := by
  unfold State.faultyVerdict
  repeat' first
  | (with_reducible assumption)
  | (with_reducible apply failSwitch_closed hc)
  | (with_reducible apply setFault_closed hc)
  | (with_reducible apply AirClosed.faultOutOfService_closed hc.toAirClosed)
  | (with_reducible apply AirClosed.closeValve_closed hc.toAirClosed)
  | (with_reducible apply AirClosed.endCheck_closed hc.toAirClosed)
  | (with_reducible split)

theorem takeVerdict_closed (hc : CoreClosed P) (v : ValveId) (verdict : CoilVerdict) (hs : P s) :
    P (s.takeVerdict v verdict) := by
  unfold State.takeVerdict
  repeat' first
  | (with_reducible assumption)
  | (with_reducible apply faultyVerdict_closed hc)
  | (with_reducible apply AirClosed.endCheck_closed hc.toAirClosed)
  | (with_reducible split)

theorem toggleLamp_closed (hc : CoreClosed P) (hs : P s) : P s.toggleLamp := hc.setLamp _ hs

theorem endLampTest_closed (hc : CoreClosed P) (hs : P s) : P s.endLampTest :=
  deriveLamp_closed hc (hc.setEvents _ (Nat.le_refl _) hs)

theorem endHoldoff_closed (hc : CoreClosed P) (c : CircuitId) (hs : P s) :
    P (s.endHoldoff c) := by
  unfold State.endHoldoff
  repeat' first
  | (with_reducible assumption)
  | (with_reducible apply AirClosed.evaluateCircuit_closed hc.toAirClosed)
  | (with_reducible apply AirClosed.pass_closed hc.toAirClosed)
  | (with_reducible refine hc.setCircuit _ _ (Nat.le_max_right _ _) ?_)

theorem endPersistence_closed (hc : CoreClosed P) (side : Side) (hs : P s) :
    P (s.endPersistence side) := by
  unfold State.endPersistence
  repeat' first
  | (with_reducible assumption)
  | (with_reducible apply AirClosed.evaluateSide_closed hc.toAirClosed)
  | (with_reducible apply hc.setSideControl)

theorem endDwell_closed (hc : CoreClosed P) (hs : P s) :
    P s.endDwell := by
  unfold State.endDwell
  repeat' first
  | (with_reducible assumption)
  | (with_reducible apply AirClosed.startRaise_closed hc.toAirClosed)
  | (with_reducible apply hc.setLift)
  | (with_reducible split)

theorem advanceTag_closed (hc : CoreClosed P) (hs : P s) :
    P s.advanceTag := by
  unfold State.advanceTag
  dsimp only
  repeat' first
  | (with_reducible assumption)
  | (with_reducible apply hc.logEvent)
  | (with_reducible refine hc.setEvents _ (Nat.le_refl _) ?_)
  | (with_reducible split)

end CoreClosed
namespace ConfigClosed

variable {P : State → Prop} {s : State}

/-! ### The running configuration -/

theorem replaceConfig_closed (hc : ConfigClosed P) (written : Option Nat) (new : Params) (hs : P s) :
    P (s.replaceConfig written new) := by
  unfold State.replaceConfig
  extract_lets old w s1 s2 s3 s4
  have k1 : P s1 := hc.setParams _ hs
  have k2 : P s2 := by
    show P (ite _ s1.resetLiftChannel s1)
    split
    · exact CoreClosed.resetLiftChannel_closed hc.toCoreClosed k1
    · exact k1
  have k4 : P s4 := CoreClosed.changeSensing_closed hc.toCoreClosed _ _ (CoreClosed.changeCircuits_closed hc.toCoreClosed _ _ k2)
  exact CoreClosed.changeOthers_closed hc.toCoreClosed _ (CoreClosed.changeUpkeep_closed hc.toCoreClosed _ (CoreClosed.changeHeight_closed hc.toCoreClosed _ k4))

theorem reconfigure_closed (hc : ConfigClosed P) (new : Params) (hs : P s) : P (s.reconfigure new) :=
  replaceConfig_closed hc none new hs

theorem answerSetParam_closed (hc : ConfigClosed P) (n : Nat) (value : List Byte) (hs : P s) :
    P (s.answerSetParam n value).2 := by
  unfold State.answerSetParam
  repeat' first
  | (with_reducible assumption)
  | (with_reducible apply replaceConfig_closed hc)
  | (with_reducible split)

theorem answerGetParam_closed (_hc : ConfigClosed P) (n : Nat) (channel : Option Byte) (hs : P s) :
    P (s.answerGetParam n channel).2 := by
  unfold State.answerGetParam
  repeat' first
  | (with_reducible assumption)
  | (with_reducible split)

theorem setLiftMode_closed (hc : ConfigClosed P) (m : LiftMode) (hs : P s) :
    P (s.setLiftMode m) := by
  unfold State.setLiftMode
  repeat' first
  | (with_reducible assumption)
  | (with_reducible apply reconfigure_closed hc)

theorem tryRaise_closed (hc : ConfigClosed P) (hs : P s) :
    P (s.tryRaise).2 := by
  unfold State.tryRaise
  repeat' first
  | (with_reducible assumption)
  | (with_reducible apply AirClosed.startRaise_closed hc.toAirClosed)
  | (with_reducible split)

theorem answerLift_closed (hc : ConfigClosed P) (a : LiftAction) (hs : P s) :
    P (s.answerLift a).2 := by
  unfold State.answerLift
  repeat' first
  | (with_reducible assumption)
  | (with_reducible apply tryRaise_closed hc)
  | (with_reducible apply setLiftMode_closed hc)
  | (with_reducible apply AirClosed.lower_closed hc.toAirClosed)
  | (with_reducible apply AirClosed.raise_closed hc.toAirClosed)
  | (with_reducible split)

/-! ### The Profile Store, the loader and start-up -/

theorem beginWrite_closed (hc : ConfigClosed P) (req : StoreRequest) (image : Image) (words : List WordWritten) (index : Nat) (busy : Nat) (hs : P s) :
    P (s.beginWrite req image words index busy) := by
  unfold State.beginWrite
  repeat' first
  | (with_reducible assumption)
  | (with_reducible apply hc.setStore)

theorem ifStoreFree_closed (x : Answer × State) (hs : P s) (hx : P x.2) : P (s.ifStoreFree x).2 := by
  unfold State.ifStoreFree
  split
  · exact hs
  · exact hx

theorem answerProfileBegin_closed (hc : ConfigClosed P) (hs : P s) :
    P (s.answerProfileBegin).2 := by
  unfold State.answerProfileBegin
  repeat' first
  | (with_reducible assumption)
  | (with_reducible apply beginWrite_closed hc)
  | (with_reducible refine ifStoreFree_closed _ hs ?_)

theorem answerProfilePut_closed (hc : ConfigClosed P) (head first : Word) (values : List Word) (hs : P s) :
    P (s.answerProfilePut head first values).2 := by
  unfold State.answerProfilePut
  dsimp only
  repeat' first
  | (with_reducible assumption)
  | (with_reducible apply beginWrite_closed hc)
  | (with_reducible refine ifStoreFree_closed _ hs ?_)
  | (with_reducible split)

theorem answerProfileEnd_closed (hc : ConfigClosed P) (hs : P s) :
    P (s.answerProfileEnd).2 := by
  unfold State.answerProfileEnd
  dsimp only
  repeat' first
  | (with_reducible assumption)
  | (with_reducible apply beginWrite_closed hc)
  | (with_reducible refine ifStoreFree_closed _ hs ?_)
  | (with_reducible split)

theorem answerProfileRead_closed (_hc : ConfigClosed P) (index : Word) (hs : P s) :
    P (s.answerProfileRead index).2 := by
  unfold State.answerProfileRead
  repeat' first
  | (with_reducible assumption)
  | (with_reducible refine ifStoreFree_closed _ hs ?_)
  | (with_reducible split)

theorem startReload_closed (hc : ConfigClosed P) (hs : P s) :
    P s.startReload := by
  unfold State.startReload
  repeat' first
  | (with_reducible assumption)
  | (with_reducible apply hc.setStore)
  | (with_reducible apply hc.setStartUp)

theorem answerProfileReload_closed (hc : ConfigClosed P) (hs : P s) :
    P (s.answerProfileReload).2 := by
  unfold State.answerProfileReload
  repeat' first
  | (with_reducible assumption)
  | (with_reducible apply startReload_closed hc)
  | (with_reducible refine ifStoreFree_closed _ hs ?_)
  | (with_reducible split)

theorem endProfile_closed (hc : ConfigClosed P) (hs : P s) :
    P s.endProfile := by
  unfold State.endProfile
  dsimp only
  repeat' first
  | (with_reducible assumption)
  | (with_reducible apply hc.logEvent)
  | (with_reducible apply hc.setStore)

theorem endBusy_closed (hc : ConfigClosed P) (hs : P s) :
    P s.endBusy := by
  unfold State.endBusy
  repeat' first
  | (with_reducible assumption)
  | (with_reducible apply hc.setStore)

theorem failStore_closed (hc : ConfigClosed P) (index : Nat) (found : Word) (hs : P s) :
    P (s.failStore index found) := by
  unfold State.failStore
  dsimp only
  repeat' first
  | (with_reducible assumption)
  | (with_reducible apply hc.logEvent)
  | (with_reducible apply hc.setStore)

theorem logLoad_closed (hc : ConfigClosed P) (boot : BootCode) (hs : P s) :
    P (s.logLoad boot) := by
  unfold State.logLoad
  repeat' first
  | (with_reducible assumption)
  | (with_reducible apply hc.logEvent)
  | (with_reducible split)

theorem closeLoad_closed (hc : ConfigClosed P) (boot : BootCode) (hs : P s) :
    P (s.closeLoad boot) := by
  unfold State.closeLoad
  repeat' first
  | (with_reducible assumption)
  | (with_reducible apply hc.setStore)
  | (with_reducible apply hc.setStartUp)

theorem moveAfterReload_closed (hc : ConfigClosed P) (boot : BootCode) (hs : P s) : P (s.moveAfterReload boot) := by
  unfold State.moveAfterReload
  split
  · split
    · exact CoreClosed.beginControl_closed hc.toCoreClosed (by simp [State.isRunning, *]) hs
    · exact hs
  · split
    · exact hc.leaveRunning _ (by decide) hs
    · exact hc.setControl _ (fun k => absurd k ‹_›) hs

theorem endLoad_closed (hc : ConfigClosed P) (run : LoaderRun) (hs : P s) :
    P (s.endLoad run) := by
  unfold State.endLoad
  dsimp only
  repeat' first
  | (with_reducible assumption)
  | (with_reducible apply moveAfterReload_closed hc)
  | (with_reducible apply closeLoad_closed hc)
  | (with_reducible apply logLoad_closed hc)
  | (with_reducible apply reconfigure_closed hc)
  | (with_reducible split)

theorem abortLoad_closed (hc : ConfigClosed P) (hs : P s) : P s.abortLoad := by
  unfold State.abortLoad
  split
  · exact hs
  · refine logLoad_closed hc _ (reconfigure_closed hc _ (hc.setStartUp _ ?_))
    split
    · exact hc.setStore _ hs
    · exact hs

end ConfigClosed
namespace RequestClosed

variable {P : State → Prop} {s : State}

theorem answerRestart_closed (hc : RequestClosed P) (hs : P s) : P s.answerRestart.2 := hc.setRestart hs

theorem answerControl_closed (hc : RequestClosed P) (a : ControlAction) (hs : P s) : P (s.answerControl a).2 := by
  cases a
  · exact CoreClosed.answerRun_closed hc.toCoreClosed hs
  · exact CoreClosed.answerHold_closed hc.toCoreClosed hs
  · exact answerRestart_closed hc hs

theorem answer_closed (hc : RequestClosed P) (r : Request) (hs : P s) : P (s.answer r).2 := by
  cases r
  case status => exact hs
  case readCircuit => exact hs
  case readSide => exact hs
  case readSensors => exact hs
  case setMode => exact CoreClosed.answerSetMode_closed hc.toCoreClosed _ _ hs
  case stepHeight => exact CoreClosed.answerStepHeight_closed hc.toCoreClosed _ hs
  case lift => exact ConfigClosed.answerLift_closed hc.toConfigClosed _ hs
  case circuit => exact CoreClosed.answerCircuit_closed hc.toCoreClosed _ _ hs
  case survey => exact CoreClosed.answerSurvey_closed hc.toCoreClosed hs
  case speed => exact CoreClosed.answerSpeed_closed hc.toCoreClosed _ hs
  case getParam => exact ConfigClosed.answerGetParam_closed hc.toConfigClosed _ _ hs
  case setParam => exact ConfigClosed.answerSetParam_closed hc.toConfigClosed _ _ hs
  case events => exact CoreClosed.answerEvents_closed hc.toCoreClosed hs
  case clear => exact CoreClosed.answerClear_closed hc.toCoreClosed hs
  case time => exact CoreClosed.answerTime_closed hc.toCoreClosed _ hs
  case control => exact answerControl_closed hc _ hs
  case lampTest => exact CoreClosed.answerLampTest_closed hc.toCoreClosed hs
  case profileBegin => exact ConfigClosed.answerProfileBegin_closed hc.toConfigClosed hs
  case profilePut => exact ConfigClosed.answerProfilePut_closed hc.toConfigClosed _ _ _ hs
  case profileEnd => exact ConfigClosed.answerProfileEnd_closed hc.toConfigClosed hs
  case profileReload => exact ConfigClosed.answerProfileReload_closed hc.toConfigClosed hs
  case profileRead => exact ConfigClosed.answerProfileRead_closed hc.toConfigClosed _ hs

theorem judgeAndCarryOut_closed (hc : RequestClosed P) (kind : Byte) (body : List Byte) (hs : P s) :
    P (s.judgeAndCarryOut kind body).2 := by
  unfold State.judgeAndCarryOut
  split
  · dsimp only
    split
    · exact AirClosed.settle_closed hc.toAirClosed (ConfigClosed.abortLoad_closed hc.toConfigClosed (CoreClosed.noteRefusal_closed hc.toCoreClosed _ _ hs))
    · exact CoreClosed.noteRefusal_closed hc.toCoreClosed _ _ hs
  · exact CoreClosed.noteRefusal_closed hc.toCoreClosed _ _ (AirClosed.settle_closed hc.toAirClosed (answer_closed hc _ hs))

end RequestClosed
end Sys2Proof.Machine
end

