-- ==== Sys2Proof/Laws/Exec.lean ====
section
/-! SUPPORT. Every command answers a next state, and keeps what every kind of update keeps (`UnitClosed`). -/

namespace Sys2Proof.Machine

/-- What the act of leaving RUNNING keeps (R145): what the air control and a change of the control state keep. -/
theorem leaveRunning_of {P : State → Prop} {s : State} (h : AirClosed P)
    (hc : ∀ (t : State) c, P t → P (t.setControl c)) (c : ControlState) (hs : P s) : P (s.leaveRunning c) := by
  refine AirClosed.testDwell_closed h (AirClosed.closeAll_closed h _ (foldl_closed _ (fun t d k => ?_) _
    (h.clearDemands (AirClosed.abortAll_closed h (AirClosed.holdVenting_closed h (hc _ _ hs))))))
  unfold State.idleCircuit
  dsimp only
  split
  · exact h.setCircuit _ _ (Nat.le_max_right _ _) k
  · exact k

/-- With no hand-off made, none is taken. -/
theorem State.settle_of_nil {s : State} (h : s.deferred = []) : s.settle = s := by
  unfold State.settle State.settleFuel State.settleFor
  rw [h]

/-- An act that makes no hand-off is the whole command. -/
theorem finish_of_nil {s : State} (h : s.deferred = []) : finish s = .next s := by
  rw [finish, State.settle_of_nil h]

/-- A telegram heard while the link is UP moves last valid and link seen alone (R153). -/
theorem State.linkHeard_of_up {s : State} (h : s.link.up = true) :
    s.linkHeard = s.setLink { s.link with lastValid := some s.now, seen := true, up := true } := by
  unfold State.linkHeard
  rw [h]
  rfl

/-- With fewer than 8 telegrams queued the reply's place is the next one (R157). -/
theorem State.securePlace_of_room {s : State} (h : s.link.queue.length < Fixed.transmitPlaces) :
    s.securePlace = some (s.setLink { s.link with secured := true }) := by
  unfold State.securePlace
  split
  · rfl
  · rw [if_pos h]

/-- A secured place stays secured while a request is carried out (R158). -/
theorem secured_closed : RequestClosed fun s => s.link.secured = true := by
  have air : AirClosed fun s : State => s.link.secured = true := by
    constructor <;> intros
    all_goals first
      | assumption
      | (simp; assumption)
  exact { air with
    setSupervisor := fun _ _ k => k
    setControl := fun _ _ k => k
    leaveRunning := fun c _ k => leaveRunning_of air (fun _ _ x => x) c k
    setEstimator := fun _ k => k
    clearFlag := fun _ k => k
    setHeight := fun _ _ _ k => k
    setRestart := fun k => k
    setStore := fun _ k => k
    setStartUp := fun _ k => k
    setParams := fun _ k => k
    setFlag := fun _ k => k
    setChannel := fun _ _ _ k => k
    setComparator := fun _ _ k => k
    setRamp := fun _ k => k
    setPositionInput := fun _ k => k
    setLamp := fun _ k => k
    setLink := fun _ _ e _ k => e.trans k
    setQueue := fun _ _ k => k
    offerNotice := fun {s} a b k => by obtain ⟨q, e⟩ := s.offerNotice_eq a b; rw [e]; exact k
    setEvents := fun _ _ k => k }

/-- No owner of a request but CONTROL RESTART's makes a restart pending (R147, R148). -/
theorem noRestart_closed : ConfigClosed fun s => s.link.restartPending = false := by
  have air : AirClosed fun s : State => s.link.restartPending = false := by
    constructor <;> intros
    all_goals first
      | assumption
      | (simp; assumption)
  exact { air with
    setSupervisor := fun _ _ k => k
    setControl := fun _ _ k => k
    leaveRunning := fun c _ k => leaveRunning_of air (fun _ _ x => x) c k
    setEstimator := fun _ k => k
    clearFlag := fun _ k => k
    setHeight := fun _ _ _ k => k
    setParams := fun _ k => k
    setStore := fun _ k => k
    setStartUp := fun _ k => k
    setFlag := fun _ k => k
    setChannel := fun _ _ _ k => k
    setComparator := fun _ _ k => k
    setRamp := fun _ k => k
    setPositionInput := fun _ k => k
    setLamp := fun _ k => k
    setLink := fun _ _ _ e k => e.trans k
    setQueue := fun _ _ k => k
    offerNotice := fun {s} a b k => by obtain ⟨q, e⟩ := s.offerNotice_eq a b; rw [e]; exact k
    setEvents := fun _ _ k => k }

namespace UnitClosed

variable {P : State → Prop} {s : State}

/-! ### The Link Port -/

theorem telegramSent_closed (h : UnitClosed P) (hs : P s) : P s.telegramSent := by
  unfold State.telegramSent
  split
  · exact h.doRestart hs
  · exact h.setQueue _ (by simp) hs

theorem securePlace_secured {s t : State} (k : s.securePlace = some t) : t.link.secured = true := by
  unfold State.securePlace at k
  split at k
  · cases k; rfl
  · split at k
    · cases k; rfl
    · split at k
      · cases k; rfl
      · cases k

theorem carryOut_closed (h : UnitClosed P) (kind tag : Byte) (body : List Byte) (hs : P s) :
    P (s.carryOut kind tag body) := by
  unfold State.carryOut
  split
  · exact hs
  · rename_i t ht
    exact h.placeReply _
      (RequestClosed.judgeAndCarryOut_closed secured_closed kind body (securePlace_secured ht))
      (RequestClosed.judgeAndCarryOut_closed h.toRequestClosed kind body (h.securePlace ht hs))

theorem handle_closed (h : UnitClosed P) (kind tag : Byte) (body : List Byte) (hs : P s) :
    P (s.handle kind tag body) := by
  have k := CoreClosed.linkHeard_closed h.toCoreClosed hs
  unfold State.handle
  dsimp only
  split
  · exact k
  · exact carryOut_closed h _ _ _ k

theorem receive_closed (h : UnitClosed P) (chars : List Byte) (hs : P s) : P (s.receive chars) := by
  unfold State.receive
  split
  · exact handle_closed h _ _ _ hs
  · exact hs

theorem setFramer_closed (h : UnitClosed P) (st : FramerState) (part : List Byte) (hs : P s) :
    P (s.setFramer st part) := h.setLink _ rfl rfl rfl hs

theorem dropPartial_closed (h : UnitClosed P) (hs : P s) : P s.dropPartial := setFramer_closed h _ _ hs

theorem frameChar_closed (h : UnitClosed P) (c : Byte) (hs : P s) : P (s.frameChar c) := by
  unfold State.frameChar
  dsimp only
  split
  · split
    · exact setFramer_closed h _ _ hs
    · exact hs
  · split
    · exact setFramer_closed h _ _ hs
    · exact dropPartial_closed h hs
  · exact setFramer_closed h _ _ hs
  · exact setFramer_closed h _ _ hs
  · exact setFramer_closed h _ _ hs
  · split
    · exact receive_closed h _ (dropPartial_closed h hs)
    · exact setFramer_closed h _ _ hs

theorem noteChar_closed (h : UnitClosed P) (hs : P s) : P s.noteChar := h.setLink _ rfl rfl rfl hs

theorem takeChar_closed (h : UnitClosed P) (c : Byte) (hs : P s) : P (s.takeChar c) := by
  unfold State.takeChar
  dsimp only
  split
  · exact frameChar_closed h _ (noteChar_closed h (dropPartial_closed h hs))
  · exact frameChar_closed h _ (noteChar_closed h hs)

/-! ### The ramp -/

theorem takeRamp_closed (h : UnitClosed P) (st : RampState) (hs : P s) : P (s.takeRamp st) := by
  have k := h.setRampState st hs
  unfold State.takeRamp
  dsimp only
  split
  · exact CoreClosed.rampEffects_closed h.toCoreClosed _ (h.logEvent _ _ _ _ k)
  · exact k

theorem takeDebouncedRamp_closed (h : UnitClosed P) (hs : P s) : P s.takeDebouncedRamp :=
  takeRamp_closed h _ (h.setRamp _ hs)

/-! ### Start-up -/

/-- That the unit is not RUNNING is kept by every update but those of the control state. -/
theorem notRunning_closed : MidClosed fun s => s.isRunning = false := by
  have air : AirClosed fun s : State => s.isRunning = false := by
    constructor <;> intros
    all_goals first
      | assumption
      | (simp [State.isRunning] at *; assumption)
  exact { air with
    setSupervisor := fun x e k => by simpa [State.isRunning, State.setSupervisor, e] using k
    setEstimator := fun _ k => k
    clearFlag := fun _ k => k }

/-- The states not yet judged are judged, while not RUNNING (R140, R142). -/
theorem judgeUnjudged_closed {P : State → Prop} {s : State} (hm : MidClosed P) (hr : s.isRunning = false)
    (hs : P s) : P s.judgeUnjudged := by
  unfold State.judgeUnjudged
  extract_lets t
  have kt (Q : State → Prop) (hq : MidClosed Q) (k : Q s) : Q t := by
    show Q (ite _ s (s.changeReserve .low true))
    split
    · exact k
    · exact MidClosed.changeReserve_closed hq _ _ k
  have hrt : t.isRunning = false := kt (fun s => s.isRunning = false) notRunning_closed hr
  split
  · exact kt P hm hs
  · unfold State.enterLowSupply
    extract_lets src s1 s2
    have k2 (Q : State → Prop) (hq : MidClosed Q) (k : Q t) : Q s2 :=
      AirClosed.holdPulse_closed hq.toAirClosed (hq.logEvent _ _ _ _
        (AirClosed.raise_closed hq.toAirClosed _ _ (hq.setSupervisor _ rfl k)))
    have hr2 : s2.isRunning = false := k2 (fun s => s.isRunning = false) notRunning_closed hrt
    rw [if_neg (by simp [hr2])]
    exact k2 P hm (kt P hm hs)

/-- Start-up's end is made while STARTING, so that no departure from RUNNING is made (R176). -/
theorem endStartUp_closed (h : UnitClosed P) (hd : s.startUpDone = true) (hs : P s) : P s.endStartUp := by
  have hr : s.isRunning = false := by
    unfold State.startUpDone at hd
    simp at hd
    simp [State.isRunning, hd.1.1]
  unfold State.endStartUp
  extract_lets t
  have kt (Q : State → Prop) (hm : MidClosed Q) (hj : Q s.judgeUnjudged) : Q t :=
    EstimatorClosed.applyConfiguration_closed hm.toEstimatorClosed (AirClosed.reconcileLift_closed hm.toAirClosed
      (EstimatorClosed.judgeHeightLost_closed hm.toEstimatorClosed hj))
  have hrt : t.isRunning = false :=
    kt (fun s => s.isRunning = false) notRunning_closed (judgeUnjudged_closed notRunning_closed hr hr)
  have k : P t := kt P h.toMidClosed (judgeUnjudged_closed h.toMidClosed hr hs)
  split
  · exact CoreClosed.beginControl_closed h.toCoreClosed hrt k
  · exact h.setControl _ (fun x => by rw [hrt] at x; cases x) k

/-! ### Commands -/

/-- The hand-offs of an act are taken. -/
theorem finish_closed (h : UnitClosed P) (hs : P s) : ∃ t, finish s = .next t ∧ P t :=
  ⟨s.settle, rfl, AirClosed.settle_closed h.toAirClosed hs⟩

/-- Every command answers a next state that keeps `P`. -/
theorem exec_closed (h : UnitClosed P) (i : Instr) (hs : P s) : ∃ t, exec i s = .next t ∧ P t := by
  cases i
  case powerOnReset => exact finish_closed h (h.powerOn hs)
  case restart =>
    refine finish_closed h ?_
    split
    · exact h.doRestart hs
    · exact hs
  case telegramReceived => exact finish_closed h (receive_closed h _ hs)
  case framerGap => exact finish_closed h (dropPartial_closed h hs)
  case telegramSent => exact finish_closed h (telegramSent_closed h hs)
  case linkLost => exact finish_closed h (CoreClosed.judgeLink_closed h.toCoreClosed hs)
  case summary =>
    refine finish_closed h ?_
    split
    · exact CoreClosed.offerSummary_closed h.toCoreClosed hs
    · exact hs
  case status => exact finish_closed h (handle_closed h _ _ _ hs)
  case readCircuit => exact finish_closed h (handle_closed h _ _ _ hs)
  case readSide => exact finish_closed h (handle_closed h _ _ _ hs)
  case readSensors => exact finish_closed h (handle_closed h _ _ _ hs)
  case setMode => exact finish_closed h (handle_closed h _ _ _ hs)
  case stepHeight => exact finish_closed h (handle_closed h _ _ _ hs)
  case liftRaise => exact finish_closed h (handle_closed h _ _ _ hs)
  case liftLower => exact finish_closed h (handle_closed h _ _ _ hs)
  case liftAuto => exact finish_closed h (handle_closed h _ _ _ hs)
  case liftManual => exact finish_closed h (handle_closed h _ _ _ hs)
  case circuitResume => exact finish_closed h (handle_closed h _ _ _ hs)
  case circuitIsolate => exact finish_closed h (handle_closed h _ _ _ hs)
  case circuitProbe => exact finish_closed h (handle_closed h _ _ _ hs)
  case survey => exact finish_closed h (handle_closed h _ _ _ hs)
  case speed => exact finish_closed h (handle_closed h _ _ _ hs)
  case getParam => exact finish_closed h (handle_closed h _ _ _ hs)
  case setParam => exact finish_closed h (handle_closed h _ _ _ hs)
  case events => exact finish_closed h (handle_closed h _ _ _ hs)
  case clear => exact finish_closed h (handle_closed h _ _ _ hs)
  case time => exact finish_closed h (handle_closed h _ _ _ hs)
  case controlRun => exact finish_closed h (handle_closed h _ _ _ hs)
  case controlHold => exact finish_closed h (handle_closed h _ _ _ hs)
  case controlRestart => exact finish_closed h (handle_closed h _ _ _ hs)
  case lampTest => exact finish_closed h (handle_closed h _ _ _ hs)
  case lampTestEnd =>
    refine finish_closed h ?_
    split
    · exact CoreClosed.endLampTest_closed h.toCoreClosed hs
    · exact hs
  case profileBegin => exact finish_closed h (handle_closed h _ _ _ hs)
  case profilePut => exact finish_closed h (handle_closed h _ _ _ hs)
  case profileEnd => exact finish_closed h (handle_closed h _ _ _ hs)
  case profileReload => exact finish_closed h (handle_closed h _ _ _ hs)
  case profileRead => exact finish_closed h (handle_closed h _ _ _ hs)
  case storeWritten =>
    refine finish_closed h ?_
    split
    · exact ConfigClosed.endProfile_closed h.toConfigClosed hs
    · exact hs
  case storeBusyEnd =>
    refine finish_closed h ?_
    split
    · exact ConfigClosed.endBusy_closed h.toConfigClosed hs
    · exact hs
  case storeFailed =>
    refine finish_closed h ?_
    split
    · exact ConfigClosed.failStore_closed h.toConfigClosed _ _ hs
    · exact hs
  case loaderEnd =>
    refine finish_closed h ?_
    split
    · split
      · exact ConfigClosed.endLoad_closed h.toConfigClosed _ hs
      · exact hs
    · exact hs
  case startUpEnd =>
    refine finish_closed h ?_
    split
    · exact endStartUp_closed h ‹_› hs
    · exact hs
  case analogReading => exact finish_closed h (CoreClosed.takeReading_closed h.toCoreClosed _ _ hs)
  case rampContactChange => exact finish_closed h (CoreClosed.changeContacts_closed h.toCoreClosed _ _ hs)
  case debouncedRampReading =>
    refine finish_closed h ?_
    split
    · exact takeDebouncedRamp_closed h hs
    · exact hs
  case positionSwitchChange => exact finish_closed h (CoreClosed.changePosition_closed h.toCoreClosed _ hs)
  case debouncedPosition =>
    refine finish_closed h ?_
    split
    · exact CoreClosed.takePosition_closed h.toCoreClosed hs
    · exact hs
  case electricalCheck =>
    refine finish_closed h ?_
    split
    · exact CoreClosed.takeVerdict_closed h.toCoreClosed _ _ hs
    · exact hs
  case isolationPulseEnd =>
    refine finish_closed h ?_
    split
    · exact h.setIsolation _ hs
    · exact hs
  case positionWatchExpiry =>
    refine finish_closed h ?_
    split
    · exact CoreClosed.failSwitch_closed h.toCoreClosed hs
    · exact hs
  case lampBlink =>
    refine finish_closed h ?_
    split
    · exact CoreClosed.toggleLamp_closed h.toCoreClosed hs
    · exact hs
  case promotion => exact finish_closed h (AirClosed.promote_closed h.toAirClosed _ hs)
  case phaseEnd =>
    refine finish_closed h ?_
    split
    · exact AirClosed.endPhase_closed h.toAirClosed _ hs
    · exact hs
  case holdoffEnd =>
    refine finish_closed h ?_
    split
    · exact CoreClosed.endHoldoff_closed h.toCoreClosed _ hs
    · exact hs
  case speedAgeOut => exact finish_closed h (CoreClosed.ageSpeed_closed h.toCoreClosed hs)
  case persistenceExpiry =>
    refine finish_closed h ?_
    split
    · exact CoreClosed.endPersistence_closed h.toCoreClosed _ hs
    · exact hs
  case liftDwellEnd =>
    refine finish_closed h ?_
    split
    · exact CoreClosed.endDwell_closed h.toCoreClosed hs
    · exact hs
  case probeIntervalExpiry => exact finish_closed h (AirClosed.judgeInterval_closed h.toAirClosed _ hs)
  case supplyRestored =>
    refine finish_closed h ?_
    split
    · exact CoreClosed.restoreSupply_closed h.toCoreClosed hs
    · exact hs
  case timeTagAdvance =>
    refine finish_closed h ?_
    split
    · exact CoreClosed.advanceTag_closed h.toCoreClosed hs
    · exact hs
  case timeRollover =>
    refine finish_closed h ?_
    split
    · exact CoreClosed.advanceTag_closed h.toCoreClosed hs
    · exact hs
  case characterReceived => exact finish_closed h (takeChar_closed h _ hs)
  case framingError => exact finish_closed h (dropPartial_closed h (noteChar_closed h hs))

/-- Every step answers a next state that keeps `P`, if internal time and the queue of commands may change. -/
theorem step_closed (h : UnitClosed P) (hn : ∀ t : State, P t → P (t.setNow (t.now + 1)))
    (hp : ∀ (t : State) q, P t → P (t.setPending q)) (hs : P s) : ∃ t, step s = .next t ∧ P t := by
  unfold step
  split
  · exact exec_closed h _ (hp _ _ hs)
  · exact ⟨_, rfl, hp _ _ (hn _ hs)⟩

end UnitClosed
end Sys2Proof.Machine
end

