-- ==== Sys2Proof/Laws/Requests.lean ====
section
/-! SUPPORT. The handling of a request the Link Port is ready for (R153), said once: a statement about a request
needs the answer of its owner alone. -/

namespace Sys2Proof.Machine

/-- The code of a kind names that kind (R154). -/
theorem kindOf_code (k : Kind) : kindOf k.code = some k := by cases k <;> rfl

/-- A request taken while the link is ready: the reply's place is secured, the request is judged and carried out on
`s.heard`, and its reply is placed (R153 steps 1 to 6). -/
theorem request_of_ready {s : State} (h : s.Ready) (k : Kind) (tag : Byte) (body : List Byte) :
    request k tag body s =
      let x := s.heard.judgeAndCarryOut k.code body
      .next ((x.2.placeReply
        (State.replyTo k.code tag x.1 (if x.2.link.restartPending then .restartReply else .reply))).settle) := by
  obtain ⟨up, pending, room, _⟩ := h
  unfold request finish State.handle
  rw [State.linkHeard_of_up up]
  dsimp only
  rw [if_neg (by simpa using pending)]
  unfold State.carryOut
  rw [State.securePlace_of_room (by simpa using room)]
  rfl

/-- A body that reads as a request its owner serves: the owner's answer and act on `s.heard`, with the refusal noted
if it refuses (R153 steps 4 and 5). -/
theorem judgeAndCarryOut_of_read {s : State} {k : Kind} {body : List Byte} {r : Request}
    (served : s.supervisor.control = .starting → k.servedStarting = true) (read : readBody isParam k body = .ok r) :
    s.heard.judgeAndCarryOut k.code body =
      ((s.heard.answer r).1, (s.heard.answer r).2.settle.noteRefusal k.code (s.heard.answer r).1) := by
  have judged : s.heard.judgeRequest k.code body = .ok r := by
    unfold State.judgeRequest
    rw [kindOf_code]
    dsimp only
    rw [if_neg fun c => absurd (served c.1) (by simpa using c.2), read]
  unfold State.judgeAndCarryOut
  rw [judged]

/-- A request its owner takes, and that makes no restart pending, is completed with the owner's act and answer. -/
theorem request_taken {s t : State} (h : s.Ready) {k : Kind} {body : List Byte} {r : Request} {a : Answer} (tag : Byte)
    (served : s.supervisor.control = .starting → k.servedStarting = true) (read : readBody isParam k body = .ok r)
    (answered : s.heard.answer r = (a, t)) (taken : ∀ reason, a ≠ .refused reason)
    (stays : t.settle.link.restartPending = false) : request k tag body s = t.completed k tag a := by
  rw [request_of_ready h, judgeAndCarryOut_of_read served read, answered]
  have unnoted : t.settle.noteRefusal k.code a = t.settle := by
    cases a <;> first | rfl | exact absurd rfl (taken _)
  simp only [unnoted, stays]
  rfl

/-- An act that leaves no hand-off is the whole command, but for the reply. -/
theorem completed_of_nil {t : State} (h : t.deferred = []) (k : Kind) (tag : Byte) (a : Answer) :
    t.completed k tag a = .next (t.replied k tag a) := by
  have placed : (t.replied k tag a).deferred = [] := h
  unfold State.completed
  rw [State.settle_of_nil h, State.settle_of_nil placed]

end Sys2Proof.Machine
end

