-- ==== Sys2Proof/Tests/Slice0.lean ====
section
/-! SUPPORT. Tests on small states: the checks of WellFormed, the worked examples of the book (each test names the
rule or the example its values come from), and, for each statement of Certificates/Slice0/Obligations.lean that has
hypotheses, a witness that meets them. -/

namespace Sys2Proof.Tests

set_option Elab.async false

open Sys2Proof Sys2Proof.Machine

/-! ### Helpers -/

/-- The command answers a next state of which `p` holds. -/
def leaves (c : Instr) (s : State) (p : State → Bool) : Bool :=
  match exec c s with
  | .next t => p t
  | _ => false

/-- An IDLE circuit with nothing measured. -/
def idleRecord : CircuitRecord := { CircuitRecord.initial with state := .idle }

/-- RUNNING on the defaults, the reserve NORMAL and the valve supply up, the link UP with an empty queue, both sides
and every tyre IDLE, no lift axle. -/
def cab : State := { State.reset with
  now := 100000
  circuits := (Vector.replicate 15 idleRecord).set 2 CircuitRecord.initial
  supervisor := ⟨.running, false, false, .normal, true, false, true, none⟩
  link := ⟨.hunt, [], none, [], false, true, true, some 100000, none, false⟩
  store := { State.reset.store with busyUntil := none }
  startUp := ⟨0, none, some .loaded, true⟩ }

/-- The same with a lift axle, DOWN and reconciled, and the ramp UP. -/
def lifted : State := { cab with
  params := { Params.defaults with p03 := .fitted }
  circuits := Vector.replicate 15 idleRecord
  lift := { LiftController.initial with reconciled := true }
  height := { cab.height with ramp := .up, rampRead := true } }

/-- The state still STARTING, with the link UP. -/
def starting : State := { cab with supervisor := Supervisor.initial }

/-- A control state, with no reason set. -/
def inControl (s : State) (c : ControlState) : State := s.setSupervisor { s.supervisor with control := c }

/-- A channel VALID at a filtered value. -/
def valid (s : State) (ch : Channel) (v : Nat) : State :=
  s.setChannel ch ⟨some 2000#12, [2000#12], some v, .valid, 0, 0⟩

/-- The waiting demand of a circuit joined to the list. -/
def waiting (s : State) (d : Demand) : State :=
  (s.setCircuitState d.circuit .waiting).setScheduler { s.scheduler with demands := s.scheduler.demands ++ [d] }

/-- A transaction in flight on a circuit with what its record holds apart from kind, phase and times. -/
def transaction (c : CircuitId) (k : TransactionKind) (ph : Phase) (ends : Nat) : Transaction :=
  ⟨c, k, ph, ends, some 1000, 800, some 300, k.needsSupply, k.needsGallery, none, none, some 560, none, none, false⟩

/-- A transaction put in flight: its circuit ACTIVE, its resources held, the valves of its phase open. -/
def inFlight (s : State) (t : Transaction) : State :=
  let s := (s.setCircuitState t.circuit .active).setEngine (s.engine ++ [t])
  let s := s.setScheduler { s.scheduler with
    supply := if t.holdsSupply then some t.circuit else s.scheduler.supply
    gallery := if t.holdsGallery then some t.circuit else s.scheduler.gallery }
  (phaseValves t.circuit t.kind t.phase).foldl (fun s v => s.setValve v { s.valve v with isOpen := true }) s

/-- A telegram of a class with no characters. -/
def bare (cls : TelegramClass) : Telegram := ⟨cls, []⟩

/-! ### WellFormed: what each check refuses -/

/-- A LENGTH of 49 (R162). -/
theorem test_telegram_length_49_refused :
    (Instr.telegramReceived (0xC3#8 :: 49#8 :: List.replicate 53 0#8)).wellFormed = false := by decide
/-- A telegram that does not begin with SYNC (R162). -/
theorem test_telegram_without_sync_refused :
    (Instr.telegramReceived [0xC2#8, 0#8, 1#8, 7#8, 0#8, 0#8]).wellFormed = false := by decide
/-- A telegram one character short (R162). -/
theorem test_telegram_short_refused :
    (Instr.telegramReceived [0xC3#8, 1#8, 2#8, 7#8, 0#8, 0#8]).wellFormed = false := by decide
/-- A complete telegram (R162). -/
theorem test_telegram_complete_accepted :
    (Instr.telegramReceived [0xC3#8, 0#8, 1#8, 7#8, 0#8, 0#8]).wellFormed = true := by decide
/-- A SET_PARAM body of 49 characters (R162). -/
theorem test_set_param_too_long_refused :
    (Instr.setParam 0#8 51#8 (List.replicate 48 0#8)).wellFormed = false := by decide
/-- A PROFILE_PUT body of 50 characters (R162). -/
theorem test_put_too_long_refused :
    (Instr.profilePut 0#8 0xA056#16 1#16 (List.replicate 23 0#16)).wellFormed = false := by decide
/-- No word of the table spells a command. -/
theorem test_no_word_decodes : decodeTableWord 16 0xA041 = none := by decide

/-! ### Worked examples: links and conversions -/

/-- CHECK of the nine characters 31h to 39h (R152). -/
theorem test_check_of_nine_characters :
    checkWord [0x31#8, 0x32#8, 0x33#8, 0x34#8, 0x35#8, 0x36#8, 0x37#8, 0x38#8, 0x39#8] = 0x29B1#16 := by
  decide +kernel
/-- 599.55 rounds to 600, and 2105.5 to 2106 (00_scope.md "Rounding"). -/
theorem test_rounding : roundDiv 59955 100 = 600 ∧ roundDiv 12633 6 = 2106 := by decide
/-- The worked conversions (R24). -/
theorem test_conversions :
    convert Params.defaults.p96[1] 2400#12 = 607 ∧ convert Params.defaults.p96[0] 2400#12 = 729 ∧
    convert Params.defaults.p96[5] 2320#12 = 292 ∧ convert Params.defaults.p96[7] 1843#12 = 180 := by decide
/-- T5 is axle 2 LEFT and T12 axle 3 RIGHT with three axles dual; T3 axle 2 LEFT with two axles single (chapter 1). -/
theorem test_tyre_places :
    tyreAxle Params.defaults 4 = 2 ∧ tyreSide Params.defaults 4 = .left ∧
    tyreAxle Params.defaults 11 = 3 ∧ tyreSide Params.defaults 11 = .right ∧
    tyreAxle { Params.defaults with p01 := 2, p02 := .single } 2 = 2 ∧
    tyreSide { Params.defaults with p01 := 2, p02 := .single } 2 = .left := by decide
/-- A raw reading of 122 is bad and one of 123 good; 3972 is good and 3973 bad (R23). -/
theorem test_good_range :
    leaves (.analogReading 1 122#12) cab (fun t => (t.channel 1).badScore = 2 && (t.channel 1).history = []) ∧
    leaves (.analogReading 1 123#12) cab (fun t => (t.channel 1).goodRun = 1) ∧
    leaves (.analogReading 1 3972#12) cab (fun t => (t.channel 1).filtered = some 1000) ∧
    leaves (.analogReading 1 3973#12) cab (fun t => (t.channel 1).goodRun = 0 && (t.channel 1).badScore = 2) := by
  decide +kernel

/-! ### Worked example of chapter 1: a wheel valve fault during an INFLATE -/

/-- T6 in INFLATE, its wheel valve opened 20 ms ago; T9 waits for a PROBE with GALLERY_BUSY. -/
def inflatingT6 : State :=
  let s := waiting (valid (valid cab 4 560) 0 760) ⟨11, .probe, .tyre, 99000, .galleryBusy⟩
  let s := inFlight s { transaction 8 .inflate .inflate 100980 with wheelOpened := true }
  s.setValve 15 ⟨true, false, some 99980, false⟩

/-- The transaction ends ELECTRICAL and T6 is STALLED with no strike; valve 16 alone is faulty; the pass of the
release grants T9's PROBE, which opens valve 3. -/
theorem test_wheel_valve_fault :
    leaves (.electricalCheck 15 .faulty) inflatingT6 (fun t =>
      (t.circuit 8).state = .stalled && (t.circuit 8).strikes = 0 && (t.circuit 8).lastOutcome = .electrical &&
      (t.valve 15).fault && !(t.valve 15).isOpen && !(t.valve 0).isOpen && !(t.valve 1).isOpen &&
      !(t.valve 0).fault && t.scheduler.supply = none && t.scheduler.gallery = some 11 &&
      (t.circuit 11).state = .active && (t.valve 2).isOpen &&
      t.isActive (.valveFault 15) && t.isActive (.circuitStalled 8)) := by decide +kernel
/-- The two events of the example, in their order: VALVE_FAULT (DEGRADED, circuit 8, value 16), then
CIRCUIT_STALLED (DEGRADED, circuit 8, value 0). -/
theorem test_wheel_valve_fault_events :
    leaves (.electricalCheck 15 .faulty) inflatingT6 (fun t =>
      t.events.queue = [⟨0, .valveFault, .degraded, some 8, some 16⟩,
        ⟨0, .circuitStalled, .degraded, some 8, some 0⟩]) := by decide +kernel

/-! ### Worked examples of chapter 3: targets -/

/-- The tables and channels of the example of the left tyres, the speed at 85 km/h. -/
def loaded : State :=
  let s := valid (valid { cab with params := { Params.defaults with
    p51 := [(200, 720), (250, 760), (300, 800), (350, 830)] } } 1 480) 5 292
  s.setHeight { s.height with speed := some 85, speedMark := some 100000 }

/-- The left side record after 480 kPa, and the target of T1 (example of chapter 3). -/
theorem test_left_side_record :
    (loaded.estimatePressure .left 480).sideRecord .left =
      ⟨some 292, .own, some 794, .live, some 480, some 3811, 3, some 11433, some 12633, some 2106, some 571, false,
        true, some 600⟩ ∧
    ((loaded.estimatePressure .left 480).circuit 3).target = some 600 ∧
    ((loaded.estimatePressure .left 480).circuit 5).target = none := by decide +kernel
/-- The speed drops to 70 km/h: the allowance ends and the left tyres are written 571 (example of chapter 3). -/
theorem test_speed_ends_allowance :
    leaves (.speed 1#8 70#8) (loaded.estimatePressure .left 480) (fun t =>
      (t.sideRecord .left).target = some 571 && !(t.sideRecord .left).allowanceApplied &&
      (t.circuit 3).target = some 571 && !t.estimator.allowance) := by decide +kernel
/-- The left height fails, the other side's 289 mm is used: 599 kPa (example of chapter 3). -/
theorem test_other_height_used :
    (((valid (loaded.setChannel 5 AnalogChannel.initial) 6 289).estimatePressure .left 480).sideRecord .left).target =
      some 599 := by decide +kernel

/-! ### Worked examples of chapter 5: judgement and cuts -/

/-- LEFT at the end of SETTLE: reference 238 mm and 430 kPa, now 239 mm and 462 kPa, in DOCK, one strike. -/
def settlingLeft : State :=
  let s := valid (valid cab 5 239) 1 462
  let s := s.setHeight { s.height with mode := .dock, target := some 250 }
  let s := s.setCircuit 0 { idleRecord with strikes := 1, target := some 250 }
  inFlight s { transaction 0 .sideFill .settle 100000 with
    holdsSupply := false, refHeight := some 238, refPressure := some 430, supplyAtEnd := some (705, 458) }

/-- A fill judged under a moving load: EFFECTIVE, the strike count 0 (example of chapter 5). -/
theorem test_fill_under_moving_load :
    leaves (.phaseEnd 0) settlingLeft (fun t =>
      (t.circuit 0).lastOutcome = .effective && (t.circuit 0).strikes = 0 && t.engine = []) := by decide +kernel
/-- RIGHT at the third judgement of a blocked exhaust: 310 mm and 520 kPa as at grant (example of chapter 5). -/
def blockedRight : State :=
  let s := (valid (valid cab 6 310) 2 520).setCircuit 1 { idleRecord with strikes := 2, target := some 290 }
  inFlight s { transaction 1 .sideExhaust .settle 100000 with refHeight := some 310, refPressure := some 520 }
/-- The third STRIKE stalls RIGHT with CIRCUIT_STALLED (CRITICAL, circuit 1, value 3), and the lamp blinks. -/
theorem test_blocked_exhaust :
    leaves (.phaseEnd 1) blockedRight (fun t =>
      (t.circuit 1).state = .stalled && (t.circuit 1).strikes = 0 && (t.circuit 1).lastOutcome = .strike &&
      t.events.queue = [⟨0, .circuitStalled, .critical, some 1, some 3⟩] && t.driver.lamp.state = .blink &&
      !(t.valve 6).fault) := by decide +kernel
/-- T9 in INFLATE when the reservoir falls to 598 (example of chapter 5). -/
def inflatingT9 : State :=
  let s := (valid cab 0 598).setCircuit 11 { idleRecord with
    measured := some 560, target := some 600, previousProbe := some ⟨560, 90000⟩ }
  inFlight s { transaction 11 .inflate .inflate 100400 with wheelOpened := true }
/-- The entry into LOW cuts the INFLATE: HOLDOFF for 5000 ms, RESERVE_CUT, probe due, no previous probe. -/
theorem test_inflate_cut_by_reserve :
    let t := inflatingT9.judgeReserve 598
    t.supervisor.reserve = .low ∧ (t.circuit 11).state = .holdoff ∧ (t.circuit 11).holdoffEnd = some 105000 ∧
    (t.circuit 11).lastOutcome = .reserveCut ∧ (t.circuit 11).probeDue = true ∧
    (t.circuit 11).measured = some 560 ∧ (t.circuit 11).previousProbe = none ∧
    (t.valve 0).isOpen = false ∧ (t.valve 1).isOpen = false ∧ (t.valve 18).isOpen = false ∧
    t.scheduler = ⟨[], none, none⟩ := by decide +kernel

/-! ### Worked example of chapter 7: a leak found and isolated -/

/-- T10's PROBE at the end of EQUALIZE; the previous probe was 598 kPa, 301.2 s before. -/
def probingT10 (previous gallery : Nat) (elapsed : Nat) (leaking : Bool) : State :=
  let s := { valid (valid cab 4 gallery) 0 760 with now := 400000 }
  let s := s.setCircuit 12 { idleRecord with
    measured := some previous, readMark := some (400000 - elapsed), target := some 600, probeDue := true
    previousProbe := some ⟨previous, 400000 - elapsed⟩ }
  let s := s.setTyre 9 ⟨leaking, false, leaking, none⟩
  inFlight s (transaction 12 .probe .equalize 400000)
/-- PROBE reads 546: 104 tenths of a kPa per minute, TYRE_LEAK, and an INFLATE of 1350 ms follows. -/
theorem test_leak_found :
    leaves (.phaseEnd 12) (probingT10 598 546 301200 false) (fun t =>
      (t.circuit 12).leakRate = some 104 && (t.tyre 9).leaking && !(t.circuit 12).probeDue &&
      (t.circuit 12).state = .active && (t.engine.map Transaction.pulseTime) = [some 1350] &&
      t.events.queue = [⟨0, .tyreLeak, .degraded, some 12, some 104⟩]) := by decide +kernel
/-- PROBE reads 548 after 572, 31.2 s before: 462, and T10 is ISOLATED with cause LEAK. -/
theorem test_leak_isolated :
    leaves (.phaseEnd 12) (probingT10 572 548 31200 true) (fun t =>
      (t.circuit 12).leakRate = some 462 && (t.circuit 12).state = .isolated && (t.tyre 9).cause = some .leak &&
      !(t.tyre 9).watch && t.isActiveAt (.tyreIsolated 9) .critical && t.driver.lamp.state = .blink) := by
  decide +kernel

/-! ### Worked example of chapter 8: a supply dip -/

/-- LEFT fills, T3 is probed, RIGHT waits. -/
def dipping : State :=
  let s := waiting (valid (cab.setCircuit 5 { idleRecord with probeDue := true }) 7 176)
    ⟨1, .fill, .level, 99000, .supplyBusy⟩
  inFlight (inFlight s { transaction 0 .sideFill .pulse 100500 with leadTime := none })
    (transaction 5 .probe .vent 100300)
/-- v = 176: LOW_SUPPLY, SUSPENDED for SUPPLY, and the air at rest (example of chapter 8). -/
theorem test_supply_dip :
    let t := dipping.judgeSupply 176
    t.supervisor.control = .suspended ∧ t.supervisor.reasonSupply = true ∧ t.supervisor.lowSupply = true ∧
    (t.circuit 0).state = .idle ∧ (t.circuit 0).lastOutcome = .aborted ∧ (t.circuit 5).lastOutcome = .aborted ∧
    (t.circuit 5).probeDue = true ∧ (t.circuit 1).state = .idle ∧ t.scheduler = ⟨[], none, none⟩ ∧ t.engine = [] ∧
    (t.valve 0).isOpen = false ∧ (t.valve 3).isOpen = false ∧ (t.valve 2).isOpen = false ∧
    t.events.queue = [⟨0, .supplyLow, .critical, none, some 176⟩] ∧ t.driver.lamp.state = .blink := by
  decide +kernel
/-- CONTROL HOLD while SUSPENDED for SUPPLY: DONE with SUSPENDED and both reasons (example of chapter 8, R147). -/
theorem test_hold_in_suspended :
    leaves (.controlHold 9#8) (dipping.judgeSupply 176) (fun t =>
      t.supervisor.control = .suspended && t.supervisor.reasonCab &&
      (t.link.queue.map Telegram.bytes).getLast? = some (frame 0xB3#8 9#8 [0#8, 0#8, 3#8, 3#8])) := by decide +kernel

/-! ### Worked examples of chapters 9 and 10 -/

/-- A reply or a notice told apart by one character. -/
def reply (n : Byte) : Telegram := ⟨.reply, [n]⟩
/-- A notice told apart by one character. -/
def notice (n : Byte) : Telegram := ⟨.notice, [n]⟩
/-- The burst's queue when the SPEED request arrives: eight telegrams, reply 1 being sent. -/
def burst : State := { cab with link := { cab.link with
  queue := [reply 1, notice 1, reply 2, notice 2, reply 3, reply 4, notice 3, reply 5] } }
/-- N1 is removed and the SPEED reply takes the tail (example of chapter 9). -/
theorem test_burst_displaces_oldest_notice :
    leaves (.speed 6#8 40#8) burst (fun t => t.link.queue =
      [reply 1, reply 2, notice 2, reply 3, reply 4, notice 3, reply 5, ⟨.reply, frame 0x95#8 6#8 [0#8, 0#8]⟩]) := by
  decide +kernel
/-- With a reply in transmission and seven behind it the request is dropped unanswered and not carried out. -/
theorem test_full_queue_drops_request :
    leaves (.speed 6#8 40#8) { cab with link := { cab.link with queue := List.replicate 8 (reply 1) } } (fun t =>
      t.link.queue = List.replicate 8 (reply 1) && t.height.speed = none) := by decide +kernel
/-- The 48 records of the example of chapter 10, the overrun flag set. -/
def overrun : State := { cab with events := { cab.events with
  overrun := true, queue := List.replicate 48 ⟨7, .sensorRestored, .advisory, none, some 4⟩ } }
/-- The first EVENTS returns four records, 44 remaining and overrun 1, and clears the flag. -/
theorem test_events_after_overrun :
    leaves (.events 2#8) overrun (fun t => t.events.queue.length = 44 && !t.events.overrun &&
      (t.link.queue.flatMap fun x => x.bytes.take 9) = [0xC3#8, 45#8, 0xB0#8, 2#8, 0#8, 0#8, 4#8, 44#8, 1#8]) := by
  decide +kernel
/-- At 48 records a further one discards the oldest and sets the overrun flag (R165). -/
theorem test_overrun :
    ((overrun.setEvents { overrun.events with overrun := false }).logEvent .sensorFailed .degraded none
      (some 4)).events.queue.length = 48 ∧
    ((overrun.setEvents { overrun.events with overrun := false }).logEvent .sensorFailed .degraded none
      (some 4)).events.overrun = true := by decide +kernel

/-! ### Worked example of chapter 11: a profile written and loaded -/

/-- The image of the example, from its table. -/
def exampleImage : Vector Word 512 :=
  writeWords (Vector.replicate 512 0xFFFF#16) 0 [0x4D31#16, 0x5412#16, 0xA041#16, 0x000A#16, 0x0131#16, 0x00F0#16,
    0xA040#16, 0x0003#16, 0x0001#16, 0xE0E0#16, 0xC4D3#16]
/-- The running sums of the example. -/
theorem test_running_sums :
    imageSum exampleImage 1 = 0xA143#16 ∧ imageSum exampleImage 2 = 0x4184#16 ∧ imageSum exampleImage 5 = 0x43AF#16 ∧
    imageSum exampleImage 8 = 0xE3F3#16 ∧ imageSum exampleImage 9 = 0xC4D3#16 := by decide +kernel
/-- The store after the two PUTs of the example: write index 9. -/
def writtenTo (i : Nat) (image : Vector Word 512) : State := { cab with store := ⟨image, some i, none, none⟩ }
/-- PROFILE_PUT of head A041h: the words 2 to 5, write index 6, busy for 16 ms. -/
theorem test_profile_put :
    leaves (.profilePut 1#8 0xA041#16 10#16 [305#16, 240#16]) (writtenTo 2 beginImage) (fun t =>
      t.store.writeIndex = some 6 && t.store.busyUntil = some 100016 && wordAt t.store.image 2 = 0xA041#16 &&
      wordAt t.store.image 5 = 0x00F0#16) := by decide +kernel
/-- PROFILE_END writes the end marker and the check word C4D3h, busy for 8 ms. -/
theorem test_profile_end :
    leaves (.profileEnd 1#8) (writtenTo 9 (setWordAt (setWordAt exampleImage 9 0xFFFF#16) 10 0xFFFF#16)) (fun t =>
      wordAt t.store.image 9 = 0xE0E0#16 && wordAt t.store.image 10 = 0xC4D3#16 &&
      t.store.busyUntil = some 100008) := by decide +kernel
/-- The loader finds LOADED with P10 = 305, P11 = 240 and P03 = FITTED. -/
theorem test_profile_loads :
    (loadImage exampleImage).1 = .loaded ∧ (loadImage exampleImage).2.p10 = 305 ∧
    (loadImage exampleImage).2.p11 = 240 ∧ (loadImage exampleImage).2.p03 = .fitted := by decide +kernel
/-- Power lost at 220 leaves word 9 at FFFFh: FORMAT. -/
theorem test_unfinished_profile_is_format :
    (loadImage (setWordAt (setWordAt exampleImage 9 0xFFFF#16) 10 0xFFFF#16)).1 = .format := by decide +kernel
/-- PROFILE_RELOAD while RUNNING is refused with NOT_SUSPENDED. -/
theorem test_reload_while_running :
    leaves (.profileReload 1#8) cab (fun t => t.startUp.loader = none &&
      (t.link.queue.map Telegram.bytes).getLast? = some (frame 0xC3#8 1#8 [3#8, 7#8])) := by decide +kernel


/-! ### Lengths of the blocks (R162), and single moments -/

/-- The lengths the book gives for each block. -/
theorem test_block_lengths :
    cab.statusBlock.length = 29 ∧ (cab.circuitBlock 0).length = 41 ∧ (cab.circuitBlock 2).length = 41 ∧
    (cab.circuitBlock 14).length = 41 ∧ (cab.sideBlock .left).length = 24 ∧ cab.sensorBlock.length = 43 ∧
    cab.summaryBlock.length = 11 ∧ (eventBlock ⟨7, .tyreLeak, .degraded, some 12, some 104⟩).length = 10 := by
  decide +kernel
/-- A telegram with a false CHECK changes nothing (R152). -/
theorem test_false_check : leaves (.telegramReceived [0xC3#8, 0#8, 1#8, 7#8, 0#8, 0#8]) cab
    (fun t => t.link = cab.link) := by decide +kernel
/-- FFFFFFFFh rolls over to 0 and logs TIME_ROLLOVER with tag 0 (R163). -/
theorem test_rollover :
    leaves .timeRollover (cab.setEvents { cab.events with timeTag := 0xFFFFFFFF#32 }) (fun t =>
      t.events.timeTag = 0 && t.events.queue = [⟨0, .timeRollover, .advisory, none, none⟩]) := by decide +kernel
/-- 200 km/h is held at 150 and answered CLAMPED (R109). -/
theorem test_speed_clamped :
    leaves (.speed 1#8 200#8) cab (fun t => t.height.speed = some 150 &&
      t.link.queue.map Telegram.bytes = [frame 0x95#8 1#8 [2#8, 0#8]]) := by decide +kernel
/-- P12 of 80 is raised to 100 and answered CLAMPED with the value held, while not RUNNING (R170). -/
theorem test_set_param_clamped :
    leaves (.setParam 1#8 12#8 [0#8, 80#8]) (inControl cab .suspended) (fun t => t.params.p12 = 100 &&
      t.link.queue.map Telegram.bytes = [frame 0xA1#8 1#8 [2#8, 0#8, 12#8, 0#8, 100#8]]) := by decide +kernel
/-- P76 of -5 is written and read back as FFFBh (R161). -/
theorem test_set_param_signed :
    leaves (.setParam 1#8 76#8 [0xFF#8, 0xFB#8]) cab (fun t => t.params.p76 = -5 &&
      t.link.queue.map Telegram.bytes = [frame 0xA1#8 1#8 [0#8, 0#8, 76#8, 0xFF#8, 0xFB#8]]) := by decide +kernel
/-- The ramp contacts: NC closed alone reads UP after 200 ms, and not before (R38). -/
theorem test_ramp_reading :
    leaves .debouncedRampReading (cab.setSensing { cab.sensing with ramp := ⟨false, true, .up, 99800, none⟩ })
      (fun t => t.height.ramp = .up && t.height.rampRead) ∧
    leaves .debouncedRampReading (cab.setSensing { cab.sensing with ramp := ⟨false, true, .up, 99801, none⟩ })
      (fun t => t.height.ramp = .unknown && !t.height.rampRead) := by decide +kernel
/-- A tick of an idle unit moves the time by 1 ms and finds the commands then due. -/
theorem test_tick :
    cab.tick.now = 100001 ∧ cab.tick.pending = [.timeTagAdvance, .debouncedRampReading, .debouncedPosition] := by
  decide +kernel

/-! ### Witnesses: states and operands that meet the hypotheses of each statement, clause by clause -/

/-- What `State.Serving` asks, as a test. -/
theorem serves (s : State) (h : (s.link.up && !s.link.restartPending && decide (s.link.queue.length < 8) &&
    s.deferred.isEmpty && decide (s.supervisor.control ≠ .starting)) = true) : s.Serving := by
  simp only [Bool.and_eq_true, Bool.not_eq_true', decide_eq_true_eq, List.isEmpty_iff] at h
  exact ⟨⟨h.1.1.1.1, h.1.1.1.2, h.1.1.2, h.1.2⟩, h.2⟩

/-- What `State.Ready` asks, as a test. -/
theorem ready (s : State) (h : (s.link.up && !s.link.restartPending && decide (s.link.queue.length < 8) &&
    s.deferred.isEmpty) = true) : s.Ready := by
  simp only [Bool.and_eq_true, Bool.not_eq_true', decide_eq_true_eq, List.isEmpty_iff] at h
  exact ⟨h.1.1.1, h.1.1.2, h.1.2, h.2⟩

/-- A state whose every list is full, RUNNING with air moving. -/
def full : State :=
  let s := waiting (waiting cab ⟨0, .fill, .safety, 5000, .noReason⟩) ⟨3, .probe, .tyre, 4000, .galleryBusy⟩
  let s := (s.setValve 10 ⟨true, false, none, false⟩).setCircuit 4 { idleRecord with strikes := 2 }
  let s := s.setChannel 1 ⟨some 2000#12, List.replicate 8 2000#12, some 500, .valid, 19, 25⟩
  { s with
    engine := [transaction 5 .probe .vent 100100, transaction 6 .probe .vent 100100,
      transaction 7 .probe .vent 100100, transaction 8 .probe .vent 100100, transaction 9 .probe .vent 100100]
    events := { s.events with queue := List.replicate 48 ⟨7, .sensorRestored, .advisory, none, some 4⟩ }
    link := { s.link with queue := List.replicate 8 (notice 1) }
    pending := [.controlHold 1#8, .framerGap] }

theorem witness_StepRunsFrontCommand : full.pending = .controlHold 1#8 :: [.framerGap] := by decide +kernel
theorem witness_IdleStepIsOneTick : cab.pending = [] := rfl

/-- The reply to CONTROL RESTART at the head of the queue. -/
def restarting : State := { cab with
  link := { cab.link with queue := [bare .restartReply], restartPending := true } }
theorem witness_RestartKeepsFourItems :
    restarting.restartAtHead = true ∧ restarting.link.restartPending = true := by decide +kernel

theorem witness_StepQuietUnlessRunning : full.QuietUnlessRunning ∧ (∃ t, step full = .next t) ∧
    (inControl cab .suspended).QuietUnlessRunning ∧ (∃ t, step (inControl cab .suspended) = .next t) :=
  ⟨fun h => absurd h (by decide +kernel), ⟨_, rfl⟩, fun _ => by unfold State.AirAtRest; decide +kernel, ⟨_, rfl⟩⟩
theorem witness_StepDemandsOrdered : full.DemandsOrdered ∧ ∃ t, step full = .next t :=
  ⟨by unfold State.DemandsOrdered; decide +kernel, ⟨_, rfl⟩⟩
theorem witness_StepOneWheelOpen : full.OneWheelOpen ∧ ∃ t, step full = .next t :=
  ⟨by unfold State.OneWheelOpen; decide +kernel, ⟨_, rfl⟩⟩
theorem witness_StepStrikesBounded : full.StrikesBounded ∧ ∃ t, step full = .next t :=
  ⟨by unfold State.StrikesBounded; decide +kernel, ⟨_, rfl⟩⟩
theorem witness_StepQueuesBounded : full.QueuesBounded ∧ ∃ t, step full = .next t :=
  ⟨by unfold State.QueuesBounded; decide +kernel, ⟨_, rfl⟩⟩
theorem witness_StepChannelsBounded : full.ChannelsBounded ∧ ∃ t, step full = .next t :=
  ⟨by unfold State.ChannelsBounded; decide +kernel, ⟨_, rfl⟩⟩

/-- A restart pending, its reply sent or still queued elsewhere. -/
def restartDue : State := { cab with link := { cab.link with restartPending := true } }
theorem witness_TelegramsAreChecked :
    (List.replicate 48 0#8).length ≤ 48 ∧ ([] : List Byte).length ≤ 48 ∧
    0#16 ≠ checkWord [byteOf ([] : List Byte).length, 1#8, 7#8] ∧ cab.deferred = [] := by decide +kernel
theorem witness_TelegramsAreChecked_judged : restartDue.link.restartPending = true ∧ cab.Ready ∧ cab.Serving ∧
    (0x45#8 : Byte).toNat ∉ [0x01, 0x02, 0x03, 0x04, 0x10, 0x11, 0x12, 0x13, 0x14, 0x15, 0x20, 0x21, 0x30, 0x31, 0x32,
      0x33, 0x34, 0x40, 0x41, 0x42, 0x43, 0x44] ∧
    ([0#8, 0#8] : List Byte).length ∉ [1, 3] ∧ ([] : List Byte).length ∉ [1] ∧ cab.supervisor.control ≠ .starting ∧
    isParam (4#8 : Byte).toNat = false ∧ isParam (51#8 : Byte).toNat = true ∧ (0 : Nat) % 3 = 0 ∧
    ([1#8] : List Byte).length ≠ 2 * ((0#8 : Byte).toNat % 64 + 1) ∧ 3 < (4#8 : Byte).toNat ∧ 2 < (3#8 : Byte).toNat :=
  ⟨rfl, ready _ (by decide +kernel), serves _ (by decide +kernel), by decide +kernel⟩
/-- A KIND that R154 does not name, and a STATUS with a body (R153): the reasons of the replies. -/
theorem test_unknown_kind_and_bad_length :
    leaves (.telegramReceived (frame 0x45#8 7#8 [])) starting
      (fun t => t.link.queue = [⟨.reply, frame 0xC5#8 7#8 [3#8, 1#8]⟩]) = true ∧
    leaves (.telegramReceived (frame 0x01#8 7#8 [0#8])) starting
      (fun t => t.link.queue = [⟨.reply, frame 0x81#8 7#8 [3#8, 2#8]⟩]) = true := by decide +kernel
/-- A restart pending discards a valid telegram (R153 step 2). -/
theorem test_restart_pending_discards :
    leaves (.telegramReceived (frame 0x01#8 7#8 [])) restartDue (fun t => t.link.queue = []) = true := by
  decide +kernel
theorem witness_RequestRowsAreTelegrams :
    (Instr.setParam 7#8 51#8 (List.replicate 47 0#8)).wellFormed = true ∧
    asTelegram (.setParam 7#8 51#8 (List.replicate 47 0#8)) = some ⟨0x21#8, 7#8, 51#8 :: List.replicate 47 0#8⟩ ∧
    (Instr.profilePut 7#8 0xA055#16 1#16 (List.replicate 22 0#16)).wellFormed = true ∧
    (asTelegram (.profilePut 7#8 0xA055#16 1#16 (List.replicate 22 0#16))).isSome = true ∧
    (Instr.status 7#8).wellFormed = true ∧ asTelegram (.status 7#8) = some ⟨1#8, 7#8, []⟩ := by decide +kernel

/-- A framer state with a partial telegram and the end of the character before. -/
def framing (f : FramerState) (part : List Byte) (last : Option Nat) : State :=
  { cab with link := { cab.link with framer := f, partialTelegram := part, lastChar := last } }
/-- The premises of the framer's table: no hand-off left and no gap, in a framer state. -/
def inFramer (s : State) (f : FramerState) : Bool := s.deferred.isEmpty && !s.gapPassed && s.link.framer = f
theorem witness_FramerTable :
    (inFramer (framing .hunt [] none) .hunt ∧ inFramer (framing .hunt [] (some 99995)) .hunt ∧
      (0xC3#8 = (0xC3#8 : Byte)) ∧ (0xC2#8 ≠ (0xC3#8 : Byte))) ∧
    (inFramer (framing .length [0xC3#8] (some 99999)) .length ∧ (48#8 : Byte).toNat ≤ 48 ∧ 48 < (49#8 : Byte).toNat) ∧
    inFramer (framing .kind [0xC3#8, 0#8] (some 99999)) .kind ∧
    (inFramer (framing .tag [0xC3#8, 0#8, 1#8] (some 99999)) .tag ∧
      State.partialLength ([0xC3#8, 0#8, 1#8] ++ [7#8]) = 0) ∧
    (inFramer (framing .tag [0xC3#8, 2#8, 1#8] (some 99999)) .tag ∧
      State.partialLength ([0xC3#8, 2#8, 1#8] ++ [7#8]) ≠ 0) ∧
    (inFramer (framing .body [0xC3#8, 2#8, 1#8, 7#8, 5#8] (some 99999)) .body ∧
      ([0xC3#8, 2#8, 1#8, 7#8, 5#8] ++ [6#8]).length =
        State.partialLength ([0xC3#8, 2#8, 1#8, 7#8, 5#8] ++ [6#8]) + 4) ∧
    (inFramer (framing .body [0xC3#8, 2#8, 1#8, 7#8] (some 99999)) .body ∧
      ([0xC3#8, 2#8, 1#8, 7#8] ++ [6#8]).length ≠ State.partialLength ([0xC3#8, 2#8, 1#8, 7#8] ++ [6#8]) + 4) ∧
    (inFramer (framing .check [0xC3#8, 0#8, 1#8, 7#8] (some 99999)) .check ∧
      ([0xC3#8, 0#8, 1#8, 7#8] ++ [6#8]).length ≠ State.partialLength ([0xC3#8, 0#8, 1#8, 7#8] ++ [6#8]) + 6) ∧
    (inFramer (framing .check [0xC3#8, 0#8, 1#8, 7#8, 0#8] (some 99999)) .check ∧
      ([0xC3#8, 0#8, 1#8, 7#8, 0#8] ++ [6#8]).length =
        State.partialLength ([0xC3#8, 0#8, 1#8, 7#8, 0#8] ++ [6#8]) + 6) ∧
    (framing .kind [0xC3#8, 0#8] (some 99994)).gapPassed = true := by decide +kernel
theorem witness_FrameArrivesCharacterByCharacter :
    (List.replicate 48 0#8).length ≤ 48 ∧ cab.link.framer = .hunt ∧ cab.gapPassed = false := by decide +kernel

/-- The Transmit Queue replaced. -/
def queued (q : List Telegram) : State := { cab with link := { cab.link with queue := q } }
theorem witness_TransmitQueue :
    (queued (List.replicate 7 (reply 1))).link.queue.length < 8 ∧
    (burst.link.queue = reply 1 :: ([] ++ notice 1 :: [reply 2, notice 2, reply 3, reply 4, notice 3, reply 5]) ∧
      8 ≤ burst.link.queue.length ∧ (notice 1).cls = .notice ∧ ∀ x ∈ ([] : List Telegram), x.cls ≠ .notice) ∧
    ((queued (notice 9 :: ([reply 2, reply 3] ++ notice 1 :: List.replicate 4 (reply 4)))).link.queue.length = 8 ∧
      ∀ x ∈ [reply 2, reply 3], x.cls ≠ .notice) ∧
    ((queued (notice 9 :: List.replicate 7 (reply 1))).link.queue = notice 9 :: List.replicate 7 (reply 1) ∧
      8 ≤ (queued (notice 9 :: List.replicate 7 (reply 1))).link.queue.length ∧
      (∀ x ∈ List.replicate 7 (reply 1), x.cls ≠ .notice) ∧ cab.link.up = true) ∧
    ((queued [reply 1]).link.queue = reply 1 :: [] ∧ (queued [reply 1]).deferred = [] ∧
      (reply 1).cls ≠ .restartReply) ∧
    ((queued [bare .restartReply]).link.queue = bare .restartReply :: [] ∧
      (queued [bare .restartReply]).link.restartPending = false) := by decide +kernel

/-- The link with a last valid mark and a link state. -/
def heardAt (up seen : Bool) (m : Nat) : State :=
  { cab with link := { cab.link with up := up, seen := seen, lastValid := some m, queue := [notice 1, notice 2] } }
theorem witness_LinkState :
    ((heardAt true true 98000).link.up = true ∧ (heardAt true true 98000).link.lastValid = some 98000 ∧
      98000 + (heardAt true true 98000).params.p90 ≤ (heardAt true true 98000).now ∧
      (heardAt true true 98000).deferred = []) ∧
    ((heardAt true true 98001).link.lastValid = some 98001 ∧
      (heardAt true true 98001).now < 98001 + (heardAt true true 98001).params.p90) ∧
    (heardAt false false 98001).link.up = false ∧
    ((heardAt false true 98001).link.up = false ∧ (heardAt false true 98001).link.seen = true) ∧
    (heardAt true true 98001).link.up = true := by decide +kernel
/-- The loss and the return of the link log their events (R160). -/
theorem test_link_events :
    leaves .linkLost (heardAt true true 98000) (fun t => t.events.queue = [⟨0, .linkLost, .degraded, none, some 2000⟩]) ∧
    (heardAt false true 98001).linkHeard.events.queue = [⟨0, .linkRestored, .advisory, none, none⟩] ∧
    (heardAt false false 98001).linkHeard.events.queue = [] := by decide +kernel
/-- Summary due now, with a queue. -/
def summing (q : List Telegram) : State :=
  { cab with link := { cab.link with summaryDue := some 100000, queue := q } }
theorem witness_SummaryMoment :
    (summing []).link.summaryDue = some 100000 ∧ 100000 ≤ (summing []).now ∧ (summing []).deferred = [] ∧
    (summing []).link.secured = false ∧ (summing (List.replicate 6 (reply 1))).link.queue.length ≤ 6 ∧
    ¬(summing (List.replicate 7 (reply 1))).link.queue.length ≤ 6 := by decide +kernel
/-- T1 waits for a probe in class 3. -/
def probeWaits : State := waiting cab ⟨3, .probe, .tyre, 99000, .noReason⟩
theorem witness_ReadsChangeNothing : cab.Ready ∧ starting.Ready ∧
    (14#8 : Byte).toNat = (14 : CircuitId).val ∧ 14 < (15#8 : Byte).toNat ∧ 1 < (2#8 : Byte).toNat :=
  ⟨ready _ (by decide +kernel), ready _ (by decide +kernel), by decide⟩
theorem witness_ReadsChangeNothing_parts :
    ((probeWaits.circuit 3).state = .waiting ∧ probeWaits.demandOf 3 = some ⟨3, .probe, .tyre, 99000, .noReason⟩ ∧
      probeWaits.scheduler.demands.head? = some ⟨3, .probe, .tyre, 99000, .noReason⟩) ∧
    ((inflatingT6.circuit 8).state = .active ∧
      inflatingT6.transactionOn 8 = some { transaction 8 .inflate .inflate 100980 with wheelOpened := true }) ∧
    (3 : CircuitId) = tyreCircuit 0 ∧ cab.scheduler.demands = [] := by decide +kernel
/-- STARTING with a boot code. -/
def startingWith (b : Option BootCode) : State := { starting with startUp := ⟨0, some ⟨100010, false⟩, b, false⟩ }
theorem witness_StartingRefuses :
    (startingWith none).Ready ∧ (startingWith none).supervisor.control = .starting ∧
    (startingWith none).startUp.bootCode ≠ some .aborted ∧ (startingWith none).startUp.loader ≠ none ∧
    (startingWith (some .aborted)).Ready ∧ (startingWith (some .aborted)).supervisor.control = .starting ∧
    (startingWith (some .aborted)).startUp.bootCode = some .aborted :=
  ⟨ready _ (by decide +kernel), rfl, by decide +kernel, by decide +kernel, ready _ (by decide +kernel), rfl, rfl⟩
theorem witness_EventTaken : overrun.events.queue.length ≤ 48 ∧ overrun.events.queue.length = 48 ∧
    overrun.link.secured = false ∧ cab.events.queue.length ≤ 48 := by decide +kernel
theorem witness_EventsRequest : overrun.Ready ∧ starting.Ready :=
  ⟨ready _ (by decide +kernel), ready _ (by decide +kernel)⟩
/-- The time tag at its end. -/
def rolling : State := cab.setEvents { cab.events with timeTag := 0xFFFFFFFF#32, nextAdvance := 100000 }
theorem witness_TimeLoad : cab.Serving ∧ (cab.deferred = [] ∧ cab.events.nextAdvance ≤ cab.now ∧
    cab.events.timeTag ≠ 0xFFFFFFFF#32) ∧ (rolling.deferred = [] ∧ rolling.events.nextAdvance ≤ rolling.now ∧
    rolling.events.timeTag = 0xFFFFFFFF#32) := ⟨serves _ (by decide +kernel), by decide +kernel⟩
/-- The supply valve and the isolation valve faulty, their conditions active; LIFT is ABSENT. -/
def faulty : State :=
  let s := (cab.setValve 0 ⟨false, true, none, false⟩).setValve 9 ⟨false, true, none, false⟩
  (s.raise (.valveFault 0) .critical).raise (.valveFault 9) .degraded
theorem witness_ClearRequest_faulty : faulty.Serving ∧ (∃ v ∈ sharedValves, (faulty.valve v).fault = true) ∧
    faulty.isPresent liftCircuit = false ∧ (faulty.valve 9).fault = true ∧
    (1 : ValveId) ∈ [(1 : ValveId)] ∧ (9 : ValveId) ∉ sharedValves ∧
    (∀ v ∈ sharedValves, ConditionId.heightLost ≠ .valveFault v) :=
  ⟨serves _ (by decide +kernel), by decide +kernel⟩
theorem witness_ClearRequest : cab.Serving ∧ (∀ v ∈ sharedValves, (cab.valve v).fault = false) ∧
    cab.isPresent liftCircuit = false ∧ lifted.Serving ∧ lifted.isPresent liftCircuit = true :=
  ⟨serves _ (by decide +kernel), by decide +kernel, by decide +kernel, serves _ (by decide +kernel), by decide +kernel⟩
/-- GALLERY is held, an INFLATE of T1 stands before a FILL of LEFT, and valves 1 and, where asked, 2 are faulty. -/
def clearing (second : Bool) : State :=
  let s := (waiting (waiting (valid cab 0 800) ⟨3, .fill, .level, 99000, .noReason⟩) ⟨0, .fill, .level, 99500, .noReason⟩)
  let s := s.setScheduler { s.scheduler with gallery := some 5 }
  (s.setValve 0 ⟨false, true, none, false⟩).setValve 1 ⟨false, second, none, false⟩
/-- One pass for one flag: T1 is examined before LEFT takes SUPPLY (R72, R73, R75). -/
theorem test_clear_one_flag_one_pass :
    leaves (.clear 7#8) (clearing false) (fun t => t.scheduler.demands.map Demand.reason = [.galleryBusy]) = true := by
  decide +kernel
/-- Two flags, two passes: the second finds SUPPLY taken (R72, R73, R75). -/
theorem test_clear_two_flags_two_passes :
    leaves (.clear 7#8) (clearing true) (fun t => t.scheduler.demands.map Demand.reason = [.supplyBusy]) = true := by
  decide +kernel
/-- A lamp test at its end, and BLINK at the end of a half-period. -/
def testing : State := { cab with
  events := { cab.events with testEnd := some 100000 }
  driver := { cab.driver with lamp := ⟨.blink, true, some 100000⟩ } }
theorem witness_LampMoments : cab.Serving ∧ (testing.events.testEnd = some 100000 ∧ 100000 ≤ testing.now ∧
    testing.deferred = []) ∧ testing.driver.lamp.nextToggle = some 100000 ∧
    ({ testing with now := 99999 }.events.testEnd = some 100000 ∧ { testing with now := 99999 }.now < 100000) ∧
    cab.events.testEnd = none :=
  ⟨serves _ (by decide +kernel), by decide +kernel⟩
theorem witness_ConversionRule :
    (⟨500, 500, 1000⟩ : Calibration).fullCount ≤ (⟨500, 500, 1000⟩ : Calibration).zeroCount ∧
    (409#12 : RawReading).toNat < (⟨410, 3686, 1000⟩ : Calibration).zeroCount ∧
    (410 < 3686 ∧ 410 ≤ (410#12 : RawReading).toNat ∧ 410 ≤ (4095#12 : RawReading).toNat) ∧
    (1 ≤ (1 : Channel).val ∧ (4 : Channel).val ≤ 4) := by decide
theorem witness_FilteredValue : cab.filter 1 [2400#12] = some 607 := by decide +kernel
theorem witness_GoodReading : 123 ≤ (123#12 : RawReading).toNat ∧ (3972#12 : RawReading).toNat ≤ 3972 ∧
    ((3 : Channel).val = 3 → lifted.params.p03 = .fitted) ∧ ((1 : Channel).val = 3 → cab.params.p03 = .fitted) := by
  decide +kernel
/-- Channel 1 with a status and a bad score. -/
def scored (st : SensorStatus) (score : Nat) : State := cab.setChannel 1 ⟨none, [], none, st, score, 0⟩
theorem witness_BadReading : ((122#12 : RawReading).toNat < 123 ∧ 3972 < (3973#12 : RawReading).toNat ∧
      ((1 : Channel).val = 3 → cab.params.p03 = .fitted)) ∧
    (((scored .valid 17).channel 1).status ≠ .failed ∧ ((scored .valid 17).channel 1).badScore + 2 < 20 ∧
      (scored .valid 17).deferred = []) ∧
    ((scored .failed 0).channel 1).status = .failed ∧
    (((scored .unknown 18).channel 1).status ≠ .failed ∧ 20 ≤ ((scored .unknown 18).channel 1).badScore + 2) ∧
    (cab.params.p03 = .notFitted ∧ cab.deferred = []) := by decide +kernel
/-- At a score of 20 SENSOR_FAILED is logged and raised, and at a run of 25 it is cleared (R32 to R34). -/
theorem test_sensor_failed :
    leaves (.analogReading 1 100#12) (scored .valid 18) (fun t =>
      t.events.conditions.map (fun a => (a.id, a.severity)) = [(.sensorFailed 1, .degraded)] ∧
      t.events.queue.map (fun r => (r.kind, r.circuit, r.value)) = [(.sensorFailed, some 0, some 1)]) = true ∧
    leaves (.analogReading 1 2000#12) (((scored .failed 0).setChannel 1 ⟨none, [], none, .failed, 0, 24⟩).raise
      (.sensorFailed 1) .degraded) (fun t => t.events.conditions = []) = true := by decide +kernel
theorem witness_BadReading_heights :
    ((cab.channel 5).status ≠ .valid ∧ (cab.channel 6).status ≠ .valid ∧ cab.isActive .heightLost = false) ∧
    (cab.raise .heightLost .critical).isActive .heightLost = true ∧ ((valid cab 5 290).channel 5).status = .valid := by
  decide +kernel
/-- The LEFT comparator with what it holds. -/
def comparing (tripped : Bool) (n : Nat) : State := cab.setComparator .left ⟨tripped, n⟩
theorem witness_TripRule :
    ((comparing false 0).comparator .left = ⟨false, 0⟩ ∧ ComparatorId.left.threshold cab.params ≤ 850) ∧
    ((comparing false 1).comparator .left = ⟨false, 1⟩ ∧ 849 < ComparatorId.left.threshold cab.params) ∧
    ((comparing true 0).comparator .left = ⟨true, 0⟩ ∧ 829 + 20 < ComparatorId.left.threshold cab.params) ∧
    ((comparing true 1).comparator .left = ⟨true, 1⟩ ∧ ComparatorId.left.threshold cab.params ≤ 830 + 20) := by
  decide +kernel
theorem witness_TripRule_cut :
    (∀ x ∈ [(0, TransactionKind.sideFill), (2, .liftFill)],
      (inFlight lifted (transaction x.1 x.2 .pulse 100000)).transactionOn x.1 =
        some (transaction x.1 x.2 .pulse 100000)) ∧
    (cab.transactionOn 0 = none ∧ cab.transactionOn 1 = none ∧ cab.transactionOn liftCircuit = none) ∧
    (0 : CircuitId) = sideCircuit .left ∧
    (∃ t ∈ (inFlight lifted (transaction 3 .inflate .charge 100000)).engine, t.kind = .inflate ∧ t.phase = .charge ∧
      ∀ u ∈ (inFlight lifted (transaction 3 .inflate .charge 100000)).engine, u.kind = .inflate → u = t) ∧
    ¬(TransactionKind.sideExhaust = .sideFill ∧ Phase.pulse = .pulse) := by decide +kernel
/-- The ramp and position inputs with holds begun at a moment. -/
def holding (m : Nat) : State := cab.setSensing { cab.sensing with
  ramp := ⟨false, true, .up, m, none⟩
  position := ⟨.isolated, m, some .connected⟩ }
theorem witness_DebouncedInputs : cab.deferred = [] ∧
    ((holding 99800).sensing.ramp.since + 200 ≤ (holding 99800).now ∧
      (holding 99800).sensing.ramp.debounced ≠ some (holding 99800).sensing.ramp.candidate) ∧
    (holding 99801).now < (holding 99801).sensing.ramp.since + 200 ∧
    ((holding 99950).sensing.position.since + 50 ≤ (holding 99950).now ∧
      (holding 99950).position ≠ some (holding 99950).sensing.position.raw) ∧
    (holding 99951).now < (holding 99951).sensing.position.since + 50 := by decide +kernel
/-- A ramp reading is due; the ramp state held before it, and whether one has been read. -/
def ramping (new held : RampState) (read : Bool) : State := (cab.setSensing { cab.sensing with
  ramp := ⟨false, false, new, 99800, none⟩ }).setHeight { cab.height with ramp := held, rampRead := read }
theorem witness_DebouncedInputs_ramp :
    (∀ x ∈ ([(.up, .down, true), (.down, .up, true), (.unknown, .up, true), (.unknown, .unknown, false),
        (.down, .down, true)] : List (RampState × RampState × Bool)),
      (ramping x.1 x.2.1 x.2.2).sensing.ramp.since + 200 ≤ (ramping x.1 x.2.1 x.2.2).now ∧
      (ramping x.1 x.2.1 x.2.2).sensing.ramp.debounced ≠ some (ramping x.1 x.2.1 x.2.2).sensing.ramp.candidate ∧
      (ramping x.1 x.2.1 x.2.2).sensing.ramp.candidate = x.1 ∧ (ramping x.1 x.2.1 x.2.2).height.ramp = x.2.1 ∧
      (ramping x.1 x.2.1 x.2.2).height.rampRead = x.2.2) := by decide +kernel
/-- The first reading counts as a change whatever its state, and UNKNOWN raises RAMP_SENSE (R108). -/
theorem test_first_ramp_reading :
    leaves .debouncedRampReading (ramping .unknown .unknown false) (fun t => t.isActive .rampSense &&
      t.events.queue.map EventRecord.kind = [.rampChanged, .rampSense, .rampAtSpeed]) ∧
    leaves .debouncedRampReading (ramping .down .down true) (fun t => t.events.queue = []) := by decide +kernel
/-- An INFLATE of T6 in CHARGE, a fill of LEFT, an exhaust of LIFT, none with a valve open yet. -/
def asking : State := { cab with
  engine := [transaction 8 .inflate .charge 100300, transaction 0 .sideFill .pulse 100300,
    transaction 2 .liftExhaust .pulse 100300]
  scheduler := ⟨[], some 8, some 8⟩ }
theorem witness_OpenRequest :
    ∀ x ∈ ([(8, 0), (8, 1), (8, 2), (8, 15), (0, 3), (0, 4), (2, 8)] : List (CircuitId × ValveId)),
      (asking.valve x.2).isOpen = false ∧ ((asking.requestOpen x.1 x.2).valve x.2).isOpen = true := by decide +kernel
/-- The same with the fault flags of valves 1, 4 and 9 set, and the side exhaust valve open. -/
def askingFaulty : State := [0, 3, 8].foldl (fun s v => s.setValve v ⟨false, true, none, false⟩)
  (asking.setValve 4 ⟨true, false, none, false⟩)
theorem witness_OpenRequest_answers :
    (asking.transactionOn 8 = some (transaction 8 .inflate .charge 100300) ∧ asking.supervisor.lowSupply = false ∧
      asking.scheduler.supply = some 8 ∧ asking.scheduler.gallery = some 8 ∧ (8 : CircuitId) = tyreCircuit 5 ∧
      ∀ u : TyreId, u ≠ 5 → (asking.valve (wheelValve u)).isOpen = false) ∧
    (∀ x ∈ ([(8, 0), (0, 3), (2, 8)] : List (CircuitId × ValveId)), (askingFaulty.valve x.2).fault = true ∧
      (askingFaulty.requestOpen x.1 x.2).deferred = [.openRefused x.1 x.2]) ∧
    ((askingFaulty.valve 4).isOpen = true ∧ askingFaulty.requestOpen 0 4 = askingFaulty) ∧
    (cab.transactionOn 8 = none ∧ asking.scheduler.supply ≠ some 0 ∧ asking.scheduler.gallery ≠ some 0 ∧
      asking.requestOpen 0 0 = asking ∧ asking.requestOpen 0 10 = asking ∧ asking.requestOpen 8 16 = asking) ∧
    ((inflatingT6.valve (wheelValve 5)).isOpen = true ∧ inflatingT6.requestOpen 8 11 = inflatingT6) := by decide +kernel
/-- The fill of LEFT whose valve 4 is refused ends ELECTRICAL and LEFT is STALLED, with no VALVE_FAULT (R11, R100). -/
theorem test_open_refused :
    (((askingFaulty.takeDeferred (.openRefused 0 3)).circuit 0).state = .stalled) ∧
    ((askingFaulty.takeDeferred (.openRefused 0 3)).circuit 0).lastOutcome = .electrical ∧
    (askingFaulty.takeDeferred (.openRefused 0 3)).events.queue = [⟨0, .circuitStalled, .critical, some 0, some 0⟩] := by
  decide +kernel
/-- Valve 1 open with a check begun at a moment. -/
def checking (m : Nat) : State := cab.setValve 0 ⟨true, false, some m, false⟩
/-- Valve 1 closed, its verdict still to be taken. -/
def leftOver : State := cab.setValve 0 ⟨false, false, none, true⟩
theorem witness_CheckVerdicts :
    (((checking 99980).valve 0).check = some 99980 ∧ ((checking 99980).valve 0).verdictLeft = false ∧
      (checking 99980).deferred = [] ∧ 99980 + 20 ≤ (checking 99980).now) ∧
    (((checking 99981).valve 0).check = some 99981 ∧ (checking 99981).now < 99981 + 20) ∧ (0 : ValveId) ≠ isolationValve ∧
    ((cab.valve 0).check = none ∧ (cab.valve 0).verdictLeft = false) ∧
    ((leftOver.valve 0).verdictLeft = true ∧ leftOver.deferred = []) := by decide +kernel
/-- T1 in a state. -/
def tyreIn (st : CircuitState) : State := cab.setCircuit 3 { idleRecord with state := st }
/-- A valve with a check that has run its 20 ms, and its flag. -/
def checked (s : State) (v : ValveId) (flag : Bool) : State := s.setValve v ⟨v ≠ isolationValve, flag, some 99980, false⟩
theorem witness_CheckVerdicts_faulty :
    (∀ x ∈ ([(cab, 0), (cab, 3), (inflatingT6, 0), (inflatingT6, 15), (lifted, 9)] : List (State × ValveId)),
      ((checked x.1 x.2 false).valve x.2).check = some 99980 ∧ ((checked x.1 x.2 false).valve x.2).verdictLeft = false ∧
      99980 + 20 ≤ (checked x.1 x.2 false).now) ∧
    (valveOwner 3 = some 0 ∧ cab.transactionOn 0 = none ∧ valveOwner 15 = some 8 ∧
      inflatingT6.transactionOn 8 = some { transaction 8 .inflate .inflate 100980 with wheelOpened := true }) ∧
    (valveNumber 0 ≤ 3 ∧ inflatingT6.scheduler.supply = some 8 ∧ (0 : ValveId) ∈ phaseValves 8 .inflate .inflate ∧
      (2 : ValveId) ∉ phaseValves 8 .inflate .inflate ∧ inflatingT6.scheduler.gallery = some 8 ∧
      cab.scheduler.supply = none ∧ asking.scheduler.supply = some 8) ∧
    ((tyreIn .holdoff).circuit 3).state = .holdoff ∧ ((tyreIn .isolated).circuit 3).state = .isolated := by
  decide +kernel
/-- A FAULTY supply valve ends the INFLATE ELECTRICAL and stalls no circuit; a flag already set logs nothing again, and
valve 10 stalls LIFT (R13, R14). -/
theorem test_faulty_verdicts :
    leaves (.electricalCheck 0 .faulty) (checked inflatingT6 0 false) (fun t => (t.circuit 8).lastOutcome = .electrical &&
      (t.circuit 8).state ≠ .stalled && t.isActiveAt (.valveFault 0) .critical &&
      t.events.queue.head? = some ⟨0, .valveFault, .critical, none, some 1⟩) ∧
    leaves (.electricalCheck 9 .faulty) (checked lifted 9 true) (fun t => (t.circuit 2).state = .stalled &&
      t.events.queue.all fun r => r.kind ≠ .valveFault) := by decide +kernel
/-- The isolation valve in a switch toward ISOLATED. -/
def switching (low : Bool) (st : SwitchState) (m : Option Nat) : State :=
  (lifted.setSupervisor { lifted.supervisor with lowSupply := low }).setIsolation ⟨some .isolated, st, m⟩
theorem witness_IsolationSwitch :
    ((switching false .ready none).driver.isolation.switch = .ready ∧
      (switching false .ready none).supervisor.lowSupply = false ∧
      (switching false .ready none).position ≠ some .isolated) ∧
    ((switching true .ready none).driver.isolation.switch = .ready ∧
      (switching true .ready none).supervisor.lowSupply = true) ∧
    ((switching false .pulsing (some 99850)).driver.isolation.switch = .pulsing ∧
      (switching false .pulsing (some 99850)).driver.isolation.pulseStart = some 99850 ∧
      99850 + 150 ≤ (switching false .pulsing (some 99850)).now ∧
      (switching false .pulsing (some 99850)).deferred = []) ∧
    ((switching false .checking (some 99500)).driver.isolation.switch = .checking ∧
      (switching false .checking (some 99500)).driver.isolation.pulseStart = some 99500 ∧
      99500 + 500 ≤ (switching false .checking (some 99500)).now) := by decide +kernel
/-- The position reads ISOLATED. -/
def there (s : State) : State :=
  s.setSensing { s.sensing with position := ⟨.isolated, 0, some .isolated⟩ }
theorem witness_IsolationSwitch_requests :
    ((there (switching false .ready none)).position = some .isolated ∧
      (there (switching false .ready none)).driver.isolation.switch = .ready ∧
      (there (switching false .ready none)).supervisor.lowSupply = false) ∧
    (switching true .pending none).driver.isolation.switch = .pending ∧
    (∀ st ∈ [SwitchState.pulsing, .checking], (switching false st (some 99900)).driver.isolation.switch = st ∧
      (switching false st (some 99900)).driver.isolation.commanded = some .isolated ∧
      (switching false st (some 99900)).driver.isolation.commanded ≠ some .connected) := by decide +kernel
/-- A request for the other position starts its own pulse; toward the position already read the switch is READY at once,
with no check left, and the answer to be taken (R16, R17). -/
theorem test_switch_requests :
    ((switching false .checking (some 99700)).requestSwitch .connected).driver.isolation =
      ⟨some .connected, .pulsing, some 100000⟩ ∧
    ((there (switching false .ready none)).requestSwitch .isolated).driver.isolation = ⟨some .isolated, .ready, none⟩ ∧
    (((there (switching false .ready none)).requestSwitch .isolated).valve 9).check = none ∧
    ((there (switching false .ready none)).requestSwitch .isolated).deferred = [.switched] := by decide +kernel

/-- The lift axle's controller in a state and a step, a switch outstanding or not. -/
def lifting (st : LiftState) (step : LiftStep) (outstanding : Bool) : State :=
  { lifted with lift := { lifted.lift with state := st, step := step, switchOutstanding := outstanding } }
/-- The raw position ISOLATED has held its 50 ms, and was not the debounced one; the isolation valve in a switch. -/
def reading (st : SwitchState) : State :=
  (switching false st (some 99800)).setSensing { lifted.sensing with position := ⟨.isolated, 99950, some .connected⟩ }
theorem witness_IsolationSwitch_answers :
    (∀ x ∈ ([(.raising, .isolating), (.lowering, .connecting), (.lowering, .venting), (.down, .noStep)] :
        List (LiftState × LiftStep)),
      (lifting x.1 x.2 true).liftFitted = true ∧ (lifting x.1 x.2 true).lift.reconciled = true ∧
      (lifting x.1 x.2 true).lift.state = x.1 ∧ (lifting x.1 x.2 true).lift.step = x.2 ∧
      (lifting x.1 x.2 true).lift.switchOutstanding = true) ∧
    (∀ st ∈ [SwitchState.pulsing, .checking, .ready], (reading st).sensing.position.since + 50 ≤ (reading st).now ∧
      (reading st).sensing.position.raw = .isolated ∧ (reading st).position ≠ some .isolated ∧
      (reading st).driver.isolation.switch = st ∧ (reading st).driver.isolation.commanded = some .isolated) ∧
    (∀ x ∈ ([(.down, .noStep), (.up, .noStep), (.raising, .filling)] : List (LiftState × LiftStep)),
      (lifting x.1 x.2 false).liftFitted = true ∧ (lifting x.1 x.2 false).lift.reconciled = true ∧
      (lifting x.1 x.2 false).lift.switchOutstanding = false ∧ (lifting x.1 x.2 false).lift.state = x.1) := by
  decide +kernel

/-- A tyre's class 3 demand of an age; P75 is 60 s. -/
def aged (mark : Nat) : State := waiting cab ⟨3, .probe, .tyre, mark, .noReason⟩
theorem witness_PlacingADemand :
    (full.scheduler.demands.Pairwise fun a b => b.before a = false) ∧
    ((aged 39999).demandOf 3 = some ⟨3, .probe, .tyre, 39999, .noReason⟩ ∧ (aged 39999).deferred = [] ∧
      (aged 39999).params.p75 * 1000 < (aged 39999).now - 39999) ∧
    ¬(aged 40000).params.p75 * 1000 < (aged 40000).now - 40000 ∧ cab.demandOf 3 = none := by decide +kernel
theorem witness_JoinAndWithdrawal : actionAllowed 3 .probe = true ∧ actionAllowed 3 .deflate = true ∧
    ((cab.circuit 3).state = .idle ∧ cab.isRunning = true) ∧ (inControl cab .suspended).isRunning = false ∧
    ((asking.setCircuitState 3 .active).circuit 3).state ≠ .idle ∧
    ((asking.setCircuitState 3 .active).circuit 3).state ≠ .waiting ∧
    ((probeWaits.circuit 3).state = .waiting ∧ probeWaits.isRunning = true ∧
      probeWaits.demandOf 3 = some ⟨3, .probe, .tyre, 99000, .noReason⟩ ∧
      DemandClass.tyre.number ≤ DemandClass.tyre.number ∧ DemandClass.level.number < DemandClass.tyre.number ∧
      Action.probe ≠ Action.deflate) := by decide +kernel

/-- LEFT 20 mm below its target, and T1 40 kPa below its own. -/
def granting : State :=
  ((valid cab 5 270).setCircuit 0 { idleRecord with target := some 290 }).setCircuit 3
    { idleRecord with target := some 600, measured := some 560 }
theorem witness_GrantIsOneAct :
    ((granting.circuit (sideCircuit .left)).target = some 290 ∧ granting.evaluationHeight .left = some 270 ∧
      granting.params.p38 ≤ granting.params.p39 ∧ cab.evaluationHeight .left = none) ∧
    ((granting.circuit 3).target = some 600 ∧ (granting.circuit 3).measured = some 560 ∧
      granting.params.p68 ≤ granting.params.p69 ∧ (cab.circuit 3).target = none) ∧
    circuitKind 3 = .tyre ∧ circuitKind 2 ≠ .tyre ∧
    (cab.newTransaction 2 .liftFill).pulseTime = some cab.params.p85 := by decide +kernel
/-- The demand of a circuit, joined to its list. -/
def demanding (c : CircuitId) (a : Action) : State := waiting lifted ⟨c, a, .tyre, 99000, .noReason⟩
/-- The valves each kind asks for in its first phase (R84 to R88). -/
theorem test_grant_opens :
    ([((0, .fill), [0, 3]), ((1, .fill), [0, 5]), ((0, .exhaust), [4]), ((2, .fill), [0, 7]), ((2, .exhaust), [8]),
      ((3, .probe), [2]), ((3, .fill), [0, 1]), ((3, .deflate), [2, 10])] :
      List ((CircuitId × Action) × List ValveId)).all (fun x =>
        allValves.filter (fun v => (((demanding x.1.1 x.1.2).grant ⟨x.1.1, x.1.2, .tyre, 99000, .noReason⟩).valve
          v).isOpen) = x.2) = true := by decide +kernel
/-- LEFT's fill waits; the reservoir at a pressure, LEFT's bellows at 480 kPa; P30 + P31 = 650, P33 = 50. -/
def serving (reservoir : Nat) : State :=
  waiting (valid (valid cab 0 reservoir) 1 650) ⟨0, .fill, .level, 99000, .noReason⟩
/-- T1's INFLATE waits. -/
def servingTyre : State := waiting (valid cab 0 760) ⟨3, .fill, .tyre, 99000, .noReason⟩
theorem witness_ServingConditions :
    (kindFor 0 ((serving 760).actionAtGrant ⟨0, .fill, .level, 99000, .noReason⟩)).needsSupply = true ∧
    (kindFor 3 (servingTyre.actionAtGrant ⟨3, .fill, .tyre, 99000, .noReason⟩)).needsGallery = true ∧
    (((serving 760).setValve 0 ⟨false, true, none, false⟩).valve supplyValve).fault = true ∧
    ((servingTyre.setValve 2 ⟨false, true, none, false⟩).valve galleryExhaustValve).fault = true ∧
    ((serving 649).validValue 0 = some 649 ∧ 649 < (serving 649).params.p30 + (serving 649).params.p31) ∧
    ((serving 699).validValue 0 = some 699 ∧ ¬699 < (serving 699).params.p30 + (serving 699).params.p31 ∧
      699 < (serving 699).reportedValue (circuitPressureChannel 0) + (serving 699).params.p33) ∧
    (¬700 < (serving 700).reportedValue (circuitPressureChannel 0) + (serving 700).params.p33 ∧
      (serving 700).supervisor.reserve = .normal ∧
      ((serving 700).setScheduler { (serving 700).scheduler with supply := some 1 }).scheduler.supply ≠ none) ∧
    (servingTyre.scheduler.supply = none ∧
      (servingTyre.setScheduler { servingTyre.scheduler with gallery := some 5 }).scheduler.gallery ≠ none) := by
  decide +kernel

/-- A transaction whose phase has come to its end. -/
def ending (c : CircuitId) (k : TransactionKind) (ph : Phase) : State := inFlight lifted (transaction c k ph 100000)
theorem witness_PhaseEnds :
    (∀ x ∈ ([(0, .sideExhaust, .pulse), (2, .liftExhaust, .pulse), (0, .sideFill, .pulse), (2, .liftFill, .pulse),
        (3, .inflate, .inflate), (3, .probe, .vent), (3, .inflate, .charge), (3, .deflate, .bleed),
        (0, .sideFill, .settle), (2, .liftFill, .settle), (3, .probe, .equalize)] :
        List (CircuitId × TransactionKind × Phase)),
      (ending x.1 x.2.1 x.2.2).transactionOn x.1 = some (transaction x.1 x.2.1 x.2.2 100000) ∧
      (transaction x.1 x.2.1 x.2.2 100000).phaseEnd ≤ (ending x.1 x.2.1 x.2.2).now ∧
      (ending x.1 x.2.1 x.2.2).deferred = []) ∧
    ((ending 0 .sideFill .pulse).scheduler.supply = some 0 ∧ (ending 3 .inflate .inflate).scheduler.supply = some 3 ∧
      (transaction 0 .sideFill .pulse 100000).holdsSupply = true ∧
      (transaction 3 .inflate .inflate 100000).holdsSupply = true) ∧
    (circuitKind 0 ≠ .tyre ∧ circuitKind 3 = .tyre) := by decide +kernel
theorem witness_OutcomeTable : ({ idleRecord with strikes := 2 } : CircuitRecord).strikes ≤ 2 ∧
    ({ idleRecord with strikes := 1 } : CircuitRecord).strikes < 2 ∧ circuitKind 3 = .tyre ∧
    (recordAfter { idleRecord with strikes := 2 } (transaction 3 .probe .equalize 0) .strike
      (endingOf .strike 2 true) 0).state ≠ .holdoff := by decide

/-- A judged circuit: LEFT at 300 mm and 500 kPa with target 290, the bag at 500 kPa, T1 at target 600. -/
def judging : State :=
  ((valid (valid (valid cab 5 300) 1 500) 3 500).setCircuit 0 { idleRecord with target := some 290 }).setCircuit 3
    { idleRecord with target := some 600 }
theorem witness_OutcomeTable_judgements :
    (judging.validValue (heightChannel .left) = some 300 ∧ judging.validValue (pressureChannel .left) = some 500 ∧
      judging.validValue 3 = some 500 ∧ 290 + judging.params.p42 ≤ 300 ∧ ¬300 + judging.params.p42 ≤ 300 ∧
      450 + judging.params.p43 ≤ 500 ∧ ¬290 + judging.params.p15 < 300 ∧ 287 + judging.params.p15 < 300 ∧
      600 < 560 + judging.params.p33 ∧ ¬500 ≤ judging.params.p44) ∧
    ((valid judging 1 20).validValue (pressureChannel .left) = some 20 ∧ 20 ≤ judging.params.p44 ∧
      20 ≤ judging.params.p83) ∧
    (cab.validValue (heightChannel .left) = none ∧ cab.validValue (pressureChannel .left) = none) ∧
    ((judging.circuit 3).target = some 600 ∧ 29 < judging.params.p74 ∧ judging.params.p74 ≤ 560 ∧
      560 + judging.params.p73 ≤ 590 ∧ 600 + judging.params.p61 < 641 ∧ ¬600 + judging.params.p61 < 610) ∧
    (0 : CircuitId) = sideCircuit .left ∧ (2 : CircuitId) = liftCircuit ∧ (3 : CircuitId) = tyreCircuit 0 := by
  decide +kernel
theorem witness_OutcomeTable_end :
    (0 : CircuitId) = sideCircuit .left ∧ (3 : CircuitId) = tyreCircuit 0 ∧ (2 : CircuitId) = liftCircuit ∧
    endingOf .strike 2 true = .stalled 3 ∧ endingOf .noResponse 0 true = .holdoff ∧ endingOf .atLimit 0 true = .idle ∧
    ((cab.setValve 0 ⟨true, false, some 99990, false⟩).valve 0).isOpen = true ∧ (cab.valve 0).isOpen = false ∧
    (1 : ValveId) ≠ 0 := by decide +kernel

theorem witness_OutcomeTable_verdict :
    ((cab.setValve 0 ⟨true, false, some 99980, false⟩).valve 0).check = some 99980 ∧ 99980 + 20 ≤ cab.now ∧
    cab.now < 99981 + 20 ∧ ((cab.setValve 0 ⟨true, false, some 99980, false⟩).closeAtVerdict 0).valve 0 =
      ⟨false, false, none, true⟩ := by decide +kernel

/-- A side at a height in RIDE, the target 290, P14 = 200, P13 = 420, band 12. -/
def standing (h : Nat) (atLimit : Bool) : State :=
  (valid cab 5 h).setSideControl .left ⟨false, none, none, false, atLimit, some 100000⟩
/-- LEFT 13 mm low since a moment. -/
def persisting (m : Nat) : State :=
  (valid cab 5 277).setSideControl .left ⟨false, some .fill, some m, false, false, none⟩
theorem witness_SideEvaluation :
    (∀ h ∈ [199, 200, 277, 278, 302, 303, 420, 421], (standing h false).evaluationHeight .left = some h) ∧
    (standing 200 false).height.target = some 290 ∧ (standing 200 false).params.p14 = 200 ∧
    (standing 200 false).params.p13 = 420 ∧ (standing 200 false).params.p15 = 12 ∧
    ((standing 200 false).sideControl .left).atLimit = false ∧ ((standing 421 true).sideControl .left).atLimit = true ∧
    (((standing 200 false).sideControl .left).expiry = some 100000 ∧ 100000 ≤ (standing 200 false).now) ∧
    (((cab.setCircuit 3 { idleRecord with state := .holdoff, holdoffEnd := some 100000 }).circuit 3).state = .holdoff ∧
      ((cab.setCircuit 3 { idleRecord with state := .holdoff, holdoffEnd := some 100000 }).circuit 3).holdoffEnd =
        some 100000) := by decide +kernel
theorem witness_SideEvaluation_evaluation :
    ((standing 290 false).validValue (heightChannel .left) = some 290 ∧ cab.validValue (heightChannel .left) = none ∧
      cab.evaluationHeight .left = none) ∧
    ((standing 290 false).circuit (sideCircuit .left)).state ≠ .absent ∧
    (State.reset.circuit (sideCircuit .left)).state = .absent ∧
    (standing 290 false).sideResult .left = .nothing ∧ (standing 199 false).sideResult .left = .safety .fill ∧
    (standing 277 false).sideResult .left = .level .fill ∧
    ((standing 277 false).now < (standing 277 false).now + (standing 277 false).persistence .left) ∧
    (100000 + (persisting 97000).persistence .left ≤ 103000 ∧ (persisting 97000).sideResult .left = .level .fill ∧
      97000 + (persisting 97000).persistence .left ≤ (persisting 97000).now) := by decide +kernel
/-- A class 1 need asks 3 s after pending since in RIDE, and not a millisecond before (R113, R114). -/
theorem test_level_need_persists :
    ((persisting 97000).evaluateSide .left).circuit 0 = { idleRecord with state := .waiting } ∧
    ((persisting 97001).evaluateSide .left).circuit 0 = idleRecord ∧
    (((persisting 97001).evaluateSide .left).sideControl .left).expiry = some 100001 := by decide +kernel
/-- After a target change, with pending since still to come, the need has not persisted and the expiry is set (R114). -/
theorem test_pending_since_to_come :
    let s := (valid cab 5 277).setSideControl .left ⟨false, some .fill, some 100001, true, false, none⟩
    s.persistence .left = 0 ∧ s.sideResult .left = .level .fill ∧ (s.evaluateSide .left).circuit 0 = idleRecord ∧
    ((s.evaluateSide .left).sideControl .left).expiry = some 100001 := by decide +kernel

/-- The lift axle's controller in a state and a step, the bag at a pressure; P82 = 300, P83 = 20. -/
def bagAt (st : LiftState) (step : LiftStep) (b : Nat) : State := valid (lifting st step false) 3 b
theorem witness_SideEvaluation_lift :
    lifted.liftFitted = true ∧ lifted.lift.reconciled = true ∧
    (∀ b ∈ [299, 300], (bagAt .raising .filling b).validValue 3 = some b) ∧
    (299 < lifted.params.p82 ∧ lifted.params.p82 ≤ 300 ∧ 269 + 30 < lifted.params.p82 ∧
      lifted.params.p82 ≤ 270 + 30) ∧
    ((bagAt .raising .filling 300).circuit liftCircuit).state = .idle ∧
    (bagAt .up .noStep 269).lift.state = .up ∧
    (lifted.params.p83 < 21 ∧ 20 ≤ lifted.params.p83 ∧ (bagAt .lowering .venting 21).lift.step = .venting) ∧
    ((lifting .up .noStep false).validValue 3 = none ∧ (lifting .lowering .venting false).lift.blindVentDone = false) ∧
    (lifting .raising .isolating true).lift.step = .isolating ∧ cab.liftFitted = false := by decide +kernel

theorem witness_SideEvaluation_held :
    let held := (lifting .lowering .venting false).setLift { (lifting .lowering .venting false).lift with
      ventHeld := true, blindVentDone := true }
    (held.liftFitted = true ∧ held.lift.reconciled = true ∧ held.lift.ventHeld = true ∧ held.validValue 3 = none ∧
      held.supervisor.control = .running ∧ (inControl held .suspended).supervisor.control ≠ .running) ∧
    (held.setLift { held.lift with blindVentDone := false }).lift.blindVentDone = false ∧
    (((bagAt .raising .filling 300).setCircuitState 2 .active).circuit liftCircuit).state = .active ∧
    (lifting .lowering .venting false).lift.ventHeld = false := by decide +kernel

/-- A height controller with a ramp state, a speed, a mode and a target. -/
def driving (ramp : RampState) (speed : Option Nat) (mode : HeightMode) (target : Option Nat) : State :=
  cab.setHeight { cab.height with ramp := ramp, speed := speed, mode := mode, target := target }
theorem witness_SetModeRequest : cab.Serving ∧ (driving .up (some 14) .ride (some 290)).Serving ∧
    2 < (3#8 : Byte).toNat ∧ (2#8 : Byte).toNat = 2 ∧ (1#8 : Byte).toNat < 2 ∧ (0#8 : Byte).toNat < 2 ∧
    (cab.height.ramp ≠ .up ∧ cab.height.speed = none) ∧
    ((driving .up (some 15) .ride (some 290)).height.speed = some 15 ∧ cab.params.p21 ≤ 15 ∧ ¬cab.params.p21 ≤ 14) ∧
    (driving .up (some 14) .ride (some 290)).height.ramp = .up ∧
    (driving .up (some 14) .ride (some 290)).height.mode ≠ .custom ∧
    (driving .up (some 14) .custom (some 290)).height.mode = .custom :=
  ⟨serves _ (by decide +kernel), serves _ (by decide +kernel), by decide +kernel⟩
theorem witness_SetModeRequest_change :
    (cab.height.mode ≠ .dock ∧ cab.params.p19 ≠ cab.params.p20 ∧ cab.height.mode = .ride) ∧
    (driving .up (some 14) .dock (some 250)).height.mode ≠ .ride ∧
    cab.height.target = some cab.formedTarget ∧
    (driving .up (some 14) .dock (some 290)).height.target ≠ some (driving .up (some 14) .dock (some 290)).formedTarget ∧
    cab.isPresent (sideCircuit .left) = true := by decide +kernel
theorem witness_StepHeightRequest : starting.Ready ∧ starting.supervisor.control = .starting ∧
    (driving .up (some 14) .ride (some 290)).Serving ∧ (driving .up (some 14) .ride none).Serving ∧
    ((0#8 : Byte).toInt = 0 ∧ 50 < (51#8 : Byte).toInt ∧ (205#8 : Byte).toInt < -50) ∧
    ((50#8 : Byte).toInt ≤ 50 ∧ -50 ≤ (206#8 : Byte).toInt ∧ (1#8 : Byte).toInt ≠ 0) ∧
    (driving .down (some 0) .ride (some 290)).height.ramp ≠ .up ∧
    (driving .up (some 14) .ride none).height.target = none ∧
    (driving .up (some 14) .ride (some 290)).height.target = some 290 :=
  ⟨ready _ (by decide +kernel), rfl, serves _ (by decide +kernel), serves _ (by decide +kernel), by decide +kernel⟩
/-- A speed with its mark; P91 is 2000 ms. -/
def marked (m : Nat) : State := cab.setHeight { cab.height with speed := some 30, speedMark := some m }
theorem witness_SpeedRequest : cab.Serving ∧ (150 < (151#8 : Byte).toNat ∧ ¬150 < (150#8 : Byte).toNat) ∧
    ((marked 98000).height.speed = some 30 ∧ (marked 98000).height.speedMark = some 98000 ∧
      98000 + (marked 98000).params.p91 ≤ (marked 98000).now) ∧
    ((marked 98001).height.speedMark = some 98001 ∧ (marked 98001).now < 98001 + (marked 98001).params.p91 ∧
      (marked 98001).deferred = []) ∧
    ((marked 98000).height.speed ≠ none ∧ (marked 98000).height.speed = some 30) :=
  ⟨serves _ (by decide +kernel), by decide +kernel⟩
/-- The ramp read in a state, the speed, the mode, and RAMP_AT_SPEED active or not. -/
def onRamp (r : RampState) (v : Option Nat) (m : HeightMode) (active : Bool) : State :=
  let s := cab.setHeight { cab.height with ramp := r, rampRead := true, speed := v, mode := m }
  if active then s.raise .rampAtSpeed .critical else s
theorem witness_SpeedRequest_judgements :
    ((onRamp .up (some 15) .dock false).height.mode ≠ .ride ∧ (onRamp .up (some 15) .dock false).height.ramp = .up ∧
      cab.params.p21 ≤ 15 ∧ ¬cab.params.p21 ≤ 14) ∧
    ((onRamp .down (some 6) .ride false).height.rampRead = true ∧
      (onRamp .down (some 6) .ride false).isActive .rampAtSpeed = false ∧
      (onRamp .down none .ride true).isActive .rampAtSpeed = true ∧ ¬(5 < 5)) ∧
    (cab.estimator.allowance = true ∧ cab.height.speed = none ∧ cab.params.p56 ≤ 80 ∧ ¬cab.params.p56 ≤ 79) := by
  decide +kernel
/-- The lift axle in a state, its controller's dwell begun at a moment. -/
def lift (st : LiftState) (w : Nat) (since : Nat) : State := { valid lifted 3 5 with
  lift := { lifted.lift with
    state := st, dwellSince := some since, loads := ⟨⟨some 100, some w, some 3, .live⟩, ⟨some 100, some w, some 3, .live⟩⟩ } }
theorem witness_LiftRequests : cab.Serving ∧ cab.params.p03 = .notFitted ∧ lifted.Serving ∧
    lifted.params.p03 = .fitted ∧
    (∀ st ∈ [LiftState.down, .raising, .up, .lowering], (lift st 5999 0).lift.state = st ∧
      (lift st 5999 0).supervisor.control = .running) ∧
    (inControl lifted .unconfigured).Serving ∧ (inControl lifted .suspended).Serving ∧
    (lifted.setCircuit 2 { idleRecord with state := .stalled }).liftBarred = true ∧
    (lifted.liftBarred = false ∧ lifted.liftClear = false) ∧
    ((lift .down 6000 0).liftBarred = false ∧ (lift .down 6000 0).liftClear = true ∧
      (lift .down 6000 0).loadAllows .left = false) ∧
    ((lift .down 5999 0).liftClear = true ∧ (lift .down 5999 0).loadAllows .left = true ∧
      (lift .down 5999 0).loadAllows .right = true) ∧
    ((lift .down 5999 90000).lift.dwellSince = some 90000 ∧ 90000 + 10000 ≤ (lift .down 5999 90000).now ∧
      (lift .down 5999 90000).mayRaise = true) ∧
    ((lift .down 6000 90000).mayRaise = false ∧ (lift .down 6000 90000).deferred = []) :=
  ⟨serves _ (by decide +kernel), rfl, serves _ (by decide +kernel), rfl, by decide +kernel,
    serves _ (by decide +kernel), serves _ (by decide +kernel), by decide +kernel⟩

theorem witness_LiftRequests_starts : lifted.liftFitted = true ∧ lifted.lift.reconciled = true ∧
    lifted.lift.state = .down ∧ (lifting .raising .filling false).lift.state = .raising ∧
    (lifting .up .noStep false).lift.state = .up ∧ (lifting .lowering .connecting true).lift.state = .lowering ∧
    cab.liftFitted = false ∧ LiftController.initial.reconciled = false := by decide +kernel

/-- A stall of LIFT in UP raises LIFT_UNAVAILABLE at DEGRADED, in LOWERING at CRITICAL (R122). -/
theorem test_stall_of_lift :
    (∀ x ∈ ([(.raising, .filling, .degraded), (.up, .noStep, .degraded), (.lowering, .venting, .critical)] :
        List (LiftState × LiftStep × Severity)), let t := (lifting x.1 x.2.1 false).liftStalled
      t.lift.state = .down ∧ t.driver.isolation.commanded = some .connected ∧
      t.events.conditions.map (fun a => (a.id, a.severity)) = [(.liftUnavailable, x.2.2)]) ∧
    (lifting .down .noStep false).liftStalled.events.conditions = [] := by decide +kernel
/-- The lift axle in AUTO with both sides' loads LIVE on all axles. -/
def loadedAuto (st : LiftState) (w : Nat) : State :=
  let s := lift st 5999 0
  { s with
    params := { s.params with p84 := .auto }
    lift := { s.lift with
      loads := ⟨⟨some w, some 5999, some s.params.p01, .live⟩, ⟨some w, some 5999, some s.params.p01, .live⟩⟩ } }
theorem witness_LiftRequests_dwell :
    (loadedAuto .down 1999).dwellHolds = true ∧ (loadedAuto .down 2000).dwellHolds = false ∧
    (loadedAuto .up 3001).overLifted .right = true ∧ (loadedAuto .up 3000).overLifted .right = false ∧
    (lifting .lowering .venting false).isActiveAt .liftUnavailable .degraded = false ∧
    ((lifting .down .noStep false).raise .liftUnavailable .critical).isActiveAt .liftUnavailable .degraded = true := by
  decide +kernel

theorem witness_IsolateRequest : starting.Ready ∧ starting.supervisor.control = .starting ∧ cab.Serving ∧
    14 < (15#8 : Byte).toNat ∧ ((2#8 : Byte).toNat = (2 : CircuitId).val ∧ (cab.circuit 2).state = .absent) ∧
    ((1#8 : Byte).toNat = (1 : CircuitId).val ∧ (cab.circuit 1).state ≠ .absent) ∧
    (3#8 : Byte).toNat = (0 : TyreId).val + 3 ∧ (14#8 : Byte).toNat = (11 : TyreId).val + 3 ∧
    (∀ st ∈ [CircuitState.active, .stalled, .isolated, .idle, .waiting, .holdoff],
      ((tyreIn st).circuit (tyreCircuit 0)).state = st) ∧ (tyreIn .active).Serving :=
  ⟨ready _ (by decide +kernel), rfl, serves _ (by decide +kernel), by decide, by decide +kernel, by decide +kernel,
    by decide, by decide, by decide +kernel, serves _ (by decide +kernel)⟩
theorem witness_ProbeRequest : starting.Ready ∧ starting.supervisor.control = .starting ∧
    (tyreIn .holdoff).Serving ∧ 14 < (15#8 : Byte).toNat ∧
    ((2#8 : Byte).toNat = (2 : CircuitId).val ∧ (cab.circuit 2).state = .absent) ∧
    ((0#8 : Byte).toNat = (0 : CircuitId).val ∧ (cab.circuit 0).state ≠ .absent) ∧
    (3#8 : Byte).toNat = (0 : TyreId).val + 3 ∧
    (∀ st ∈ [CircuitState.active, .stalled, .isolated, .idle, .waiting, .holdoff],
      ((tyreIn st).circuit (tyreCircuit 0)).state = st) :=
  ⟨ready _ (by decide +kernel), rfl, serves _ (by decide +kernel), by decide, by decide +kernel, by decide +kernel,
    by decide, by decide +kernel⟩
/-- T1 in a state with what its record holds, the gallery channel VALID; P60 = 20, P61 = 40, P53 = 250, P66 = 100. -/
def evaluating (r : CircuitRecord) (watch : Bool) : State :=
  ((valid cab 4 500).setCircuit 3 r).setTyre 0 ⟨false, false, watch, none⟩
/-- T1's record at a measured pressure and target 600. -/
def measuredAt (m : Nat) (frozen : Bool) : CircuitRecord :=
  { idleRecord with measured := some m, target := some 600, frozen := frozen }
theorem witness_ProbeRequest_rows :
    (cab.isValid 4 = false ∧ (evaluating idleRecord false).isValid 4 = true) ∧
    ((evaluating idleRecord false).circuit (tyreCircuit 0)).measured = none ∧
    (579 + cab.params.p60 < 600 ∧ 600 ≤ 580 + cab.params.p60 ∧ 600 + cab.params.p61 < 641 ∧
      640 ≤ 600 + cab.params.p61) ∧
    (((evaluating (measuredAt 579 true) false).circuit (tyreCircuit 0)).frozen = true ∧ cab.params.p53 ≤ 579) ∧
    (((evaluating (measuredAt 579 false) true).tyre 0).watch = true ∧ 600 ≤ 579 + cab.params.p66) ∧
    (((evaluating (measuredAt 641 false) false).circuit (tyreCircuit 0)).measured = some 641 ∧
      ((evaluating (measuredAt 641 false) false).circuit (tyreCircuit 0)).target = some 600 ∧
      ((evaluating (measuredAt 641 false) false).circuit (tyreCircuit 0)).probeDue = false) := by decide +kernel
/-- T1 read at a moment; P62 is 300 s. -/
def readAt (m : Nat) : State :=
  { cab.setCircuit 3 { idleRecord with measured := some 590, readMark := some m } with now := 400000 }
theorem witness_ResumeAndSurvey : (tyreIn .stalled).Serving ∧ 14 < (15#8 : Byte).toNat ∧
    ((2#8 : Byte).toNat = (2 : CircuitId).val ∧ (cab.circuit 2).state = .absent) ∧
    (∀ st ∈ [CircuitState.active, .idle, .waiting, .holdoff, .stalled, .isolated],
      ((tyreIn st).circuit 3).state = st) ∧ (3 : CircuitId) = tyreCircuit 0 ∧
    (((readAt 99999).circuit (tyreCircuit 0)).state = .idle ∧
      ((readAt 99999).circuit (tyreCircuit 0)).probeDue = false ∧
      ((readAt 99999).circuit (tyreCircuit 0)).measured = some 590 ∧
      ((readAt 99999).circuit (tyreCircuit 0)).readMark = some 99999 ∧
      (readAt 99999).params.p62 * 1000 < (readAt 99999).now - 99999) :=
  ⟨serves _ (by decide +kernel), by decide, by decide +kernel, by decide +kernel, by decide, by decide +kernel⟩
/-- T1's previous probe at a moment. -/
def probedAt (q : Option Probe) : State := cab.setCircuit 3 { idleRecord with previousProbe := q }
theorem witness_LeakMeasurement :
    ((probedAt none).circuit (tyreCircuit 0)).previousProbe = none ∧
    (((probedAt (some ⟨600, 90001⟩)).circuit (tyreCircuit 0)).previousProbe = some ⟨600, 90001⟩ ∧
      (probedAt (some ⟨600, 90001⟩)).now - 90001 < 10000) ∧
    (((probedAt (some ⟨600, 90000⟩)).circuit (tyreCircuit 0)).previousProbe = some ⟨600, 90000⟩ ∧
      10000 ≤ (probedAt (some ⟨600, 90000⟩)).now - 90000) ∧
    ((transaction 3 .deflate .bleed 0).kind = .deflate ∧
      { transaction 3 .deflate .bleed 0 with wheelOpened := true }.wheelOpened = true) := by decide +kernel

theorem witness_LeakMeasurement_handOver :
    ((probedAt (some ⟨600, 90000⟩)).computedRate 0 588 = some 720 ∧ (probedAt none).computedRate 0 588 = none) ∧
    TransactionKind.inflate ≠ .probe ∧ TransactionOutcome.unjudged ≠ .effective ∧
    (cab.params.p64 ≤ 100 ∧ (cab.tyre 0).leaking = false ∧ ¬cab.params.p64 ≤ 99) ∧
    (((cab.setTyre 0 ⟨true, false, false, none⟩).tyre 0).leaking = true ∧ 2 * 49 < cab.params.p64 ∧
      cab.params.p64 ≤ 2 * 50) := by decide +kernel

/-- T1 at a measured pressure with target 600, in a state, its low flag, the reserve LOW or not; P53 = 250, P65 = 400,
P66 = 100. -/
def lowAt (m : Nat) (st : CircuitState) (flag reserveLow : Bool) : State :=
  ((cab.setCircuit 3 { measuredAt m false with state := st }).setTyre 0 ⟨false, flag, false, none⟩).setSupervisor
    { cab.supervisor with reserve := if reserveLow then .low else .normal }
theorem witness_LeakMeasurement_low :
    (((cab.circuit (tyreCircuit 0)).measured = none) ∧ 499 + cab.params.p66 < 600 ∧ 600 ≤ 500 + cab.params.p66 ∧
      ((lowAt 499 .idle true false).circuit (tyreCircuit 0)).measured = some 499 ∧
      ((lowAt 499 .idle true false).circuit (tyreCircuit 0)).target = some 600 ∧
      ((lowAt 499 .idle true false).tyre 0).low = true ∧ ((lowAt 499 .idle false false).tyre 0).low = false) ∧
    (∀ st ∈ [CircuitState.idle, .waiting, .holdoff, .stalled],
      ((lowAt 249 st false true).circuit (tyreCircuit 0)).state = st) ∧
    (cab.params.p65 ≤ 400 ∧ ¬cab.params.p65 ≤ 399) ∧ ((lowAt 249 .idle false true).supervisor.reserve ≠ .normal ∧
      249 < cab.params.p53 ∧ ¬250 < cab.params.p53) := by decide +kernel
/-- LEAK before RESERVE; RESERVE below P53 while LOW; nothing at P53, nor while NORMAL, nor from STALLED (R133). -/
theorem test_isolation_tests :
    (((lowAt 249 .idle false true).testIsolation 0 (some 400)).tyre 0).cause = some .leak ∧
    (((lowAt 249 .waiting false true).testIsolation 0 (some 399)).tyre 0).cause = some .reserve ∧
    (((lowAt 250 .idle false true).testIsolation 0 none).tyre 0).cause = none ∧
    (((lowAt 249 .idle false false).testIsolation 0 none).tyre 0).cause = none ∧
    (((lowAt 249 .stalled false true).testIsolation 0 (some 400)).tyre 0).cause = none := by decide +kernel
/-- SUSPENDED or UNCONFIGURED with reasons. -/
def stopped (c : ControlState) (cabSet supplySet : Bool) (p : Params) : State :=
  { (cab.setSupervisor { cab.supervisor with control := c, reasonCab := cabSet, reasonSupply := supplySet }) with
    params := p }
/-- A configuration the check refuses. -/
def crossed : Params := { Params.defaults with p53 := 500, p54 := 400 }
/-- A reload in progress. -/
def reloading : State := { stopped .suspended true false Params.defaults with
  startUp := ⟨0, some ⟨100020, true⟩, some .loaded, true⟩ }
theorem witness_ControlRequests : starting.Ready ∧ starting.supervisor.control = .starting ∧ cab.Serving ∧
    2 < (3#8 : Byte).toNat ∧ reloading.Serving ∧ reloading.startUp.loader = some ⟨100020, true⟩ ∧
    cab.startUp.loader = none ∧ cab.supervisor.control = .running ∧
    (stopped .suspended true true Params.defaults).Serving ∧
    ((stopped .suspended true true Params.defaults).supervisor.control = .suspended ∧
      (stopped .suspended true true Params.defaults).supervisor.reasonSupply = true) ∧
    ((stopped .unconfigured false false crossed).supervisor.control = .unconfigured ∧
      consistent (stopped .unconfigured false false crossed).params = false) ∧
    ((stopped .unconfigured false true Params.defaults).supervisor.control = .unconfigured ∧
      consistent (stopped .unconfigured false true Params.defaults).params = true) ∧
    ((stopped .suspended true false Params.defaults).supervisor.reasonSupply = false ∧
      (stopped .suspended true false Params.defaults).startUp.loader = none) :=
  ⟨ready _ (by decide +kernel), rfl, serves _ (by decide +kernel), by decide, serves _ (by decide +kernel), rfl, rfl,
    rfl, serves _ (by decide +kernel), by decide +kernel⟩
theorem witness_ControlRequests_leaving : ControlState.suspended ≠ .running ∧ dipping.engine.length = 2 ∧
    ((dipping.circuit 1).state = .waiting ∧ (tyreIn .holdoff).circuit 3 = { idleRecord with state := .holdoff }) ∧
    (∀ t ∈ dipping.engine, ((dipping.leaveRunning .suspended).circuit t.circuit).lastOutcome = .aborted) ∧
    ((dipping.leaveRunning .suspended).circuit 1).state = .idle := by decide +kernel
/-- A lowering in VENTING with its EXHAUST in flight, the bag at a pressure or without a reading; P83 = 20. -/
def loweringAt (b : Option Nat) : State :=
  let s := inFlight (lifting .lowering .venting false) (transaction 2 .liftExhaust .pulse 100500)
  match b with
  | some v => valid s 3 v
  | none => s
/-- The departure from RUNNING leaves it in VENTING, whatever the bag reads, and the return goes on to CONNECTING
(R145, R119). -/
theorem test_lowering_stays_in_venting : ∀ b ∈ [none, some 15],
    let t := (loweringAt b).leaveRunning .suspended
    (t.lift.step = .venting ∧ t.lift.ventHeld = true ∧ t.driver.isolation.switch = .ready ∧
      (t.circuit 2).lastOutcome = .aborted) ∧ t.evaluateLift.lift.step = .venting ∧
    (t.enterRunning.lift.step = .connecting ∧ t.enterRunning.driver.isolation.switch = .pulsing) := by decide +kernel
/-- While the bag is above P83 the return asks for the EXHAUST again (R145, R119). -/
theorem test_lowering_vents_at_the_return :
    (((loweringAt (some 21)).leaveRunning .suspended).enterRunning.engine.map Transaction.kind) = [.liftExhaust] := by
  decide +kernel
theorem witness_ControlRequests_venting : (loweringAt none).lift.state = .lowering ∧
    (loweringAt none).lift.step = .venting := by decide +kernel
/-- An entry into RUNNING evaluates the present circuits: the PROBE of T1, which is probe due, is granted (R146). -/
theorem test_enter_running :
    ((inControl (evaluating { idleRecord with probeDue := true } false) .suspended).enterRunning.engine.map
      Transaction.circuit) = [3] := by decide +kernel
/-- LOW_SUPPLY with the supply back since a moment. -/
def recovering (m : Nat) : State :=
  cab.setSupervisor ⟨.suspended, false, true, .normal, true, true, true, some m⟩
theorem witness_SupplyAndReserve :
    (519 < Params.defaults.p32 ∧ Params.defaults.p32 ≤ 520 ∧ 599 < Params.defaults.p30 ∧ Params.defaults.p30 ≤ 600 ∧
      Params.defaults.p30 + Params.defaults.p31 ≤ 650 ∧ 649 < Params.defaults.p30 + Params.defaults.p31 ∧
      Params.defaults.p32 + Params.defaults.p31 ≤ 570 ∧ 569 < Params.defaults.p32 + Params.defaults.p31) ∧
    ((recovering 99000).supervisor.lowSupply = true ∧ (recovering 99000).supervisor.restoreSince = some 99000 ∧
      99000 + 1000 ≤ (recovering 99000).now) ∧
    ((recovering 99001).supervisor.restoreSince = some 99001 ∧ (recovering 99001).now < 99001 + 1000 ∧
      (recovering 99001).deferred = []) := by decide +kernel
/-- A reserve state, judged, with a FILL of LEFT in PULSE. -/
def reserved (st : ReserveState) : State :=
  let s := inFlight (valid cab 0 610) (transaction 0 .sideFill .pulse 100500)
  s.setSupervisor { s.supervisor with reserve := st }
theorem witness_SupplyAndReserve_reserve :
    (starting.supervisor.reserveJudged = false ∧ cab.supervisor.reserveJudged = true ∧
      nextReserve cab.params .normal 600 = .normal ∧ nextReserve cab.params .normal 599 = .low) ∧
    (((valid cab 0 610).channel 0).status = .valid ∧ 123 ≤ (2000#12 : RawReading).toNat ∧
      (2000#12 : RawReading).toNat ≤ 3972) ∧
    ((reserved .low).supervisor.reserve ≠ .normal ∧ (reserved .critical).supervisor.reserve = .critical) ∧
    (cab.scheduler.supply = none ∧ (reserved .normal).scheduler.supply = some 0 ∧
      (reserved .normal).transactionOn 0 = some (transaction 0 .sideFill .pulse 100500) ∧
      cab.transactionOn 0 = none) := by decide +kernel
/-- An entry into LOW logs RESERVE_LOW with the value, closes the supply valve and cuts the fill (R98, R141). -/
theorem test_entry_into_low :
    (((reserved .normal).changeReserve .low false).events.queue.map fun r => (r.kind, r.value)) =
      [(.reserveLow, some 610)] ∧
    (((reserved .normal).changeReserve .low false).valve supplyValve).isOpen = false ∧
    ((reserved .normal).changeReserve .low false).engine = [] ∧
    (((reserved .normal).changeReserve .low false).circuit 0).lastOutcome = .reserveCut ∧
    (((reserved .normal).changeReserve .low false).circuit 0).state = .holdoff := by decide +kernel
theorem witness_SupplyAndReserve_judged :
    (starting.supervisor.supplyJudged = false ∧ 180 ≤ 180 ∧ 179 < 180) ∧
    (cab.supervisor.supplyJudged = true ∧ cab.supervisor.lowSupply = false) ∧
    ((recovering 99000).supervisor.supplyJudged = true ∧ (recovering 99000).supervisor.lowSupply = true) ∧
    cab.supervisor.control = .running ∧
    ((switching false .pulsing (some 99850)).driver.isolation.switch = .pulsing ∧
      cab.driver.isolation.switch ≠ .pulsing) ∧
    ((switching true .pending none).driver.isolation.switch = .pending ∧
      (switching true .pending none).driver.isolation.commanded = some .isolated) := by decide +kernel
theorem witness_ParamRequests : cab.Serving ∧ (isParam (1#8 : Byte).toNat = true ∧ (1#8 : Byte).toNat ≠ 96) ∧
    (7#8 : Byte).toNat = (7 : Channel).val ∧ isParam (4#8 : Byte).toNat = false ∧
    (isParam (51#8 : Byte).toNat = true ∧ valueLengthFits 51 (List.replicate 24 (0#8 : Byte)).length = true) ∧
    (isGuarded 53 = true ∧ writeWord 53 (word2 1#8 44#8) Params.defaults ≠ none) ∧
    (isWordParam 76 = true ∧ writeWord 76 0xFFFB#16 Params.defaults = some ({ Params.defaults with p76 := -5 }, false)) :=
  ⟨serves _ (by decide +kernel), by decide +kernel⟩
theorem witness_ParamRequests_steps :
    ((15, 4, 40) ∈ [((15 : Nat), (4 : Nat), (40 : Nat))] ∧ isGuarded 15 = false ∧ isGuarded 53 = true) ∧
    (15 < (0#8 : Byte).toNat * 256 + (16#8 : Byte).toNat ∧ (0#8 : Byte).toNat * 256 + (15#8 : Byte).toNat ≤ 15 ∧
      1 < (0#8 : Byte).toNat * 256 + (2#8 : Byte).toNat) ∧
    (consistent Params.defaults = true ∧ consistent crossed = false) := by decide +kernel
/-- P10 is clamped into [P12, P13] while RUNNING, P11 below P14 is refused with BAD_CONFIG, P15 is clamped into its
range (R170 steps 2, 4 and 5). -/
theorem test_set_param_steps :
    leaves (.setParam 7#8 10#8 [1#8, 194#8]) cab (fun t => t.params.p10 = 420) = true ∧
    leaves (.setParam 7#8 11#8 [0#8, 150#8]) cab
      (fun t => t.link.queue = [⟨.reply, frame 0xA1#8 7#8 [3#8, 15#8]⟩] ∧ t.params.p11 = 250) = true ∧
    leaves (.setParam 7#8 15#8 [0#8, 99#8]) cab
      (fun t => t.link.queue = [⟨.reply, frame 0xA1#8 7#8 [2#8, 0#8, 15#8, 0#8, 40#8]⟩]) = true := by decide +kernel
theorem witness_ParamRequests_change :
    (8 ≤ (8#8 : Byte).toNat ∧ (cab.channel 5).status = .unknown ∧ ((valid cab 5 290).channel 5).status = .valid ∧
      ((scored .failed 0).channel 1).status = .failed) ∧
    (cab.supervisor.reserveJudged = true ∧ (valid cab 0 610).validValue 0 = some 610 ∧ cab.validValue 0 = none) ∧
    (cab.link.up = true ∧ cab.link.lastValid = some 100000 ∧
      100000 + cab.params.p90 ≤ ({ cab with now := 105000 } : State).now) ∧
    (cab.demandOf 1 = none ∧ (dipping.demandOf 1).map Demand.cls = some .level) := by decide +kernel
/-- P13 set below the height clamps the target and has the side evaluated, P96 of a VALID channel computes its value
again (R25, R105, R115). -/
theorem test_change_told :
    leaves (.setParam 7#8 13#8 [1#8, 44#8]) (inControl (valid cab 5 290) .suspended) (fun t =>
      t.params.p13 = 300 ∧ t.params.p12 = cab.params.p12 ∧ t.height.target = some 290) = true ∧
    leaves (.setParam 7#8 96#8 [0#8, 1#8, 154#8, 14#8, 102#8, 3#8, 232#8]) (valid cab 0 610) (fun t =>
      (t.channel 0).filtered = t.filter 0 [2000#12] ∧ t.params.p96[0].fullScale = 1000) = true := by decide +kernel
/-- The reconciliation at a position, a bag pressure and a ramp state; P82 = 300, P83 = 20. -/
def unreconciled (p : Option Position) (b : Option Nat) (ramp : RampState) : State :=
  let s := { lifted with lift := LiftController.initial, height := { lifted.height with ramp := ramp } }
  let s := s.setSensing { s.sensing with position := ⟨.connected, 99000, p⟩ }
  match b with
  | some v => valid s 3 v
  | none => s
/-- The table of R123. -/
theorem test_reconciliation : ∀ x ∈ ([(none, none, .up, .down), (some .connected, some 20, .up, .down),
    (none, some 21, .up, .lowering), (some .isolated, some 300, .up, .up), (some .isolated, some 300, .down, .lowering),
    (some .isolated, some 299, .up, .lowering), (some .isolated, none, .up, .lowering)] :
      List (Option Position × Option Nat × RampState × LiftState)),
    let t := (unreconciled x.1 x.2.1 x.2.2.1).reconcileLift
    t.lift.state = x.2.2.2 ∧ t.lift.loweringClass = (if x.2.2.2 ≠ .lowering then none
      else some (if x.2.2.1 = .up then .lift else .safety)) ∧
    t.events.queue.map (fun r => r.kind) = if x.2.2.2 = .down then [] else [.liftChanged] := by decide +kernel
/-- A height handed on is the side's measured value; a channel 7 below 18.0 V makes the supply LOW_SUPPLY (R21, R142). -/
theorem test_hand_on : (((valid cab 5 277).handValue 5 277).circuit 0).measured = some 277 ∧
    ((valid cab 7 179).handValue 7 179).supervisor.lowSupply = true := by decide +kernel
theorem witness_StoreRequests : (writtenTo 488 beginImage).Serving ∧ (writtenTo 488 beginImage).store.busyUntil = none ∧
    (writtenTo 488 beginImage).store.writeIndex = some 488 ∧
    { cab with store := ⟨beginImage, none, some 100001, none⟩ }.store.busyUntil ≠ none ∧
    (cab.Serving ∧ cab.store.busyUntil = none ∧ cab.store.writeIndex = none ∧ cab.supervisor.control = .running) ∧
    ((inControl (writtenTo 488 beginImage) .suspended).supervisor.control ≠ .running ∧
      (inControl (writtenTo 488 beginImage) .suspended).store.writeIndex ≠ none) ∧
    ((511#16 : Word).toNat ≤ 511 ∧ 511 < (512#16 : Word).toNat) ∧
    ((List.replicate 20 0#16).length = headCount 0xA053#16 ∧ headSound 0xA053#16 = true ∧
      488 + 2 + headCount 0xA053#16 ≤ 510 ∧ 510 < 489 + 2 + headCount 0xA053#16) ∧
    (headSound 0xB041#16 = false ∧ headSound 0xA141#16 = false) :=
  ⟨serves _ (by decide +kernel), rfl, rfl, by decide +kernel,
    ⟨serves _ (by decide +kernel), rfl, rfl, rfl⟩, by decide +kernel⟩
/-- A write in progress whose busy time ends now. -/
def writing (r : StoreRequest) (words : List WordWritten) : State :=
  { cab with store := ⟨beginImage, some 2, some 100000, some ⟨r, 99992, words⟩⟩ }
theorem witness_StoreMoments :
    ((writing .finish []).store.write = some ⟨.finish, 99992, []⟩ ∧
      (writing .finish []).store.busyUntil = some 100000 ∧ 100000 ≤ (writing .finish []).now ∧
      (writing .finish []).deferred = []) ∧ StoreRequest.put ≠ .finish ∧
    ((writing .put [⟨2, 5#16⟩, ⟨3, 6#16⟩, ⟨4, 7#16⟩]).store.write =
        some ⟨.put, 99992, [⟨2, 5#16⟩] ++ ⟨3, 6#16⟩ :: [⟨4, 7#16⟩]⟩ ∧
      (∀ y ∈ ([⟨2, 5#16⟩] : List WordWritten), y.index ≠ (3 : Fin 512).val) ∧
      wordAt (writing .put [⟨2, 5#16⟩, ⟨3, 6#16⟩, ⟨4, 7#16⟩]).store.image (3 : Fin 512).val ≠ 0#16) := by
  decide +kernel
theorem witness_WrittenProfileLoads_records :
    (readRecords (setWordAt exampleImage 9 0xE0E0#16) 512 2 Candidate.initial).map Prod.fst = some 9 ∧ 9 ≤ 510 ∧
    wordAt exampleImage 0 = 0x4D31#16 ∧ wordAt exampleImage 1 = 0x5412#16 := by decide +kernel
theorem witness_WrittenProfileLoads : 510 ≤ 510 ∧ 511 ≠ 509 ∧ 511 ≠ 510 := by decide
/-- A loader run that ends at a moment, or a start-up whose load has ended. -/
def loading (m : Nat) : State := { starting with startUp := ⟨0, some ⟨m, false⟩, none, false⟩ }
/-- Start-up with its load ended and a boot code, begun at a moment. -/
def ended (m : Nat) (b : BootCode) (cabSet : Bool) : State :=
  { starting.setSupervisor { starting.supervisor with reasonCab := cabSet } with startUp := ⟨m, none, some b, true⟩ }
theorem witness_LoaderAndStartUp :
    ((loading 100000).startUp.loader = some ⟨100000, false⟩ ∧ (⟨100000, false⟩ : LoaderRun).ends ≤ (loading 100000).now) ∧
    ((loading 100001).now < (⟨100001, false⟩ : LoaderRun).ends ∧ (loading 100001).deferred = []) ∧
    ((ended 99000 .loaded true).supervisor.control = .starting ∧ (ended 99000 .loaded true).startUp.loadEnded = true ∧
      (ended 99000 .loaded true).startUp.resetAt + 1000 ≤ (ended 99000 .loaded true).now ∧
      (ended 99000 .loaded true).startUp.bootCode = some .loaded ∧
      (ended 99000 .loaded true).supervisor.reasonCab = true) ∧
    (ended 99000 .check false).startUp.bootCode ≠ some .loaded ∧
    ((loading 100000).startUp.loadEnded = false ∧
      (ended 99001 .loaded false).now < (ended 99001 .loaded false).startUp.resetAt + 1000) := by decide +kernel
theorem witness_LoaderAndStartUp_reload :
    ((reloading.startUp.loader = some ⟨100020, true⟩) ∧ (⟨100020, true⟩ : LoaderRun).ends ≤ 100020) ∧
    ((stopped .unconfigured true false Params.defaults).supervisor.control = .unconfigured ∧
      (stopped .unconfigured true false Params.defaults).supervisor.reasonCab = true ∧
      (stopped .unconfigured false false Params.defaults).supervisor.reasonSupply = false) ∧
    ((stopped .suspended true false Params.defaults).supervisor.control ≠ .unconfigured ∧
      (stopped .suspended true false Params.defaults).supervisor.control ≠ .running ∧
      cab.supervisor.control = .running) ∧
    ((ended 99000 .loaded false).supervisor.reasonSupply = false ∧
      (ended 99000 .loaded false).supervisor.supplyJudged = false) ∧
    ((0 : CircuitId).val ≤ 1 ∧ (2 : CircuitId) = liftCircuit ∧ (14 : CircuitId) = tyreCircuit 11) ∧
    (cab.isPresent 3 = true ∧ configured cab.params 3 = true ∧ circuitTyre 0 = none ∧ circuitTyre 3 ≠ none) ∧
    (lifted.isPresent 2 = true ∧ configured cab.params 2 = false) ∧
    (State.reset.isPresent 3 = false ∧ configured State.reset.params 3 = true) := by decide +kernel
theorem witness_TableLookup_between :
    ascending ([(150, 690)] ++ (200, 720) :: (250, 760) :: [(300, 800)]) = true ∧
    ((200, 720) : Nat × Nat).1 < 201 ∧ 249 < ((250, 760) : Nat × Nat).1 := by decide
theorem witness_TableLookup : ascending defaultAreaTable = true ∧ (200, 720) ∈ defaultAreaTable ∧
    ascending ((150, 690) :: [(200, 720)]) = true ∧ (150 : Nat) ≤ (150, 690).1 ∧
    ascending ([(150, 690)] ++ [(200, 720)]) = true ∧ (200, 720).1 ≤ (200 : Nat) := by decide
theorem witness_TableLookup_used : consistent Params.defaults = true ∧
    ({ cab.sideRecord .left with source := .live, pressure := some 480 } : SideRecord).source = .live ∧
    (cab.sideRecord .left).source ≠ .live := by decide +kernel
theorem witness_TargetsWithinBounds : (cab.stageGH 600 (cab.sideRecord .left)).target = some 630 ∧
    ({ cab with params := crossed }.params.p54 < { cab with params := crossed }.params.p53) ∧
    (({ cab with estimator := { cab.estimator with allowance := false } }).estimator.allowance = false ∧
      cab.params.p53 ≤ 250 ∧ 900 ≤ cab.params.p54) ∧ cab.estimator.allowance = true ∧
    (cab.params.p12 ≤ cab.params.p13 ∧ cab.params.p12 ≤ cab.params.p10 ∧ cab.params.p10 ≤ cab.params.p13) := by
  decide +kernel
theorem witness_TargetsWithinBounds_stages :
    cab.params.p53 ≤ cab.params.p54 ∧
    ((valid cab 5 292).validValue (heightChannel .left) = some 292 ∧
      (valid cab 5 292).validValue (heightChannel .right) = none ∧
      (valid cab 5 292).validValue (heightChannel (otherSide .right)) = some 292) ∧
    (cab.validValue (heightChannel .left) = none ∧ (granting.circuit (sideCircuit .left)).target = some 290 ∧
      (cab.circuit (sideCircuit .left)).target = none) ∧
    ((cab.sideRecord .left).source ≠ .live ∧ (cab.sideRecord .left).perTyre = none) ∧
    ((loaded.estimatePressure .left 480).sideRecord .left).perTyre ≠ none ∧
    (((loaded.estimatePressure .left 480).pressureFailed .left).sideRecord .left).source = .held := by decide +kernel

end Sys2Proof.Tests
end

section
/-! At most one wheel valve is open: what each update does to the outputs that are open, and O8. -/

namespace Sys2Proof.Machine

open State

/-- Only valves open in `s` are open in `t`: no update between them energises one. -/
def State.OpensNone (s t : State) : Prop := ∀ v : ValveId, (t.valve v).isOpen = true → (s.valve v).isOpen = true

/-- An update that leaves the valve outputs alone energises none. -/
theorem State.opensNone_of_valves {s t : State} (h : t.driver.valves = s.driver.valves) : s.OpensNone t := by
  intro v k
  simpa [State.valve, h] using k

/-- One output replaced by one that is open only if it was energises none. -/
theorem State.opensNone_setValve {s : State} {v : ValveId} {x : Valve}
    (h : x.isOpen = true → (s.valve v).isOpen = true) : s.OpensNone (s.setValve v x) := by
  intro w k
  by_cases e : w = v
  · subst e; exact h (by simpa using k)
  · rwa [setValve_valve_of_ne _ _ e] at k

/-- With no valve energised at most one wheel valve stays open. -/
theorem State.OneWheelOpen.of_opensNone {s t : State} (h : s.OneWheelOpen) (k : s.OpensNone t) : t.OneWheelOpen :=
  fun a b ha hb => h a b (k _ ha) (k _ hb)

theorem wheelTyre_wheelValve (t : TyreId) : wheelTyre (wheelValve t) = some t := by
  simp [wheelTyre, wheelValve]

theorem wheelValve_injective {t u : TyreId} (h : wheelValve t = wheelValve u) : t = u :=
  Option.some.inj (by rw [← wheelTyre_wheelValve t, ← wheelTyre_wheelValve u, h])

/-- Every tyre position is in the list of them. -/
theorem mem_allTyres (t : TyreId) : t ∈ allTyres := by revert t; decide

/-- R11 admits a wheel valve only while the others are closed. -/
theorem State.otherWheelsClosed_of_mayOpen {s : State} {c : CircuitId} {t : TyreId}
    (h : s.mayOpen c (wheelValve t) = true) : s.otherWheelsClosed (wheelValve t) = true := by
  unfold State.mayOpen at h
  have notShared : ∀ w : TyreId, wheelValve w ≠ supplyValve ∧ wheelValve w ≠ galleryFillValve ∧
    wheelValve w ≠ galleryExhaustValve := by decide
  obtain ⟨ns, nf, ne⟩ := notShared t
  split at h
  · cases h
  · simp [ns, nf, ne, wheelTyre_wheelValve] at h
    exact h.2.2

/-- With the wheels other than `v` closed, an open wheel valve is `v` (R11). -/
theorem State.eq_of_otherWheelsClosed {s : State} {v : ValveId} (h : s.otherWheelsClosed v = true) (u : TyreId)
    (k : (s.valve (wheelValve u)).isOpen = true) : wheelValve u = v := by
  have := (List.all_eq_true.mp h) u (mem_allTyres u)
  simpa [k] using this

/-- A valve energised as R11 admits leaves at most one wheel valve open. -/
theorem State.OneWheelOpen.energise {s : State} {c : CircuitId} {v : ValveId} {x : Valve}
    (h : s.OneWheelOpen) (may : s.mayOpen c v = true) : (s.setValve v x).OneWheelOpen := by
  have before : ∀ w : TyreId, wheelValve w ≠ v → ((s.setValve v x).valve (wheelValve w)).isOpen = true →
      (s.valve (wheelValve w)).isOpen = true := fun w e k => by rwa [setValve_valve_of_ne _ _ e] at k
  have alone : ∀ w u : TyreId, v = wheelValve w → ((s.setValve v x).valve (wheelValve u)).isOpen = true → u = w := by
    intro w u e k
    by_contra n
    have ne : wheelValve u ≠ v := fun f => n (wheelValve_injective (f.trans e))
    subst e
    exact ne (s.eq_of_otherWheelsClosed (s.otherWheelsClosed_of_mayOpen may) u (before u ne k))
  intro a b ha hb
  by_cases ea : wheelValve a = v
  · exact (alone a b ea.symm hb).symm
  · by_cases eb : wheelValve b = v
    · exact alone b a eb.symm ha
    · exact h a b (before a ea ha) (before b eb hb)

/-- After a reset every valve is CLOSED (R19). -/
theorem State.afterReset_valve (now : Nat) (image : Vector Word 512) (no nc : Bool) (pos : Position)
    (q : List Instr) (v : ValveId) : (afterReset now image no nc pos q).valve v = Valve.initial := by
  simp [State.valve, afterReset, Driver.initial]

/-- With every valve CLOSED no two wheel valves are open. -/
theorem State.OneWheelOpen.of_closed {s : State} (h : ∀ v, (s.valve v).isOpen = false) : s.OneWheelOpen :=
  fun a _ ha => by rw [h] at ha; cases ha

/-- The air control keeps at most one wheel valve open: it energises valves on requests R11 admits alone. -/
theorem oneWheelOpen_airClosed : AirClosed State.OneWheelOpen := by
  constructor
  case openValve => exact fun c v may _ _ h => h.energise may
  case setValve => exact fun v x k _ h => h.of_opensNone (opensNone_setValve k)
  case logEvent => exact fun k sev c v h => h.of_opensNone (opensNone_of_valves (by rw [logEvent_driver]))
  case setConditions => exact fun x h => h.of_opensNone (opensNone_of_valves (by rw [setConditions_driver_valves]))
  all_goals
    intros
    exact State.OneWheelOpen.of_opensNone (by assumption) (opensNone_of_valves rfl)

/-- The unit keeps at most one wheel valve open. -/
theorem oneWheelOpen_unitClosed : UnitClosed State.OneWheelOpen where
  toAirClosed := oneWheelOpen_airClosed
  setEstimator _ h := h
  clearFlag _ h := h.of_opensNone (opensNone_setValve id)
  setSupervisor _ _ h := h
  setControl _ _ h := h
  leaveRunning c _ h := leaveRunning_of oneWheelOpen_airClosed (fun _ _ k => k) c h
  setHeight _ _ _ h := h
  setFlag _ h := h.of_opensNone (opensNone_setValve id)
  setChannel _ _ _ h := h
  setComparator _ _ h := h
  setRamp _ h := h
  setPositionInput _ h := h
  setLamp _ h := h
  setLink _ _ _ _ h := h
  setQueue _ _ h := h
  offerNotice {s} k body h := by obtain ⟨q, e⟩ := s.offerNotice_eq k body; rw [e]; exact h
  setEvents _ _ h := h
  setParams _ h := h
  setStore _ h := h
  setStartUp _ h := h
  setRestart h := h
  setRampState _ h := h
  securePlace {s t} e h := by
    unfold State.securePlace at e
    split at e
    · cases e; exact h
    · split at e
      · cases e; exact h
      · split at e
        · cases e; exact h
        · cases e
  placeReply _ _ h := h
  powerOn _ := .of_closed fun v => by rw [State.powerOn, afterReset_valve]; rfl
  doRestart {s} _ := .of_closed fun v => by
    have same : s.doRestart.driver = Driver.initial := by rw [State.doRestart, logEvent_driver]; rfl
    simp [State.valve, same, Driver.initial, Valve.initial]

/-- Settles O8: every kind of update of the unit keeps at most one wheel valve open. -/
theorem stepOneWheelOpen : Obligations.StepOneWheelOpen := by
  intro s t h k
  obtain ⟨t', e, kept⟩ := oneWheelOpen_unitClosed.step_closed (fun _ h => h) (fun _ _ h => h) h
  rw [e] at k
  cases k
  exact kept

/-- Settles O3: each reset value is computed from `State.reset`. -/
theorem resetValues : Obligations.ResetValues := by
  refine ⟨rfl, fun c => ?_, fun v => ?_, rfl, rfl, rfl, rfl, rfl, ?_, rfl, rfl, rfl, rfl, rfl, fun ch => ?_, rfl, rfl, rfl,
    rfl, rfl, rfl, rfl, rfl, rfl, rfl⟩
  · have e : State.reset.circuit c = CircuitRecord.initial := by
      simp [State.circuit, State.reset, afterReset]
    exact ⟨e, by rw [State.isPresent, e]; rfl⟩
  · exact afterReset_valve _ _ _ _ _ _ v
  · decide
  · simp [State.channel, State.reset, afterReset, Sensing.initial, AnalogChannel.initial]

/-- Settles O12: at reset every valve is CLOSED, every list is empty and every count is 0. -/
theorem resetIsSafe : Obligations.ResetIsSafe := by
  have closed : ∀ v, (State.reset.valve v).isOpen = false := fun v => by rw [State.reset, afterReset_valve]; rfl
  refine ⟨fun _ => ⟨rfl, rfl, fun v _ => closed v⟩, List.Pairwise.nil, .of_closed closed, fun c => ?_, ?_, fun ch => ?_⟩
  · simp [State.circuit, State.reset, afterReset, CircuitRecord.initial]
  · exact ⟨Nat.zero_le _, Nat.zero_le _, Nat.zero_le _⟩
  · simp [State.channel, State.reset, afterReset, Sensing.initial, AnalogChannel.initial]

end Sys2Proof.Machine
end

section
/-! The lamp and the fault flags: how the lamp follows the condition set (O26), the moments of the lamp (O27), and what
CLEAR clears (O25). -/

namespace Sys2Proof.Machine

open State

/-- A request its owner takes with an act that leaves no hand-off and makes no restart pending: the act, and the
reply. -/
theorem request_of_quiet {s t : State} (h : s.Ready) {k : Kind} {body : List Byte} {r : Request} {a : Answer} (tag : Byte)
    (served : s.supervisor.control = .starting → k.servedStarting = true) (read : readBody isParam k body = .ok r)
    (answered : s.heard.answer r = (a, t)) (taken : ∀ reason, a ≠ .refused reason) (quiet : t.deferred = [])
    (stays : t.link.restartPending = false) : request k tag body s = .next (t.replied k tag a) := by
  rw [request_taken h tag served read answered taken (by rwa [State.settle_of_nil quiet]), completed_of_nil quiet]

/-! ### The lamp -/

/-- The lamp state the condition set gives, in the terms of R168. -/
theorem derivedLamp_eq (conds : List ActiveCondition) : derivedLamp conds =
    if ∃ a ∈ conds, a.severity = .critical then .blink
    else if ∃ a ∈ conds, a.severity = .degraded then .on else .off := by
  simp [derivedLamp]

/-- A hand-over to the lamp: the rhythm of a state already handed over stays, another state starts its own (R20). -/
theorem State.driveLamp_lamp (s : State) (new : LampState) : s.driveLamp new = s.setDriver { s.driver with
    lamp := if s.driver.lamp.state = new then s.driver.lamp
      else ⟨new, decide (new ≠ .off), if new = .blink then some (s.now + 500) else none⟩ } := by
  unfold State.driveLamp
  split
  · rfl
  · cases new <;> rfl

/-- Settles O26: the lamp is derived afresh at every change of the condition set, and is all else that changes. -/
theorem lampFollowsConditions : Obligations.LampFollowsConditions := by
  intro s conds
  dsimp only
  rw [← derivedLamp_eq, State.setConditions, State.deriveLamp, State.driveLamp_lamp]
  rfl

/-- Settles O27: each moment is its own act, which makes no hand-off. -/
theorem lampMoments : Obligations.LampMoments := by
  refine ⟨fun tag s h => ?test, fun s m at_ due quiet => ?ends, fun s early quiet => ?early,
    fun s m at_ due quiet => ?blink⟩
  case test =>
    obtain ⟨ready, running⟩ := h
    have ⟨_, pending, _, quiet⟩ := ready
    refine request_of_quiet ready tag (fun c => absurd c running) rfl ?_ (fun _ e => by cases e) quiet pending
    show (Answer.done [], State.deriveLamp _) = _
    rw [State.deriveLamp, State.driveLamp_lamp]
    rfl
  case ends =>
    have now : s.testDue = true := by simpa [State.testDue, State.reached, at_] using due
    show finish (if s.testDue then s.endLampTest else s) = _
    dsimp only
    rw [if_pos now, ← derivedLamp_eq, State.endLampTest, State.deriveLamp, State.driveLamp_lamp]
    exact finish_of_nil quiet
  case early =>
    have notYet : s.testDue = false := by
      unfold State.testDue State.reached
      split
      · exact decide_eq_false (Nat.not_le.mpr (early _ ‹_›))
      · rfl
    show finish (if s.testDue then s.endLampTest else s) = _
    rw [notYet]
    exact finish_of_nil quiet
  case blink =>
    have now : s.blinkDue = true := by simpa [State.blinkDue, State.reached, at_] using due
    show finish (if s.blinkDue then s.toggleLamp else s) = _
    rw [if_pos now, State.toggleLamp]
    simp only [at_]
    exact finish_of_nil quiet

/-! ### Conditions -/

/-- Which conditions are active after a change of the set: those of the set. -/
theorem State.setConditions_isActive (s : State) (conds : List ActiveCondition) (id : ConditionId) :
    (s.setConditions conds).isActive id = conds.any fun a => a.id = id := by
  obtain ⟨l, e⟩ := s.setConditions_eq conds
  rw [e]
  rfl

/-- A condition cleared is no longer active (R167). -/
theorem State.clear_isActive_same (s : State) (id : ConditionId) : (s.clear id).isActive id = false := by
  rw [State.clear, State.setConditions_isActive]
  simp

/-- A condition cleared leaves the others (R167). -/
theorem State.clear_isActive_of_ne (s : State) {id other : ConditionId} (h : other ≠ id) :
    (s.clear id).isActive other = s.isActive other := by
  rw [State.clear, State.setConditions_isActive, State.isActive, Bool.eq_iff_iff]
  simp only [List.any_eq_true, List.mem_filter, decide_eq_true_eq]
  exact ⟨fun ⟨a, ⟨m, _⟩, e⟩ => ⟨a, m, e⟩, fun ⟨a, m, e⟩ => ⟨a, ⟨m, e ▸ h⟩, e⟩⟩

theorem State.setConditions_valve (s : State) (conds : List ActiveCondition) (v : ValveId) :
    (s.setConditions conds).valve v = s.valve v := by
  simp [State.valve]

theorem State.clear_valve (s : State) (id : ConditionId) (v : ValveId) : (s.clear id).valve v = s.valve v :=
  s.setConditions_valve _ v

theorem State.raise_valve (s : State) (id : ConditionId) (sev : Severity) (v : ValveId) :
    (s.raise id sev).valve v = s.valve v :=
  s.setConditions_valve _ v

theorem State.logEvent_valve (s : State) (k : EventKind) (sev : Severity) (c : Option CircuitId) (x : Option Int)
    (v : ValveId) : (s.logEvent k sev c x).valve v = s.valve v := by
  rw [State.valve, logEvent_driver]; rfl

/-! ### Fault flags cleared (R15) -/

/-- A flag set is cleared with its condition; a clear one needs nothing. -/
theorem State.clearFault_of_fault {s : State} {v : ValveId} (h : (s.valve v).fault = true) :
    s.clearFault v = (s.setValve v { s.valve v with fault := false }).clear (.valveFault v) := if_pos h

theorem State.clearFault_of_clear {s : State} {v : ValveId} (h : (s.valve v).fault = false) : s.clearFault v = s :=
  if_neg (by simp [h])

theorem State.clearFault_valve (s : State) (v : ValveId) :
    (s.clearFault v).valve v = { s.valve v with fault := false } := by
  cases h : (s.valve v).fault
  · rw [State.clearFault_of_clear h, ← h]
  · rw [State.clearFault_of_fault h, State.clear_valve, setValve_valve]

theorem State.clearFault_valve_of_ne (s : State) {v w : ValveId} (h : w ≠ v) :
    (s.clearFault v).valve w = s.valve w := by
  cases k : (s.valve v).fault
  · rw [State.clearFault_of_clear k]
  · rw [State.clearFault_of_fault k, State.clear_valve, setValve_valve_of_ne _ _ h]

theorem State.clearFault_detected (s : State) (v : ValveId) :
    (s.clearFault v).events.detected = s.events.detected := by
  cases k : (s.valve v).fault
  · rw [State.clearFault_of_clear k]
  · rw [State.clearFault_of_fault k, State.clear, setConditions_events_detected]; rfl

theorem State.clearFault_isActive_of_ne (s : State) {v : ValveId} {id : ConditionId} (h : id ≠ .valveFault v) :
    (s.clearFault v).isActive id = s.isActive id := by
  cases k : (s.valve v).fault
  · rw [State.clearFault_of_clear k]
  · rw [State.clearFault_of_fault k, State.clear_isActive_of_ne _ h]; rfl

/-- No condition becomes active by a flag cleared. -/
theorem State.clearFault_inactive {s : State} (v : ValveId) {id : ConditionId} (h : s.isActive id = false) :
    (s.clearFault v).isActive id = false := by
  by_cases e : id = .valveFault v
  · cases k : (s.valve v).fault
    · rwa [State.clearFault_of_clear k]
    · rw [State.clearFault_of_fault k, e, State.clear_isActive_same]
  · rwa [State.clearFault_isActive_of_ne _ e]

theorem State.clearFaults_cons (s : State) (v : ValveId) (vs : List ValveId) :
    s.clearFaults (v :: vs) = (s.clearFault v).clearFaults vs := rfl

theorem State.clearFaults_detected (s : State) (vs : List ValveId) :
    (s.clearFaults vs).events.detected = s.events.detected := by
  induction vs generalizing s with
  | nil => rfl
  | cons v rest ih => rw [State.clearFaults_cons, ih, State.clearFault_detected]

theorem State.clearFaults_valve_of_not_mem (s : State) {vs : List ValveId} {w : ValveId} (h : w ∉ vs) :
    (s.clearFaults vs).valve w = s.valve w := by
  induction vs generalizing s with
  | nil => rfl
  | cons v rest ih =>
    rw [List.mem_cons, not_or] at h
    rw [State.clearFaults_cons, ih _ h.2, State.clearFault_valve_of_ne _ h.1]

theorem State.clearFaults_valve_of_mem (s : State) {vs : List ValveId} {w : ValveId} (h : w ∈ vs) :
    (s.clearFaults vs).valve w = { s.valve w with fault := false } := by
  induction vs generalizing s with
  | nil => cases h
  | cons v rest ih =>
    rw [State.clearFaults_cons]
    by_cases k : w ∈ rest
    · rw [ih _ k]
      by_cases e : w = v
      · rw [e, State.clearFault_valve]
      · rw [State.clearFault_valve_of_ne _ e]
    · have e : w = v := (List.mem_cons.mp h).resolve_right k
      rw [State.clearFaults_valve_of_not_mem _ k, e, State.clearFault_valve]

theorem State.clearFaults_inactive {s : State} (vs : List ValveId) {id : ConditionId} (h : s.isActive id = false) :
    (s.clearFaults vs).isActive id = false :=
  foldl_closed (P := fun t => t.isActive id = false) _ (fun _ v k => clearFault_inactive v k) vs h

theorem State.clearFaults_inactive_of_mem (s : State) {vs : List ValveId} {w : ValveId} (h : w ∈ vs)
    (set : (s.valve w).fault = true) : (s.clearFaults vs).isActive (.valveFault w) = false := by
  induction vs generalizing s with
  | nil => cases h
  | cons v rest ih =>
    rw [State.clearFaults_cons]
    by_cases e : w = v
    · subst e
      refine clearFaults_inactive rest ?_
      rw [State.clearFault_of_fault set, State.clear_isActive_same]
    · exact ih _ ((List.mem_cons.mp h).resolve_left e) (by rwa [State.clearFault_valve_of_ne _ e])

theorem State.clearFaults_isActive_of_ne (s : State) {vs : List ValveId} {id : ConditionId}
    (h : ∀ v ∈ vs, id ≠ .valveFault v) : (s.clearFaults vs).isActive id = s.isActive id := by
  induction vs generalizing s with
  | nil => rfl
  | cons v rest ih =>
    rw [State.clearFaults_cons, ih _ fun w m => h w (List.mem_cons_of_mem _ m),
      State.clearFault_isActive_of_ne _ (h v List.mem_cons_self)]

theorem State.clearFaults_of_clear {s : State} {vs : List ValveId} (h : ∀ v ∈ vs, (s.valve v).fault = false) :
    s.clearFaults vs = s := by
  induction vs with
  | nil => rfl
  | cons v rest ih =>
    rw [State.clearFaults_cons, State.clearFault_of_clear (h v List.mem_cons_self)]
    exact ih fun w m => h w (List.mem_cons_of_mem _ m)

/-- The air control sets and clears no fault flag: a flag is what it was. -/
theorem fault_airClosed (v : ValveId) (b : Bool) : AirClosed fun s => (s.valve v).fault = b := by
  have kept : ∀ {s : State} (w : ValveId) (x : Valve), x.fault = (s.valve w).fault → (s.valve v).fault = b →
      ((s.setValve w x).valve v).fault = b := by
    intro s w x e h
    by_cases k : v = w
    · subst k; rw [setValve_valve, e, h]
    · rw [setValve_valve_of_ne _ _ k, h]
  constructor
  case openValve => exact fun c w _ _ _ h => kept w _ rfl h
  case setValve => exact fun w x _ e h => kept w x e h
  case logEvent => exact fun k sev c x h => by rw [logEvent_valve]; exact h
  case setConditions => exact fun x h => by rw [setConditions_valve]; exact h
  all_goals
    intros
    assumption

/-! ### CLEAR -/

/-- One serving pass for each shared valve whose flag was set. -/
theorem passes_eq (s t : State) : (sharedValves.filter fun v => (s.valve v).fault).foldl (fun t _ => t.pass) t =
    (let first := if (s.valve supplyValve).fault then t.pass else t
     let second := if (s.valve galleryFillValve).fault then first.pass else first
     if (s.valve galleryExhaustValve).fault then second.pass else second) := by
  cases h1 : (s.valve supplyValve).fault <;> cases h2 : (s.valve galleryFillValve).fault <;>
    cases h3 : (s.valve galleryExhaustValve).fault <;> simp [sharedValves, h1, h2, h3]

/-- What CLEAR leaves before its passes: the detected flags 0, the flags of the shared valves and, with LIFT absent,
that of valve 10 cleared (R15, R166). -/
def State.cleared (s : State) : State :=
  let t := (s.setEvents { s.events with detected := 0 }).clearFaults sharedValves
  if s.isPresent liftCircuit then t else t.clearFault isolationValve

theorem State.answerClear_eq (s : State) : s.answerClear =
    (.done [], (sharedValves.filter fun v => (s.valve v).fault).foldl (fun t _ => t.pass) s.cleared) := rfl

theorem State.cleared_of_present {s : State} (h : s.isPresent liftCircuit = true) :
    s.cleared = (s.setEvents { s.events with detected := 0 }).clearFaults sharedValves := if_pos h

theorem State.cleared_of_absent {s : State} (h : s.isPresent liftCircuit = false) :
    s.cleared = ((s.setEvents { s.events with detected := 0 }).clearFaults sharedValves).clearFault isolationValve :=
  if_neg (by simp [h])

/-- The flags CLEAR clears are clear in what it leaves. -/
theorem State.cleared_fault (s : State) {v : ValveId}
    (h : v ∈ sharedValves ∨ (s.isPresent liftCircuit = false ∧ v = isolationValve)) :
    (s.cleared.valve v).fault = false := by
  cases k : s.isPresent liftCircuit
  · rw [State.cleared_of_absent k]
    by_cases e : v = isolationValve
    · rw [e, State.clearFault_valve]
    · rw [State.clearFault_valve_of_ne _ e, State.clearFaults_valve_of_mem _ (h.resolve_right fun c => e c.2)]
  · rw [State.cleared_of_present k,
      State.clearFaults_valve_of_mem _ (h.resolve_right fun c => by simp [k] at c)]

/-- With the shared valves' flags clear only valve 10's can be cleared. -/
theorem State.cleared_of_clear {s : State} (h : ∀ v ∈ sharedValves, (s.valve v).fault = false) :
    s.cleared = if s.isPresent liftCircuit then s.setEvents { s.events with detected := 0 }
      else (s.setEvents { s.events with detected := 0 }).clearFault isolationValve := by
  rw [State.cleared, State.clearFaults_of_clear (by exact h)]

/-- CLEAR completed: it is answered DONE with the act of its owner (R156). -/
theorem exec_clear {s : State} (h : s.Serving) (tag : Byte) :
    exec (.clear tag) s = s.heard.answerClear.2.completed .clear tag (.done []) := by
  obtain ⟨ready, running⟩ := h
  refine request_taken ready tag (fun c => absurd c running) rfl rfl (fun _ e => by cases e) ?_
  exact AirClosed.settle_closed noRestart_closed.toAirClosed
    (CoreClosed.answerClear_closed noRestart_closed.toCoreClosed ready.2.1)

/-- The hand-offs of an act and its reply leave every fault flag as the act does. -/
theorem completed_fault (t : State) (k : Kind) (tag : Byte) (a : Answer) :
    ∃ u, t.completed k tag a = .next u ∧ ∀ v, (u.valve v).fault = (t.valve v).fault :=
  ⟨_, rfl, fun v => AirClosed.settle_closed (fault_airClosed v _)
    (AirClosed.settle_closed (s := t) (fault_airClosed v _) rfl)⟩

/-- The passes of CLEAR leave every fault flag as it has cleared them. -/
theorem State.answerClear_fault (s : State) (v : ValveId) :
    (s.answerClear.2.valve v).fault = (s.cleared.valve v).fault :=
  foldl_closed (P := fun t => (t.valve v).fault = (s.cleared.valve v).fault) _
    (fun _ _ => AirClosed.pass_closed (fault_airClosed v _)) _ rfl

/-- Settles O25: CLEAR is its owner's act, the flags are cleared one after another, and what follows sets none. -/
theorem clearRequest : Obligations.ClearRequest := by
  refine ⟨fun tag s h => ?act, rfl, fun s vs => ?frame, fun s v => rfl, fun tag s h => ?clear, fun tag s h clear => ?quiet⟩
  case act =>
    rw [exec_clear h, State.answerClear_eq, passes_eq]
    rfl
  case frame =>
    exact ⟨s.clearFaults_detected vs, fun v m => s.clearFaults_valve_of_mem m,
      fun v m => s.clearFaults_valve_of_not_mem m, fun v m k => s.clearFaults_inactive_of_mem m k,
      fun id k => s.clearFaults_isActive_of_ne k⟩
  case clear =>
    obtain ⟨t, e, flags⟩ := completed_fault s.heard.answerClear.2 .clear tag (.done [])
    have clear_of {v : ValveId} (c : v ∈ sharedValves ∨ (s.isPresent liftCircuit = false ∧ v = isolationValve)) :
        (t.valve v).fault = false := by
      rw [flags, State.answerClear_fault]
      exact s.heard.cleared_fault c
    exact ⟨t, (exec_clear h tag).trans e, clear_of (.inl (by decide)), clear_of (.inl (by decide)),
      clear_of (.inl (by decide)), fun absent => clear_of (.inr ⟨absent, rfl⟩)⟩
  case quiet =>
    have none : (sharedValves.filter fun v => (s.heard.valve v).fault) = [] :=
      List.filter_eq_nil_iff.mpr fun v m => by
        rw [show (s.heard.valve v).fault = false from clear v m]
        decide
    rw [exec_clear h, State.answerClear_eq, none, List.foldl_nil, State.cleared_of_clear (by exact clear)]
    refine completed_of_nil ?_ .clear tag (.done [])
    have quiet : (s.heard.setEvents { s.heard.events with detected := 0 }).deferred = [] := h.1.2.2.2
    split
    · exact quiet
    · cases k : ((s.heard.setEvents { s.heard.events with detected := 0 }).valve isolationValve).fault
      · rw [State.clearFault_of_clear k]; exact quiet
      · rw [State.clearFault_of_fault k, State.clear, setConditions_deferred]; exact quiet

end Sys2Proof.Machine
end

section
/-! Open requests: the conditions of R11 for each kind of valve, and what becomes of a request (O34). -/

namespace Sys2Proof.Machine

open State

/-! ### The conditions of R11, valve by valve -/

/-- The phases in which the supply valve may be open (R11). -/
theorem Transaction.inFillPulse_iff (t : Transaction) : t.inFillPulse = true ↔
    t.phase = .charge ∨ t.phase = .inflate ∨ (t.phase = .pulse ∧ (t.kind = .sideFill ∨ t.kind = .liftFill)) := by
  unfold Transaction.inFillPulse
  cases t.phase <;> simp

theorem valveOwner_wheelValve (w : TyreId) : valveOwner (wheelValve w) = some (tyreCircuit w) := by
  revert w; decide

theorem valveOwner_sideFillValve (side : Side) : valveOwner (sideFillValve side) = some (sideCircuit side) := by
  cases side <;> rfl

theorem valveOwner_sideExhaustValve (side : Side) : valveOwner (sideExhaustValve side) = some (sideCircuit side) := by
  cases side <;> rfl

/-- From valve 11 on every valve is a wheel valve (R10). -/
theorem exists_wheelValve {v : ValveId} (h : 10 ≤ v.val) : ∃ w, v = wheelValve w :=
  ⟨⟨v.val - 10, by omega⟩, Fin.ext (by simp only [wheelValve]; omega)⟩

section
variable {s : State} {c : CircuitId} {t : Transaction}

theorem State.mayOpen_of_none (h : s.transactionOn c = none) (v : ValveId) : s.mayOpen c v = false := by
  rw [State.mayOpen, h]

theorem State.mayOpen_of_lowSupply (h : s.supervisor.lowSupply = true) (c : CircuitId) (v : ValveId) :
    s.mayOpen c v = false := by
  unfold State.mayOpen
  split
  · rfl
  · simp [h]

/-- A request R11 admits is made for a transaction, with the supply up (R12). -/
theorem State.transaction_of_mayOpen {v : ValveId} (h : s.mayOpen c v = true) :
    ∃ t, s.transactionOn c = some t ∧ s.supervisor.lowSupply = false := by
  cases k : s.transactionOn c with
  | none => rw [mayOpen_of_none k] at h; cases h
  | some t =>
    cases l : s.supervisor.lowSupply with
    | false => exact ⟨t, rfl, rfl⟩
    | true => rw [mayOpen_of_lowSupply l] at h; cases h

variable (on : s.transactionOn c = some t)
include on

theorem State.mayOpen_supply : s.mayOpen c supplyValve = true ↔ s.supervisor.lowSupply = false ∧
    s.scheduler.supply = some c ∧
      (t.phase = .charge ∨ t.phase = .inflate ∨ (t.phase = .pulse ∧ (t.kind = .sideFill ∨ t.kind = .liftFill))) := by
  rw [← t.inFillPulse_iff, State.mayOpen, on]
  simp

theorem State.mayOpen_gallery {v : ValveId} (h : v = galleryFillValve ∨ v = galleryExhaustValve) :
    s.mayOpen c v = true ↔ s.supervisor.lowSupply = false ∧ s.scheduler.gallery = some c := by
  have ne : v ≠ supplyValve := by rcases h with rfl | rfl <;> decide
  rw [State.mayOpen, on]
  simp [h, ne]

theorem State.mayOpen_wheel (w : TyreId) : s.mayOpen c (wheelValve w) = true ↔ s.supervisor.lowSupply = false ∧
    c = tyreCircuit w ∧ s.scheduler.gallery = some c ∧
      ∀ u : TyreId, u ≠ w → (s.valve (wheelValve u)).isOpen = false := by
  have notShared : ∀ w : TyreId, wheelValve w ≠ supplyValve ∧ wheelValve w ≠ galleryFillValve ∧
    wheelValve w ≠ galleryExhaustValve := by decide
  obtain ⟨ns, nf, ne⟩ := notShared w
  have others : s.otherWheelsClosed (wheelValve w) = true ↔
      ∀ u : TyreId, u ≠ w → (s.valve (wheelValve u)).isOpen = false := by
    refine ⟨fun k u n => ?_, fun k => List.all_eq_true.mpr fun u _ => ?_⟩
    · rw [← Bool.not_eq_true]
      exact fun o => n (wheelValve_injective (eq_of_otherWheelsClosed k u o))
    · by_cases e : u = w
      · simp [e]
      · simp [k u e]
  rw [State.mayOpen, on]
  simp [ns, nf, ne, wheelTyre_wheelValve, valveOwner_wheelValve, others, and_assoc, eq_comm (a := c)]

/-- The valves of a side and the fill and exhaust valve of LIFT ask for their own circuit alone. -/
theorem State.mayOpen_own {v : ValveId} {d : CircuitId} (h : 3 ≤ v.val ∧ v.val ≤ 8) (own : valveOwner v = some d) :
    s.mayOpen c v = true ↔ s.supervisor.lowSupply = false ∧ c = d := by
  have ns : v ≠ supplyValve := fun e => by subst e; simp [supplyValve] at h
  have nf : v ≠ galleryFillValve := fun e => by subst e; simp [galleryFillValve] at h
  have ne : v ≠ galleryExhaustValve := fun e => by subst e; simp [galleryExhaustValve] at h
  have ni : v ≠ isolationValve := fun e => by subst e; simp [isolationValve] at h
  have nw : wheelTyre v = none := dif_neg (by omega)
  rw [State.mayOpen, on]
  simp [ns, nf, ne, ni, nw, own, eq_comm (a := c)]

theorem State.mayOpen_side {v : ValveId} {side : Side} (h : v = sideFillValve side ∨ v = sideExhaustValve side) :
    s.mayOpen c v = true ↔ s.supervisor.lowSupply = false ∧ c = sideCircuit side := by
  rcases h with rfl | rfl
  · exact mayOpen_own on (by cases side <;> decide) (valveOwner_sideFillValve side)
  · exact mayOpen_own on (by cases side <;> decide) (valveOwner_sideExhaustValve side)

theorem State.mayOpen_lift {v : ValveId} (h : v = liftFillValve ∨ v = liftExhaustValve) :
    s.mayOpen c v = true ↔ s.supervisor.lowSupply = false ∧ c = liftCircuit := by
  rcases h with rfl | rfl <;> exact mayOpen_own on (by decide) (by decide)

end

theorem State.mayOpen_isolation (s : State) (c : CircuitId) : s.mayOpen c isolationValve = false := by
  cases on : s.transactionOn c with
  | none => exact mayOpen_of_none on _
  | some t =>
    rw [State.mayOpen, on]
    simp [isolationValve, supplyValve, galleryFillValve, galleryExhaustValve, wheelTyre]

/-! ### What becomes of a request -/

/-- A request R11 admits: refused to the transaction with the fault flag set, nothing for an open valve, else the valve
is energised and its check begins (R11, R12). -/
theorem State.requestOpen_of_mayOpen {s : State} {c : CircuitId} {v : ValveId} (h : s.mayOpen c v = true) :
    s.requestOpen c v = if (s.valve v).fault then s.setDeferred (s.deferred ++ [.openRefused c v])
      else if (s.valve v).isOpen then s else s.setValve v { s.valve v with isOpen := true, check := some s.now } :=
  if_pos h

/-- Any other request changes nothing (R11). -/
theorem State.requestOpen_of_not {s : State} {c : CircuitId} {v : ValveId} (h : ¬ s.mayOpen c v = true) :
    s.requestOpen c v = s := if_neg h

/-- A request that fails a condition of R11 changes nothing; where no transaction is in flight it has failed already. -/
theorem State.requestOpen_unless {s : State} {c : CircuitId} {v : ValveId}
    (h : ∀ t, s.transactionOn c = some t → s.mayOpen c v = true → False) : s.requestOpen c v = s :=
  requestOpen_of_not fun may => have ⟨t, on, _⟩ := transaction_of_mayOpen may; h t on may

/-- A CLOSED valve that a request leaves open was admitted, without a fault, and is energised now. -/
theorem State.requestOpen_energises {s : State} {c : CircuitId} {v : ValveId} (closed : (s.valve v).isOpen = false)
    (opened : ((s.requestOpen c v).valve v).isOpen = true) : s.mayOpen c v = true ∧ (s.valve v).fault = false ∧
      s.requestOpen c v = s.setValve v { s.valve v with isOpen := true, check := some s.now } := by
  by_cases may : s.mayOpen c v = true
  · rw [requestOpen_of_mayOpen may] at opened ⊢
    cases fault : (s.valve v).fault with
    | true =>
      rw [fault, if_pos rfl] at opened
      exact absurd (opened.symm.trans closed) (by decide)
    | false => simp [may, closed]
  · rw [requestOpen_of_not may, closed] at opened
    cases opened

/-- Valves 4 to 22 are those a circuit has to itself (R10). -/
theorem valveOwner_isSome (v : ValveId) : (valveOwner v).isSome = decide (4 ≤ valveNumber v) := by
  revert v; decide

/-- Settles O34: each direction from the conditions of R11 for the kind of valve asked for. -/
theorem openRequest : Obligations.OpenRequest := by
  refine ⟨fun s c v closed opened => ?opens, fun s c t on up => ?admitted, fun s c v => ?refused,
    fun s c t on nc ni np => ?noPulse, fun s c v => ?told⟩
  case opens =>
    obtain ⟨may, clear, energised⟩ := requestOpen_energises closed opened
    obtain ⟨t, on, up⟩ := transaction_of_mayOpen may
    refine ⟨⟨t, on, ?_⟩, up, clear, ?_, ?_, ?_, ?_, ?_, energised⟩
    · rintro rfl; exact ((mayOpen_supply on).mp may).2
    · rintro rfl; rw [mayOpen_isolation] at may; cases may
    · exact fun g => ((mayOpen_gallery on g).mp may).2
    · rintro w rfl; exact ((mayOpen_wheel on w).mp may).2
    · exact fun side g => ((mayOpen_side on g).mp may).2
    · exact fun g => ((mayOpen_lift on g).mp may).2
  case admitted =>
    refine ⟨fun supply filling => ?_, fun gallery => ⟨?_, ?_⟩, fun w own gallery others => ?_, fun side own => ⟨?_, ?_⟩,
      fun own => ⟨?_, ?_⟩⟩
    · exact requestOpen_of_mayOpen ((mayOpen_supply on).mpr ⟨up, supply, filling⟩)
    · exact requestOpen_of_mayOpen ((mayOpen_gallery on (.inl rfl)).mpr ⟨up, gallery⟩)
    · exact requestOpen_of_mayOpen ((mayOpen_gallery on (.inr rfl)).mpr ⟨up, gallery⟩)
    · exact requestOpen_of_mayOpen ((mayOpen_wheel on w).mpr ⟨up, own, gallery, others⟩)
    · exact requestOpen_of_mayOpen ((mayOpen_side on (.inl rfl)).mpr ⟨up, own⟩)
    · exact requestOpen_of_mayOpen ((mayOpen_side on (.inr rfl)).mpr ⟨up, own⟩)
    · exact requestOpen_of_mayOpen ((mayOpen_lift on (.inl rfl)).mpr ⟨up, own⟩)
    · exact requestOpen_of_mayOpen ((mayOpen_lift on (.inr rfl)).mpr ⟨up, own⟩)
  case refused =>
    refine ⟨?_, ?_, ?_, ?_, ?_, ?_⟩
    · rintro (none | low | rfl)
      · exact requestOpen_of_not (by rw [mayOpen_of_none none]; decide)
      · exact requestOpen_of_not (by rw [mayOpen_of_lowSupply low]; decide)
      · exact requestOpen_of_not (by rw [mayOpen_isolation]; decide)
    · rintro rfl other
      exact requestOpen_unless fun t on may => other ((mayOpen_supply on).mp may).2.1
    · intro which other
      refine requestOpen_unless fun t on may => other ?_
      rcases which with g | g | g
      · exact ((mayOpen_gallery on (.inl g)).mp may).2
      · exact ((mayOpen_gallery on (.inr g)).mp may).2
      · obtain ⟨w, rfl⟩ := exists_wheelValve g
        exact ((mayOpen_wheel on w).mp may).2.2.1
    · rintro w rfl failing
      refine requestOpen_unless fun t on may => ?_
      obtain ⟨_, own, _, others⟩ := (mayOpen_wheel on w).mp may
      rcases failing with other | ⟨u, ne, opened⟩
      · exact other own
      · rw [others u ne] at opened; cases opened
    · exact fun side g other => requestOpen_unless fun t on may => other ((mayOpen_side on g).mp may).2
    · exact fun g other => requestOpen_unless fun t on may => other ((mayOpen_lift on g).mp may).2
  case noPulse =>
    refine requestOpen_of_not fun may => ?_
    rcases ((mayOpen_supply on).mp may).2.2 with charge | inflate | ⟨pulse, fill⟩
    · exact nc charge
    · exact ni inflate
    · rcases np with n | ⟨side, lift⟩
      · exact n pulse
      · exact fill.elim side lift
  case told =>
    refine ⟨fun t on => ?_, fun none => ?_⟩
    · simp only [State.takeDeferred, on, valveOwner_isSome]
    · simp only [State.takeDeferred, none]

end Sys2Proof.Machine
end

section
/-! The verdicts of electrical checks: what ends a check, what a FAULTY verdict sets, and what it takes out of service
(O35). -/

namespace Sys2Proof.Machine

open State

/-! ### Checks -/

/-- A valve written twice holds what was written last. -/
theorem State.setValve_setValve (s : State) (v : ValveId) (x y : Valve) :
    (s.setValve v x).setValve v y = s.setValve v y := by
  simp [State.setValve, State.setDriver, Vector.set_set]

/-- A check's verdict is to be taken 20 ms after the energise, or when it was left to be taken (R12). -/
theorem State.checkDue_iff (s : State) (v : ValveId) : s.checkDue v = true ↔
    (s.valve v).verdictLeft = true ∨ ∃ m, (s.valve v).check = some m ∧ m + 20 ≤ s.now := by
  rw [State.checkDue, Bool.or_eq_true]
  cases (s.valve v).check <;> simp [State.reached, Fixed.electricalCheck]

/-- A verdict in its time is taken (R12). -/
theorem exec_electricalCheck_of_due {s : State} {v : ValveId}
    (h : (s.valve v).verdictLeft = true ∨ ∃ m, (s.valve v).check = some m ∧ m + 20 ≤ s.now) (x : CoilVerdict) :
    exec (.electricalCheck v x) s = finish (s.takeVerdict v x) :=
  congrArg finish (if_pos ((s.checkDue_iff v).mpr h))

/-- A verdict out of its time changes nothing. -/
theorem exec_electricalCheck_of_not_due {s : State} {v : ValveId} (quiet : s.deferred = [])
    (h : ¬((s.valve v).verdictLeft = true ∨ ∃ m, (s.valve v).check = some m ∧ m + 20 ≤ s.now)) (x : CoilVerdict) :
    exec (.electricalCheck v x) s = .next s :=
  (congrArg finish (if_neg fun due => h ((s.checkDue_iff v).mp due))).trans (finish_of_nil quiet)

theorem State.endCheck_of_running {s : State} {v : ValveId} (h : (s.valve v).verdictLeft = false) :
    s.endCheck v = s.setValve v { s.valve v with check := none } := if_neg (by simp [h])

theorem State.endCheck_of_left {s : State} {v : ValveId} (h : (s.valve v).verdictLeft = true) :
    s.endCheck v = s.setValve v { s.valve v with verdictLeft := false } := if_pos h

/-! ### Closing, and the fault flag -/

theorem State.closeValve_of_open {s : State} {v : ValveId} (h : (s.valve v).isOpen = true) :
    s.closeValve v = s.setValve v { s.valve v with isOpen := false, check := none } := if_pos h

theorem State.closeValve_of_closed {s : State} {v : ValveId} (h : (s.valve v).isOpen = false) :
    s.closeValve v = s := if_neg (by simp [h])

theorem State.closeValve_isOpen (s : State) (v : ValveId) : ((s.closeValve v).valve v).isOpen = false := by
  cases h : (s.valve v).isOpen with
  | true => rw [closeValve_of_open h, setValve_valve]
  | false => rw [closeValve_of_closed h, h]

theorem State.setFault_of_fault {s : State} {v : ValveId} (h : (s.valve v).fault = true) : s.setFault v = s := if_pos h

/-- A fault flag newly set, with its event and its condition (R13). -/
theorem State.setFault_of_clear {s : State} {v : ValveId} (h : (s.valve v).fault = false) :
    s.setFault v = ((s.setValve v { s.valve v with fault := true }).logEvent .valveFault (valveSeverity v) (valveOwner v)
      (some (valveNumber v))).raise (.valveFault v) (valveSeverity v) := if_neg (by simp [h])

theorem State.setFault_valve (s : State) (v : ValveId) : (s.setFault v).valve v = { s.valve v with fault := true } := by
  cases h : (s.valve v).fault with
  | true => rw [setFault_of_fault h, ← h]
  | false => rw [setFault_of_clear h, raise_valve, logEvent_valve, setValve_valve]

theorem valveSeverity_eq (v : ValveId) : valveSeverity v = if valveNumber v = 1 then .critical else .degraded := by
  revert v; decide

/-- A valve with its flag set stays closed: no open request energises it (R11). -/
theorem faultyClosed_airClosed (v : ValveId) :
    AirClosed fun s => (s.valve v).fault = true ∧ (s.valve v).isOpen = false := by
  have kept : ∀ {s : State} (w : ValveId) (x : Valve), (v = w → x.isOpen = false ∧ x.fault = (s.valve w).fault) →
      (s.valve v).fault = true ∧ (s.valve v).isOpen = false →
        ((s.setValve w x).valve v).fault = true ∧ ((s.setValve w x).valve v).isOpen = false := by
    intro s w x e h
    by_cases k : v = w
    · subst k; rw [setValve_valve, (e rfl).1, (e rfl).2]; exact ⟨h.1, rfl⟩
    · rw [setValve_valve_of_ne _ _ k]; exact h
  constructor
  case openValve =>
    exact fun c w _ _ clear h => kept w _ (fun e => by rw [← e, h.1] at clear; cases clear) h
  case setValve =>
    intro s w x opens flag h
    refine kept w x (fun e => ⟨?_, flag⟩) h
    subst e
    exact Bool.eq_false_iff.mpr fun o => by rw [opens o] at h; cases h.2
  case logEvent => exact fun k sev c x h => by rw [logEvent_valve]; exact h
  case setConditions => exact fun x h => by rw [setConditions_valve]; exact h
  all_goals
    intros
    assumption

/-! ### FAULTY -/

/-- A FAULTY verdict sets the flag, and closes every valve but the isolation valve (R13). -/
theorem State.takeVerdict_faulty_valve (s : State) (v : ValveId) :
    ((s.takeVerdict v .faulty).settle.valve v).fault = true ∧
      (v ≠ isolationValve → ((s.takeVerdict v .faulty).settle.valve v).isOpen = false) := by
  by_cases e : v = isolationValve
  · subst e
    refine ⟨?_, fun n => absurd rfl n⟩
    have flag := fault_airClosed isolationValve true
    exact AirClosed.settle_closed flag (AirClosed.faultOutOfService_closed flag _
      (AirClosed.liftSwitchFailed_closed flag (by rw [setFault_valve])))
  · have faulty := faultyClosed_airClosed v
    have set : s.takeVerdict v .faulty = (((s.endCheck v).closeValve v).setFault v).faultOutOfService v := if_neg e
    have kept := AirClosed.settle_closed faulty (AirClosed.faultOutOfService_closed faulty v
      (s := ((s.endCheck v).closeValve v).setFault v) (by rw [setFault_valve]; exact ⟨rfl, closeValve_isOpen _ v⟩))
    rw [set]
    exact ⟨kept.1, fun _ => kept.2⟩

/-- A check ended and its valve closed: the output as FAULTY leaves it (R13 step 1). -/
theorem State.closeValve_endCheck {s : State} {v : ValveId} (h : (s.valve v).verdictLeft = false) :
    (s.endCheck v).closeValve v = s.setValve v { s.valve v with isOpen := false, check := none } := by
  rw [endCheck_of_running h]
  cases o : (s.valve v).isOpen with
  | true => rw [closeValve_of_open (by simpa using o), setValve_setValve, setValve_valve]
  | false => rw [closeValve_of_closed (by simpa using o), ← o]

/-- The flag set on an output just written: written with the flag, if it is not set already. -/
theorem State.setFault_setValve (s : State) (v : ValveId) (x : Valve) : (s.setValve v x).setFault v =
    if x.fault then s.setValve v x
    else ((s.setValve v { x with fault := true }).logEvent .valveFault (valveSeverity v) (valveOwner v)
      (some (valveNumber v))).raise (.valveFault v) (valveSeverity v) := by
  cases h : x.fault with
  | true => exact setFault_of_fault (by simpa using h)
  | false => rw [setFault_of_clear (by simpa using h), setValve_setValve, setValve_valve]; rfl

/-- A switch failed: it ends, and the flag of valve 10 is set with its event (R13, R17). -/
theorem State.failSwitch_eq (s : State) : s.failSwitch =
    (let ended := (s.setIsolation { s.driver.isolation with switch := .ready, pulseStart := none }).setValve
      isolationValve { s.valve isolationValve with check := none }
     let faulted := if (s.valve isolationValve).fault then ended
      else ((ended.setValve isolationValve { s.valve isolationValve with check := none, fault := true }).logEvent
        .valveFault .degraded (some liftCircuit) (some 10)).raise (.valveFault isolationValve) .degraded
     faulted.liftSwitchFailed.faultOutOfService isolationValve) := by
  dsimp only
  rw [setValve_setValve]
  exact congrArg (fun t : State => t.liftSwitchFailed.faultOutOfService isolationValve)
    (setFault_setValve (s.setIsolation _) isolationValve _)

/-! ### Out of service -/

/-- A valve of a circuit ends the circuit's transaction, or stalls the circuit (R14, R100). -/
theorem State.faultOutOfService_own {s : State} {v : ValveId} {c : CircuitId} (own : valveOwner v = some c) :
    s.faultOutOfService v = match s.transactionOn c with
      | some t => s.endTransaction t .electrical true
      | none => s.stall c 0 := by
  unfold State.faultOutOfService State.transactionUsing
  cases h : s.transactionOn c <;> simp only [own, h, Option.isSome_some]

/-- A shared valve ends the transaction of its resource's holder if its phase holds the valve open (R14, R100). -/
theorem State.faultOutOfService_shared {s : State} {v : ValveId} (shared : valveOwner v = none) :
    s.faultOutOfService v =
      match (if v = supplyValve then s.scheduler.supply else s.scheduler.gallery).bind s.transactionOn with
      | some t => if v ∈ phaseValves t.circuit t.kind t.phase then s.endTransaction t .electrical false else s
      | none => s := by
  unfold State.faultOutOfService State.transactionUsing
  simp only [shared, Option.isSome_none]
  cases (if v = supplyValve then s.scheduler.supply else s.scheduler.gallery).bind s.transactionOn with
  | none => rfl
  | some t =>
    by_cases m : v ∈ phaseValves t.circuit t.kind t.phase <;> simp [Option.filter, m]

theorem valveOwner_of_shared {v : ValveId} (h : valveNumber v ≤ 3) : valveOwner v = none := by
  revert v; decide

/-- Settles O35: the verdict in its time, the flag and the output it leaves, and each case of what it takes out of
service. -/
theorem checkVerdicts : Obligations.CheckVerdicts := by
  refine ⟨fun v s m at_ left quiet => ⟨fun due => ?healthy, fun early x => ?early⟩, fun v s m at_ due => ?faulty,
    fun v x s none left quiet => ?noCheck, fun v s left => ⟨fun quiet => ?leftHealthy, ?leftFaulty⟩,
    fun v s m at_ left due other => ?whole, fun s m at_ left due => ?isolation, ?owners,
    fun s v c own => ⟨fun t on => ?_, fun none => ?_⟩, fun s v c few holder => ⟨fun t on => ⟨fun m => ?_, fun m => ?_⟩,
      fun none => ?_⟩, fun s v few free => ?_, fun s c n => ⟨fun from_ => ?_, fun ni nw nh => ?_⟩⟩
  case healthy =>
    rw [exec_electricalCheck_of_due (.inr ⟨m, at_, due⟩)]
    show finish (s.endCheck v) = _
    rw [endCheck_of_running left]
    exact finish_of_nil quiet
  case early =>
    refine exec_electricalCheck_of_not_due quiet ?_ x
    rintro (l | ⟨k, e, due⟩)
    · rw [left] at l; cases l
    · rw [at_] at e; cases e; omega
  case faulty => exact ⟨_, exec_electricalCheck_of_due (.inr ⟨m, at_, due⟩) .faulty, s.takeVerdict_faulty_valve v⟩
  case noCheck =>
    refine exec_electricalCheck_of_not_due quiet ?_ x
    rintro (l | ⟨k, e, _⟩)
    · rw [left] at l; cases l
    · rw [none] at e; cases e
  case leftHealthy =>
    rw [exec_electricalCheck_of_due (.inl left)]
    show finish (s.endCheck v) = _
    rw [endCheck_of_left left]
    exact finish_of_nil quiet
  case leftFaulty =>
    exact ⟨_, exec_electricalCheck_of_due (.inl left) .faulty, (s.takeVerdict_faulty_valve v).1⟩
  case whole =>
    have set : s.takeVerdict v .faulty = (((s.endCheck v).closeValve v).setFault v).faultOutOfService v := if_neg other
    rw [exec_electricalCheck_of_due (.inr ⟨m, at_, due⟩), set, closeValve_endCheck left, setFault_setValve,
      valveSeverity_eq]
    rfl
  case isolation =>
    rw [exec_electricalCheck_of_due (.inr ⟨m, at_, due⟩)]
    exact congrArg finish s.failSwitch_eq
  case owners =>
    exact ⟨rfl, rfl, rfl, fun side => ⟨valveOwner_sideFillValve side, valveOwner_sideExhaustValve side⟩, rfl, rfl, rfl,
      valveOwner_wheelValve⟩
  · rw [faultOutOfService_own own, on]
  · rw [faultOutOfService_own own, none]
  · rw [faultOutOfService_shared (valveOwner_of_shared few), holder, Option.bind_some, on]
    exact if_pos m
  · rw [faultOutOfService_shared (valveOwner_of_shared few), holder, Option.bind_some, on]
    exact if_neg m
  · rw [faultOutOfService_shared (valveOwner_of_shared few), holder, Option.bind_some, none]
  · rw [faultOutOfService_shared (valveOwner_of_shared few), free, Option.bind_none]
  · exact if_pos from_
  · exact if_neg fun k => k.elim ni fun k => k.elim nw nh

end Sys2Proof.Machine
end

section
/-! The switches of the isolation valve: requests, the pulse and its watch, and the answers at the Lift Axle Controller
(O36). -/

namespace Sys2Proof.Machine

open State

/-! ### Requests -/

theorem State.setValve_setIsolation (s : State) (v : ValveId) (x : Valve) (y : IsolationValve) :
    (s.setValve v x).setIsolation y = (s.setIsolation y).setValve v x := rfl

/-- A pulse toward a position that is not read yet (R16). -/
theorem State.startPulse_of_ne {s : State} {p : Position} (h : s.position ≠ some p) : s.startPulse p =
    (s.setIsolation ⟨some p, .pulsing, some s.now⟩).setValve isolationValve
      { s.valve isolationValve with check := some s.now } := if_neg h

/-- A pulse toward the position already read ends SWITCHED at once, its check abandoned (R16, R17). -/
theorem State.startPulse_of_read {s : State} {p : Position} (h : s.position = some p) : s.startPulse p =
    ((s.setIsolation ⟨some p, .ready, none⟩).setValve isolationValve
      { s.valve isolationValve with check := none }).setDeferred (s.deferred ++ [.switched]) := by
  have ended : ((s.setIsolation ⟨some p, .pulsing, some s.now⟩).setValve isolationValve
      { s.valve isolationValve with check := some s.now }).endSwitch =
        (s.setIsolation ⟨some p, .ready, none⟩).setValve isolationValve
          { s.valve isolationValve with check := none } := by
    rw [State.endSwitch, State.abandonCheck, setValve_setIsolation, setValve_setValve, setValve_valve]
    rfl
  exact (if_pos h).trans (congrArg (fun t : State => t.defer .switched) ended)

theorem State.beginSwitch_of_low {s : State} (h : s.supervisor.lowSupply = true) (p : Position) :
    s.beginSwitch p = s.setIsolation ⟨some p, .pending, none⟩ := if_pos h

theorem State.beginSwitch_of_up {s : State} (h : s.supervisor.lowSupply = false) (p : Position) :
    s.beginSwitch p = s.startPulse p := if_neg (by simp [h])

theorem State.requestSwitch_of_ready {s : State} (h : s.driver.isolation.switch = .ready) (p : Position) :
    s.requestSwitch p = s.beginSwitch p := by
  rw [State.requestSwitch, h]

theorem State.requestSwitch_of_pending {s : State} (h : s.driver.isolation.switch = .pending) (p : Position) :
    s.requestSwitch p = s.setIsolation { s.driver.isolation with commanded := some p } := by
  rw [State.requestSwitch, h]

/-- A request while a switch is watched: nothing for the commanded position, else the pulse and its check are cut. -/
theorem State.requestSwitch_of_watching {s : State}
    (h : s.driver.isolation.switch = .pulsing ∨ s.driver.isolation.switch = .checking) (p : Position) :
    s.requestSwitch p =
      if s.driver.isolation.commanded = some p then s else (s.abandonCheck isolationValve).beginSwitch p := by
  rcases h with h | h <;> rw [State.requestSwitch, h]

/-- A cut switch begun anew: held, ended at once, or pulsing. -/
theorem State.beginSwitch_abandonCheck (s : State) (p : Position) : (s.abandonCheck isolationValve).beginSwitch p =
    if s.supervisor.lowSupply then (s.setIsolation ⟨some p, .pending, none⟩).setValve isolationValve
      { s.valve isolationValve with check := none }
    else if s.position = some p then ((s.setIsolation ⟨some p, .ready, none⟩).setValve isolationValve
      { s.valve isolationValve with check := none }).setDeferred (s.deferred ++ [.switched])
    else (s.setIsolation ⟨some p, .pulsing, some s.now⟩).setValve isolationValve
      { s.valve isolationValve with check := some s.now } := by
  unfold State.abandonCheck
  cases low : s.supervisor.lowSupply with
  | true => rw [beginSwitch_of_low (by exact low)]; rfl
  | false =>
    rw [beginSwitch_of_up (by exact low)]
    by_cases read : s.position = some p
    · rw [startPulse_of_read (by exact read), setValve_valve, setValve_setIsolation, setValve_setValve, if_pos read]
      rfl
    · rw [startPulse_of_ne (by exact read), setValve_valve, setValve_setIsolation, setValve_setValve, if_neg read]
      rfl

/-! ### The pulse, the watch and the position -/

theorem State.failSwitch_fault (s : State) : ((s.failSwitch).settle.valve isolationValve).fault = true :=
  (s.takeVerdict_faulty_valve isolationValve).1

theorem State.watching_iff (s : State) : s.watching = true ↔
    s.driver.isolation.switch = .pulsing ∨ s.driver.isolation.switch = .checking := by
  simp [State.watching]

/-- The driver at a new debounced position: a watched switch whose position it reads ends SWITCHED (R17). -/
theorem State.watchPosition_of_read {s : State}
    (h : s.driver.isolation.switch = .pulsing ∨ s.driver.isolation.switch = .checking)
    (read : s.position = s.driver.isolation.commanded) : s.watchPosition = s.endSwitch.liftSwitched :=
  if_pos ⟨s.watching_iff.mpr h, read⟩

theorem State.watchPosition_of_not {s : State}
    (h : ¬((s.driver.isolation.switch = .pulsing ∨ s.driver.isolation.switch = .checking) ∧
      s.position = s.driver.isolation.commanded)) : s.watchPosition = s :=
  if_neg fun k => h ⟨s.watching_iff.mp k.1, k.2⟩

/-! ### The answers at the lift -/

theorem State.liftActs_iff (s : State) : s.liftActs = true ↔ s.liftFitted = true ∧ s.lift.reconciled = true := by
  rw [State.liftActs, Bool.and_eq_true]

/-- SWITCHED is answered: no switch is outstanding, and the lift moves on and is evaluated (R118, R119, R120). -/
theorem State.liftSwitched_of_acts {s : State} (h : s.liftActs = true) : s.liftSwitched =
    (s.setLift { s.lift with switchOutstanding := false }).afterSwitched.evaluateLift := if_pos h

/-- What FAILED does by the step it meets (R118, R120, R122). -/
theorem State.liftSwitchFailed_of_acts {s : State} (h : s.liftActs = true) : s.liftSwitchFailed =
    match s.lift.step with
    | .connecting =>
      let t := (s.setLift { s.lift with switchOutstanding := false }).setLiftState .down .noStep
      (t.setLift { t.lift with loweringClass := none }).evaluateLift.raiseUnavailable .critical
    | .noStep => (s.setLift { s.lift with switchOutstanding := false }).raiseUnavailable .critical
    | _ => s.setLift { s.lift with switchOutstanding := false } := (if_pos h).trans rfl

theorem State.afterSwitched_of_isolating {s : State} (state : s.lift.state = .raising) (step : s.lift.step = .isolating) :
    s.afterSwitched = s.setLift { s.lift with step := .filling } := by
  rw [State.afterSwitched, state, step]

theorem State.afterSwitched_of_connecting {s : State} (state : s.lift.state = .lowering)
    (step : s.lift.step = .connecting) : s.afterSwitched =
      (let t := s.setLiftState .down .noStep
       t.setLift { t.lift with loweringClass := none }) := by
  rw [State.afterSwitched, state, step]

theorem State.afterSwitched_of_neither {s : State} (raising : ¬(s.lift.state = .raising ∧ s.lift.step = .isolating))
    (lowering : ¬(s.lift.state = .lowering ∧ s.lift.step = .connecting)) : s.afterSwitched = s := by
  unfold State.afterSwitched
  split
  · exact absurd ⟨‹_›, ‹_›⟩ raising
  · exact absurd ⟨‹_›, ‹_›⟩ lowering
  · rfl

theorem State.setLiftState_of_ne {s : State} {st : LiftState} (h : s.lift.state ≠ st) (step : LiftStep) :
    s.setLiftState st step = (s.setLift { s.lift with state := st, step := step }).logEvent .liftChanged .advisory none
      (some st.code) := by
  rw [State.setLiftState]
  simp [h]

/-- The lift evaluated in DOWN: a demand of LIFT is withdrawn (R119). -/
theorem State.evaluateLift_of_down {s : State} (acts : s.liftActs = true) (down : s.lift.state = .down) :
    s.evaluateLift = s.withdraw liftCircuit := by
  rw [State.evaluateLift, if_pos acts, down]

theorem State.setLift_setLift (s : State) (x y : LiftController) : (s.setLift x).setLift y = s.setLift y := rfl

/-- A lowering in CONNECTING is DOWN at the driver's answer, whether SWITCHED or FAILED (R120). -/
theorem State.lowered_eq {s : State} (acts : s.liftActs = true) (state : s.lift.state = .lowering) :
    (let t := (s.setLift { s.lift with switchOutstanding := false }).setLiftState .down .noStep
     (t.setLift { t.lift with loweringClass := none }).evaluateLift) =
      (((s.setLift { s.lift with switchOutstanding := false, state := .down, step := .noStep }).logEvent .liftChanged
        .advisory none (some 0)).setLift { s.lift with
          switchOutstanding := false, state := .down, step := .noStep, loweringClass := none }).withdraw liftCircuit := by
  have ne : (s.setLift { s.lift with switchOutstanding := false }).lift.state ≠ .down := by
    show s.lift.state ≠ .down
    rw [state]; decide
  dsimp only
  rw [setLiftState_of_ne ne]
  refine (evaluateLift_of_down ?_ ?_).trans ?_
  · rw [liftActs_iff] at acts ⊢
    simpa [State.liftFitted] using acts
  · simp
  · simp [LiftState.code, setLift_setLift]

/-- Settles O36: each clause is a case of the request, the pulse, the watch or the answer it is about. -/
theorem isolationSwitch : Obligations.IsolationSwitch := by
  refine ⟨fun s p ready up other => ?pulse, fun s p ready low => ?held, fun s m pulsing at_ due quiet => ?pulseEnd,
    fun s m watched at_ due => ?expiry, fun s fitted reconciled => ?answers, fun s p held raw new => ?position,
    fun s fitted reconciled free => ?lift, fun s p outstanding => ?outstanding, fun s p => ?requests, fun s => rfl⟩
  case pulse => rw [requestSwitch_of_ready ready, beginSwitch_of_up up, startPulse_of_ne other]
  case held => rw [requestSwitch_of_ready ready, beginSwitch_of_low low]
  case pulseEnd =>
    have now : s.pulseDue = true := by
      simpa [State.pulseDue, pulsing, at_, State.reached, Fixed.isolationPulse] using due
    exact (congrArg finish (if_pos now)).trans (finish_of_nil quiet)
  case expiry =>
    have now : s.watchDue = true := by
      simpa [State.watchDue, s.watching_iff.mpr watched, at_, State.reached, Fixed.positionWatch] using due
    have failed : exec .positionWatchExpiry s = finish s.failSwitch := congrArg finish (if_pos now)
    exact ⟨failed.trans (congrArg finish s.failSwitch_eq), _, failed, s.failSwitch_fault⟩
  case answers =>
    have acts := s.liftActs_iff.mpr ⟨fitted, reconciled⟩
    refine ⟨fun state step => ?_, fun state step => ⟨?_, ?_⟩, fun raising lowering => ?_, fun step => ?_, fun step => ?_⟩
    · rw [liftSwitched_of_acts acts, afterSwitched_of_isolating (by exact state) (by exact step)]
      rfl
    · rw [liftSwitched_of_acts acts, afterSwitched_of_connecting (by exact state) (by exact step)]
      exact lowered_eq acts state
    · rw [liftSwitchFailed_of_acts acts, step]
      exact congrArg (fun t : State => t.raiseUnavailable .critical) (lowered_eq acts state)
    · rw [liftSwitched_of_acts acts, afterSwitched_of_neither (by exact raising) (by exact lowering)]
    · rw [liftSwitchFailed_of_acts acts, step]
    · rw [liftSwitchFailed_of_acts acts, step]
  case position =>
    have due : s.positionDue = true := by
      unfold State.positionDue
      rw [raw, Bool.and_eq_true]
      exact ⟨decide_eq_true held, decide_eq_true new⟩
    have taken : exec .debouncedPosition s = finish s.takePosition := congrArg finish (if_pos due)
    subst raw
    refine ⟨fun watched commanded => ?_, fun other => ?_⟩
    · rw [taken, State.takePosition, watchPosition_of_read (by exact watched) (by exact commanded.symm)]
      rfl
    · rw [taken, State.takePosition, watchPosition_of_not ?_]
      · rfl
      · rintro ⟨watched, commanded⟩
        rcases other with ⟨np, nc⟩ | nc
        · exact watched.elim np nc
        · exact nc commanded.symm
  case lift =>
    have acts : s.liftActs = true ∧ (!s.lift.switchOutstanding) = true :=
      ⟨s.liftActs_iff.mpr ⟨fitted, reconciled⟩, by rw [free]; rfl⟩
    refine ⟨fun down => ?_, ?_⟩
    · unfold State.liftPosition; rw [if_pos acts, down]
      rfl
    · rintro (up | ⟨raising, filling⟩)
      · unfold State.liftPosition; rw [if_pos acts, up]
      · unfold State.liftPosition; rw [if_pos acts, raising, filling]
  case outstanding => exact if_neg (by simp [outstanding])
  case requests =>
    refine ⟨fun ready up read => ?_, fun pending => requestSwitch_of_pending pending p, fun watched commanded => ?_,
      fun watched other => ?_⟩
    · rw [requestSwitch_of_ready ready, beginSwitch_of_up up, startPulse_of_read read]
    · rw [requestSwitch_of_watching watched, if_pos commanded]
    · rw [requestSwitch_of_watching watched, if_neg other, beginSwitch_abandonCheck]

end Sys2Proof.Machine
end

section
/-! Outcomes: how a transaction is judged, what each outcome makes of the record, and the end of a transaction (O42). -/

namespace Sys2Proof.Machine

open State

/-! ### Places -/

theorem circuitSide_sideCircuit (side : Side) : circuitSide (sideCircuit side) = some side := by cases side <;> rfl

theorem circuitSide_tyreCircuit (t : TyreId) : circuitSide (tyreCircuit t) = none := by
  simp [circuitSide, tyreCircuit]

theorem circuitTyre_tyreCircuit (t : TyreId) : circuitTyre (tyreCircuit t) = some t := by
  simp [circuitTyre, tyreCircuit]

theorem circuitSide_liftCircuit : circuitSide liftCircuit = none := rfl

theorem circuitTyre_liftCircuit : circuitTyre liftCircuit = none := rfl

/-! ### Judgement -/

/-- A witness shows a response: its reference and its reading are present, and a step apart in the direction (R90). -/
theorem witness_iff (up : Bool) (reference now : Option Nat) (step : Nat) : witness up reference now step = true ↔
    ∃ a b, reference = some a ∧ now = some b ∧ ((up = true ∧ a + step ≤ b) ∨ (¬up = true ∧ b + step ≤ a)) := by
  cases reference <;> cases now <;> cases up <;> simp [witness, responds]

theorem usable_iff (reference now : Option Nat) : usable reference now = true ↔ reference ≠ none ∧ now ≠ none := by
  simp [usable, Option.isSome_iff_ne_none]

/-- A witness that shows a response is usable. -/
theorem usable_of_witness {up : Bool} {reference now : Option Nat} {step : Nat}
    (h : witness up reference now step = true) : usable reference now = true := by
  obtain ⟨a, b, ha, hb, _⟩ := (witness_iff _ _ _ _).mp h
  simp [usable, ha, hb]

theorem State.weakSupply_iff (s : State) (t : Transaction) : s.weakSupply t = true ↔
    ∃ r q, t.supplyAtEnd = some (r, q) ∧ r < q + s.params.p33 := by
  unfold State.weakSupply
  cases t.supplyAtEnd with
  | none => simp
  | some x => obtain ⟨r, q⟩ := x; simp

theorem State.passesTarget_iff (s : State) (side : Side) (up : Bool) : s.passesTarget side up = true ↔
    ∃ x g, s.validValue (heightChannel side) = some x ∧ (s.circuit (sideCircuit side)).target = some g ∧
      ((up = true ∧ g + s.deadband < x) ∨ (¬up = true ∧ x + s.deadband < g)) := by
  unfold State.passesTarget
  cases s.validValue (heightChannel side) <;> cases (s.circuit (sideCircuit side)).target <;> cases up <;> simp

theorem State.beyondTarget_iff (s : State) (t : Transaction) (v : Nat) : s.beyondTarget t v = true ↔
    ∃ g, (s.circuit t.circuit).target = some g ∧
      ((t.kind = .inflate ∧ g + s.params.p61 < v) ∨ (¬t.kind = .inflate ∧ v + s.params.p60 < g)) := by
  unfold State.beyondTarget
  cases (s.circuit t.circuit).target with
  | none => simp
  | some g => by_cases k : t.kind = .inflate <;> simp [k]

/-- A reading at or below a bound. -/
theorem atMost_iff (p : Option Nat) (bound : Nat) :
    (match p with
      | some x => decide (x ≤ bound)
      | none => false) = true ↔ ∃ x, p = some x ∧ x ≤ bound := by
  cases p <;> simp

/-- The rows of R91 to R93 that follow the tests of limit and use: by response, then by target or supply. -/
theorem responseRows {response passes weak : Bool} {o : TransactionOutcome}
    (h : o = if response && passes then .overshoot else if response then .effective
      else if weak then .noResponse else .strike) :
    (response = true → passes = true → o = .overshoot) ∧ (response = true → ¬passes = true → o = .effective) ∧
    (¬response = true → weak = true → o = .noResponse) ∧ (¬response = true → ¬weak = true → o = .strike) := by
  subst h
  revert response passes weak
  decide

/-! ### The end of a transaction -/

/-- Valves closed in turn change the driver alone. -/
theorem State.foldl_setDriver {α : Type} (f : State → α → State) (step : ∀ s x, ∃ d, f s x = s.setDriver d) (l : List α)
    (s : State) : ∃ d, l.foldl f s = s.setDriver d := by
  induction l generalizing s with
  | nil => exact ⟨s.driver, rfl⟩
  | cons x rest ih =>
    obtain ⟨d, e⟩ := step s x
    obtain ⟨d', e'⟩ := ih (s.setDriver d)
    exact ⟨d', by rw [List.foldl_cons, e, e']; rfl⟩

theorem State.closeValve_setDriver (s : State) (v : ValveId) : ∃ d, s.closeValve v = s.setDriver d := by
  unfold State.closeValve
  split
  · exact ⟨_, rfl⟩
  · exact ⟨s.driver, rfl⟩

theorem State.closeAtVerdict_setDriver (s : State) (v : ValveId) : ∃ d, s.closeAtVerdict v = s.setDriver d := by
  unfold State.closeAtVerdict
  split
  · exact ⟨_, rfl⟩
  · exact ⟨s.driver, rfl⟩

/-- The valves closed at the end of a transaction are all that the closing changes (R97 step 1). -/
theorem State.closeAtEnd_setDriver (s : State) (t : Transaction) (o : TransactionOutcome) :
    ∃ d, s.closeAtEnd t o = s.setDriver d := by
  unfold State.closeAtEnd
  split
  · exact foldl_setDriver _ closeAtVerdict_setDriver _ s
  · exact foldl_setDriver _ closeValve_setDriver _ s

/-- There is a resource to give back exactly when the circuit holds one that the transaction holds (R68). -/
theorem State.holdsResource_iff (s : State) (c : CircuitId) (supply gallery : Bool) :
    s.holdsResource c supply gallery = true ↔
      (supply = true ∧ s.scheduler.supply = some c) ∨ (gallery = true ∧ s.scheduler.gallery = some c) := by
  simp [State.holdsResource]

theorem State.closeValve_valve_of_ne (s : State) {v u : ValveId} (h : u ≠ v) : (s.closeValve v).valve u = s.valve u := by
  unfold State.closeValve
  split
  · exact setValve_valve_of_ne _ _ h
  · rfl

theorem State.freeResources_circuit (s : State) (c d : CircuitId) (supply gallery : Bool) :
    (s.freeResources c supply gallery).circuit d = s.circuit d := rfl

theorem State.setDriver_circuit (s : State) (x : Driver) (d : CircuitId) : (s.setDriver x).circuit d = s.circuit d := rfl

theorem State.reportStall_engine (s : State) (c : CircuitId) (value : Nat) :
    (s.reportStall c value).engine = s.engine := by
  simp [State.reportStall, State.raise]

/-- Settles O42: the table by outcome, each judgement by its rows, and the end of a transaction step by step. -/
theorem outcomeTable : Obligations.OutcomeTable := by
  refine ⟨fun r t o own m few => ?table, fun s t side => ?side, fun s t => ?lift, fun s t none => ?unread,
    fun s t v read => ?tyre, fun s t => ?judge, fun c k => ?valves, fun s t o own => ?ends, fun s t o ending => ?back,
    fun s v => ?close, fun s v => ?verdict⟩
  case table =>
    refine ⟨rfl, ?_, ?_, ?_, ?_, ?_, ?_, ?_, ?_, ?_, rfl, rfl, rfl⟩
    · rintro (rfl | rfl | rfl) <;> exact ⟨rfl, rfl⟩
    · rintro (rfl | rfl) <;> exact ⟨rfl, rfl, rfl⟩
    · rintro (rfl | rfl) less <;> simp [recordAfter, endingOf, strikesAfter, show ¬3 ≤ r.strikes + 1 by omega]
    · rintro (rfl | rfl) two <;> simp [recordAfter, endingOf, two]
    · rintro rfl rfl; exact ⟨rfl, rfl⟩
    · rintro rfl rfl; exact ⟨rfl, rfl⟩
    · rintro (rfl | rfl) <;> exact ⟨rfl, rfl⟩
    · intro other
      refine if_neg fun e => other ?_
      unfold recordAfter
      rw [e]
    · intro tyre
      refine (if_pos tyre).trans ?_
      cases o <;> rfl
  case side =>
    intro h p up byHeight byPressure response use band passes weak limit
    let up' : Bool := t.kind = .sideFill
    let byHeight' := witness up' t.refHeight h s.params.p42
    let byPressure' := witness up' t.refPressure p s.params.p43
    have up_iff : up' = true ↔ up := decide_eq_true_iff
    have height_iff : byHeight' = true ↔ byHeight := by simpa only [up_iff] using witness_iff up' t.refHeight h _
    have pressure_iff : byPressure' = true ↔ byPressure := by simpa only [up_iff] using witness_iff up' t.refPressure p _
    have response_iff : (byHeight' || byPressure') = true ↔ response := by
      rw [Bool.or_eq_true, height_iff, pressure_iff]
    have passes_iff : s.passesTarget side up' = true ↔ passes := by
      have k := s.passesTarget_iff side up'
      rwa [up_iff] at k
    have weak_iff : (up' && s.weakSupply t) = true ↔ up ∧ weak := by
      rw [Bool.and_eq_true, up_iff, s.weakSupply_iff]
    let empty' : Bool := match p with
      | some x => decide (x ≤ s.params.p44)
      | none => false
    have limit_iff : (!up' && empty' && !byHeight') = true ↔ limit := by
      rw [Bool.and_eq_true, Bool.and_eq_true, Bool.not_eq_true', Bool.not_eq_true', ← Bool.not_eq_true,
        ← Bool.not_eq_true, up_iff, height_iff, atMost_iff, and_assoc, and_comm (b := ¬byHeight)]
    have unusable_iff : (!usable t.refHeight h && !usable t.refPressure p) = true ↔ ¬use := by
      rw [Bool.and_eq_true, Bool.not_eq_true', Bool.not_eq_true', ← Bool.not_eq_true, ← Bool.not_eq_true, usable_iff,
        usable_iff, not_or]
    have use_of : response → use := fun r => by
      rcases r with r | r
      · exact .inl ((usable_iff _ _).mp (usable_of_witness (height_iff.mpr r)))
      · exact .inr ((usable_iff _ _).mp (usable_of_witness (pressure_iff.mpr r)))
    have later (nl : ¬limit) (u : use) := responseRows (o := s.judgeSide t side)
      ((if_neg (mt limit_iff.mp nl)).trans (if_neg fun k => unusable_iff.mp k u))
    rw [response_iff, passes_iff, weak_iff] at later
    refine ⟨fun l => if_pos (limit_iff.mpr l), fun nl nu => (if_neg (mt limit_iff.mp nl)).trans (if_pos (unusable_iff.mpr nu)),
      fun nl r => (later nl (use_of r)).1 r, fun nl r => (later nl (use_of r)).2.1 r,
      fun nl u nr up weak => (later nl u).2.2.1 nr ⟨up, weak⟩,
      fun nl u nr n => (later nl u).2.2.2 nr (not_and_or.mpr n)⟩
  case lift =>
    intro b up response use weak limit
    let up' : Bool := t.kind = .liftFill
    let response' := witness up' t.refPressure b s.params.p43
    have up_iff : up' = true ↔ up := decide_eq_true_iff
    have response_iff : response' = true ↔ response := by simpa only [up_iff] using witness_iff up' t.refPressure b _
    have weak_iff : (up' && s.weakSupply t) = true ↔ up ∧ weak := by
      rw [Bool.and_eq_true, up_iff, s.weakSupply_iff]
    let vented' : Bool := match b with
      | some x => decide (x ≤ s.params.p83)
      | none => false
    have limit_iff : (!up' && vented' && !response') = true ↔ limit := by
      rw [Bool.and_eq_true, Bool.and_eq_true, Bool.not_eq_true', Bool.not_eq_true', ← Bool.not_eq_true,
        ← Bool.not_eq_true, up_iff, response_iff, atMost_iff, and_assoc, and_comm (b := ¬response)]
    have unusable_iff : (!usable t.refPressure b) = true ↔ ¬use := by
      rw [Bool.not_eq_true', ← Bool.not_eq_true, usable_iff]
    have use_of : response → use := fun r => (usable_iff _ _).mp (usable_of_witness (response_iff.mpr r))
    have later (nl : ¬limit) (u : use) := responseRows (passes := false) (o := s.judgeLift t)
      (((if_neg (mt limit_iff.mp nl)).trans (if_neg fun k => unusable_iff.mp k u)).trans (by rw [Bool.and_false]; rfl))
    rw [response_iff, weak_iff] at later
    exact ⟨fun l => if_pos (limit_iff.mpr l),
      fun nl nu => (if_neg (mt limit_iff.mp nl)).trans (if_pos (unusable_iff.mpr nu)),
      fun nl r => (later nl (use_of r)).2.1 r (by decide),
      fun nl u nr up weak => (later nl u).2.2.1 nr ⟨up, weak⟩,
      fun nl u nr n => (later nl u).2.2.2 nr (not_and_or.mpr n)⟩
  case unread => rw [State.judgeTyre, none]
  case tyre =>
    intro fill response beyond weak
    let fill' : Bool := t.kind = .inflate
    have fill_iff : fill' = true ↔ fill := decide_eq_true_iff
    have response_iff : witness fill' t.refMeasured (some v) s.params.p73 = true ↔ response := by
      rw [witness_iff, fill_iff]
      exact ⟨fun ⟨a, b, ha, hb, k⟩ => ⟨a, ha, by cases hb; exact k⟩, fun ⟨a, ha, k⟩ => ⟨a, v, ha, rfl, k⟩⟩
    have beyond_iff : s.beyondTarget t v = true ↔ beyond := s.beyondTarget_iff t v
    have weak_iff : (fill' && s.weakSupply t) = true ↔ fill ∧ weak := by
      rw [Bool.and_eq_true, fill_iff, s.weakSupply_iff]
    have judged : s.judgeTyre t = if v < s.params.p74 then .strike else if t.kind = .probe then .effective
        else if witness fill' t.refMeasured (some v) s.params.p73 && s.beyondTarget t v then .overshoot
        else if witness fill' t.refMeasured (some v) s.params.p73 then .effective
        else if fill' && s.weakSupply t then .noResponse else .strike := by
      rw [State.judgeTyre, read]
    have later (enough : s.params.p74 ≤ v) (np : t.kind ≠ .probe) := responseRows
      ((judged.trans (if_neg (Nat.not_lt.mpr enough))).trans (if_neg np))
    rw [response_iff, beyond_iff, weak_iff] at later
    exact ⟨fun low => judged.trans (if_pos low),
      fun enough p => (judged.trans (if_neg (Nat.not_lt.mpr enough))).trans (if_pos p),
      fun enough np r => (later enough np).1 r, fun enough np r => (later enough np).2.1 r,
      fun enough np nr f w => (later enough np).2.2.1 nr ⟨f, w⟩,
      fun enough np nr n => (later enough np).2.2.2 nr (not_and_or.mpr n)⟩
  case judge =>
    refine ⟨fun side e => ?_, fun e => ?_, fun w e => ?_⟩
    · rw [State.judge, e, circuitSide_sideCircuit]
    · rw [State.judge, e, circuitSide_liftCircuit, circuitTyre_liftCircuit]
    · rw [State.judge, e, circuitSide_tyreCircuit, circuitTyre_tyreCircuit]
  case valves =>
    refine ⟨rfl, rfl, rfl, rfl, rfl, rfl, ?_, ?_⟩
    · rintro (rfl | rfl) <;> rfl
    · rintro (rfl | rfl) <;> rfl
  case ends =>
    obtain ⟨d, closed⟩ := s.closeAtEnd_setDriver t o
    unfold State.closeAtEnd State.closeAll at closed
    unfold State.endTransaction State.closeAtEnd State.closeAll
    dsimp only
    rw [closed]
    simp only [holdsResource_iff, freeResources_circuit, setDriver_circuit]
    generalize endingOf o (s.circuit t.circuit).strikes own = ending
    cases ending with
    | idle => rfl
    | holdoff => rfl
    | stalled value => dsimp only; rw [reportStall_engine]; rfl
  case back =>
    refine ⟨fun side e => ⟨fun idle limit => ?_, fun idle other => ?_, fun busy => ?_⟩, fun w e => ?_,
      fun e => ⟨fun idle => ?_, fun holdoff => ?_, fun value stalled => ?_⟩⟩
    · unfold State.handBack; rw [e, circuitSide_sideCircuit]
      exact (if_pos idle).trans (if_pos limit)
    · unfold State.handBack; rw [e, circuitSide_sideCircuit]
      exact (if_pos idle).trans (if_neg other)
    · unfold State.handBack; rw [e, circuitSide_sideCircuit]
      exact if_neg busy
    · unfold State.handBack; rw [e, circuitSide_tyreCircuit, circuitTyre_tyreCircuit]
    · unfold State.handBack; rw [e, circuitSide_liftCircuit, circuitTyre_liftCircuit, idle]
    · unfold State.handBack; rw [e, circuitSide_liftCircuit, circuitTyre_liftCircuit, holdoff]
    · unfold State.handBack; rw [e, circuitSide_liftCircuit, circuitTyre_liftCircuit, stalled]
  case close =>
    exact ⟨s.closeValve_isOpen v, fun u => s.closeValve_valve_of_ne,
      fun o => by rw [closeValve_of_open o, setValve_valve], closeValve_of_closed⟩
  case verdict =>
    refine ⟨fun shut => if_neg (by simp [shut]), fun o run => ?_, fun o run => ?_⟩
    · rw [State.closeAtVerdict, if_pos o, (s.checkDue_iff v).mpr run]
    · rw [State.closeAtVerdict, if_pos o, Bool.eq_false_iff.mpr (mt (s.checkDue_iff v).mp run)]

end Sys2Proof.Machine
end

section
/-! CIRCUIT RESUME, SURVEY and the probe interval (O50), with the completion of a request that its owner refuses. -/

namespace Sys2Proof.Machine

open State

/-- A request its owner refuses without an act: REQUEST_REFUSED is noted and the reply carries the reason (R153). -/
theorem request_refused {s : State} (h : s.Ready) {k : Kind} {body : List Byte} {r : Request} {reason : Reason}
    (tag : Byte) (served : s.supervisor.control = .starting → k.servedStarting = true)
    (read : readBody isParam k body = .ok r) (answered : s.heard.answer r = (.refused reason, s.heard)) :
    request k tag body s = s.refusedWith k tag reason := by
  have quiet : s.heard.deferred = [] := h.2.2.2
  rw [request_of_ready h, judgeAndCarryOut_of_read served read, answered]
  simp only [State.settle_of_nil quiet, State.noteRefusal, logEvent_link_restartPending]
  rw [if_neg (by simp [State.heard, h.2.1]), State.settle_of_nil (by simpa using quiet)]
  rfl

/-- An identifier of a circuit names it (R1). -/
theorem circuitOf_of_toNat {id : Byte} {c : CircuitId} (h : id.toNat = c.val) : circuitOf id = some c := by
  have lt : id.toNat < 15 := h ▸ c.isLt
  exact (dif_pos lt).trans (congrArg some (Fin.ext h))

theorem circuitOf_of_gt {id : Byte} (h : 14 < id.toNat) : circuitOf id = none := dif_neg (by omega)

/-! ### RESUME -/

section
variable {s : State} {id : Byte} {c : CircuitId}

/-- The owner's answers to RESUME of the circuit `c`, by the state it meets (R9). -/
theorem State.answerResume_of_absent (e : id.toNat = c.val) (h : (s.circuit c).state = .absent) :
    s.answerResume id = (.refused .noSuchCircuit, s) := by
  rw [State.answerResume, circuitOf_of_toNat e]
  dsimp only
  rw [h]

theorem State.answerResume_of_active (e : id.toNat = c.val) (h : (s.circuit c).state = .active) :
    s.answerResume id = (.refused .busy, s) := by
  rw [State.answerResume, circuitOf_of_toNat e]
  dsimp only
  rw [h]

theorem State.answerResume_of_other (e : id.toNat = c.val) (absent : (s.circuit c).state ≠ .absent)
    (active : (s.circuit c).state ≠ .active) : s.answerResume id = (.done [], s.resumeCircuit c) := by
  rw [State.answerResume, circuitOf_of_toNat e]
  dsimp only
  split
  · exact absurd ‹_› absent
  · exact absurd ‹_› active
  · rfl

end

/-- RESUME taken: it is answered DONE with the resume of the circuit (R9, R136). -/
theorem exec_circuitResume_taken {s : State} (h : s.Serving) {tag id : Byte} {c : CircuitId} (e : id.toNat = c.val)
    (absent : (s.circuit c).state ≠ .absent) (active : (s.circuit c).state ≠ .active) :
    exec (.circuitResume tag id) s = (s.heard.resumeCircuit c).completed .circuit tag (.done []) := by
  obtain ⟨ready, running⟩ := h
  exact request_taken ready tag (fun k => absurd k running) rfl (answerResume_of_other (s := s.heard) e absent active)
    (fun _ k => by cases k)
    (AirClosed.settle_closed noRestart_closed.toAirClosed
      (CoreClosed.resumeCircuit_closed noRestart_closed.toCoreClosed c ready.2.1))

/-- From IDLE, WAITING or HOLDOFF a resume has no effect (R9). -/
theorem State.resumeCircuit_of_working {s : State} {c : CircuitId}
    (h : (s.circuit c).state = .idle ∨ (s.circuit c).state = .waiting ∨ (s.circuit c).state = .holdoff) :
    s.resumeCircuit c = s := by
  unfold State.resumeCircuit
  rcases h with h | h | h <;> rw [h]

theorem State.resumeCircuit_of_stalled {s : State} {c : CircuitId} (h : (s.circuit c).state = .stalled) :
    s.resumeCircuit c = s.resumeStalled c := by
  unfold State.resumeCircuit
  rw [h]

theorem State.resumeCircuit_of_isolated {s : State} {t : TyreId} (h : (s.circuit (tyreCircuit t)).state = .isolated) :
    s.resumeCircuit (tyreCircuit t) = s.resumeIsolated t := by
  unfold State.resumeCircuit
  rw [h, circuitTyre_tyreCircuit]

/-! ### Probe due -/

theorem State.tellResumed_tyre (s : State) (t : TyreId) : s.tellResumed (tyreCircuit t) = s.setProbeDue t := by
  unfold State.tellResumed
  rw [circuitTyre_tyreCircuit]

theorem tyreCircuit_injective {t u : TyreId} (h : tyreCircuit t = tyreCircuit u) : t = u :=
  Option.some.inj (by rw [← circuitTyre_tyreCircuit t, ← circuitTyre_tyreCircuit u, h])

theorem State.setProbeDue_circuit_of_ne (s : State) {t : TyreId} {c : CircuitId} (h : c ≠ tyreCircuit t) :
    (s.setProbeDue t).circuit c = s.circuit c := setCircuit_circuit_of_ne _ _ h

theorem State.foldl_setProbeDue_of_not_mem (s : State) {ts : List TyreId} {c : CircuitId}
    (h : ∀ t ∈ ts, c ≠ tyreCircuit t) : (ts.foldl setProbeDue s).circuit c = s.circuit c := by
  induction ts generalizing s with
  | nil => rfl
  | cons t rest ih =>
    rw [List.foldl_cons, ih _ fun u m => h u (List.mem_cons_of_mem _ m),
      setProbeDue_circuit_of_ne _ (h t List.mem_cons_self)]

theorem State.foldl_setProbeDue_of_mem (s : State) {ts : List TyreId} {t : TyreId} (h : t ∈ ts) :
    (ts.foldl setProbeDue s).circuit (tyreCircuit t) = { s.circuit (tyreCircuit t) with probeDue := true } := by
  induction ts generalizing s with
  | nil => cases h
  | cons u rest ih =>
    rw [List.foldl_cons]
    have once : ({ (s.setProbeDue u).circuit (tyreCircuit t) with probeDue := true } : CircuitRecord) =
        { s.circuit (tyreCircuit t) with probeDue := true } := by
      by_cases e : t = u
      · rw [e, State.setProbeDue, setCircuit_circuit]
      · rw [setProbeDue_circuit_of_ne _ (mt tyreCircuit_injective e)]
    by_cases m : t ∈ rest
    · rw [ih _ m, once]
    · have e : t = u := (List.mem_cons.mp h).resolve_right m
      rw [foldl_setProbeDue_of_not_mem _ fun w k f => m (by rwa [tyreCircuit_injective f]), e, State.setProbeDue,
        setCircuit_circuit]

/-- The tyres SURVEY concerns (R138). -/
theorem State.tyresToSurvey_eq (s : State) : s.tyresToSurvey = allTyres.filter fun t =>
    let r := s.circuit (tyreCircuit t)
    decide (r.state ≠ .absent ∧ r.state ≠ .stalled ∧ r.state ≠ .isolated ∧ r.probeDue = false) :=
  List.filter_congr fun t _ => by simp [Bool.and_assoc]

/-- The measured age of a tyre exceeds its interval in force, in a state in which that counts (R128). -/
theorem State.intervalExpired_of {s : State} {t : TyreId} {m p : Nat}
    (state : (s.circuit (tyreCircuit t)).state = .idle ∨ (s.circuit (tyreCircuit t)).state = .waiting ∨
      (s.circuit (tyreCircuit t)).state = .holdoff ∨ (s.circuit (tyreCircuit t)).state = .active)
    (due : (s.circuit (tyreCircuit t)).probeDue = false) (measured : (s.circuit (tyreCircuit t)).measured = some p)
    (mark : (s.circuit (tyreCircuit t)).readMark = some m) (age : s.interval t * 1000 < s.now - m) :
    s.intervalExpired t = true := by
  unfold State.intervalExpired
  simp [due, measured, mark, or_assoc, state, State.since, age]

/-- Settles O50: each request by the state it meets, and probe due record by record. -/
theorem resumeAndSurvey : Obligations.ResumeAndSurvey := by
  refine ⟨fun tag id s h big => ?beyond, fun tag id c s h e => ?resume, fun tag s h => ?survey,
    fun s t m p state due measured mark age => ?interval, fun s t => ⟨rfl, s.tellResumed_tyre t⟩,
    fun s => ⟨rfl, clear_isActive_same s _, setConditions_events_queue s _⟩, fun s side => ?side, fun s ts c => ?marks⟩
  case beyond =>
    refine request_refused h.1 tag (fun k => absurd k h.2) rfl ?_
    show s.heard.answerResume id = _
    rw [State.answerResume, circuitOf_of_gt big]
  case resume =>
    refine ⟨fun absent => ?_, fun active => ?_, fun working => ?_, fun stalled => ?_, fun t own isolated => ?_⟩
    · exact request_refused h.1 tag (fun k => absurd k h.2) rfl (answerResume_of_absent (s := s.heard) e absent)
    · exact request_refused h.1 tag (fun k => absurd k h.2) rfl (answerResume_of_active (s := s.heard) e active)
    · rw [exec_circuitResume_taken h e (by rintro k; simp [k] at working) (by rintro k; simp [k] at working),
        resumeCircuit_of_working (by exact working)]
      exact completed_of_nil (t := s.heard) h.1.2.2.2 _ _ _
    · rw [exec_circuitResume_taken h e (by rw [stalled]; decide) (by rw [stalled]; decide),
        resumeCircuit_of_stalled (by exact stalled)]
      rfl
    · subst own
      rw [exec_circuitResume_taken h e (by rw [isolated]; decide) (by rw [isolated]; decide),
        resumeCircuit_of_isolated (by exact isolated)]
      rfl
  case survey =>
    dsimp only
    rw [← State.tyresToSurvey_eq s]
    exact request_taken h.1 tag (fun k => absurd k h.2) rfl rfl (fun _ k => by cases k)
      (AirClosed.settle_closed noRestart_closed.toAirClosed
        (CoreClosed.answerSurvey_closed noRestart_closed.toCoreClosed h.1.2.1))
  case interval =>
    exact congrArg finish (if_pos (intervalExpired_of state due measured mark age))
  case side => cases side <;> rfl
  case marks =>
    refine ⟨?_, foldl_setProbeDue_of_not_mem s⟩
    rintro ⟨t, m, rfl⟩
    exact foldl_setProbeDue_of_mem s m

end Sys2Proof.Machine
end

section
/-! The departure from RUNNING brings the air to rest, and the supply and reserve states (O53). -/

namespace Sys2Proof.Machine

open State

/-! ### What is kept through a departure from RUNNING -/

theorem AirClosed.emptyDemands_closed {P : State → Prop} {s : State} (h : AirClosed P) (hs : P s) : P s.emptyDemands := by
  refine foldl_closed _ (fun t c k => ?_) _ (h.clearDemands hs)
  unfold State.idleCircuit
  dsimp only
  split
  · exact h.setCircuit _ _ (Nat.le_max_right _ _) k
  · exact k

/-- A departure from RUNNING keeps, from the change of the control state on, what the air control keeps (R145). -/
theorem AirClosed.leaveRunning_from {P : State → Prop} {s : State} (h : AirClosed P) (c : ControlState)
    (hs : P (s.setControl c)) : P (s.leaveRunning c) :=
  AirClosed.testDwell_closed h (AirClosed.closeAll_closed h _ (AirClosed.emptyDemands_closed h
    (AirClosed.abortAll_closed h (AirClosed.holdVenting_closed h hs))))

/-- An entry into RUNNING keeps, from the change of the control state on, what the air control keeps (R146). -/
theorem AirClosed.enterRunning_from {P : State → Prop} {s : State} (h : AirClosed P)
    (hs : P (s.setControl .running)) : P s.enterRunning := by
  refine foldl_closed _ (fun t c k => ?_) _ (AirClosed.testDwell_closed h (AirClosed.pass_closed h hs))
  unfold State.evaluatePresent
  split
  · exact AirClosed.evaluateCircuit_closed h c k
  · exact k

/-- The air control leaves the Supervisor alone. -/
theorem supervisor_airClosed (x : Supervisor) : AirClosed fun s => s.supervisor = x := by
  constructor
  case logEvent => exact fun k sev c v h => (logEvent_supervisor ..).trans h
  case setConditions => exact fun conds h => (setConditions_supervisor ..).trans h
  all_goals
    intros
    assumption

theorem State.enterRunning_supervisor (s : State) :
    s.enterRunning.supervisor = { s.supervisor with control := .running } := by
  have closed := supervisor_airClosed { s.supervisor with control := .running }
  exact closed.enterRunning_from (s := s) rfl

theorem State.leaveRunning_supervisor (s : State) (c : ControlState) :
    (s.leaveRunning c).supervisor = { s.supervisor with control := c } := by
  have closed := supervisor_airClosed { s.supervisor with control := c }
  exact closed.leaveRunning_from (s := s) c rfl

/-! ### The air at rest -/

/-- The unit is not RUNNING, and only circuits of the list have a transaction in flight. -/
def State.RunsOnly (L : List CircuitId) (s : State) : Prop :=
  s.isRunning = false ∧ ∀ t ∈ s.engine, t.circuit ∈ L

/-- While not RUNNING no circuit gets a transaction (R74). -/
theorem runsOnly_airClosed (L : List CircuitId) : AirClosed (State.RunsOnly L) := by
  have same {s t : State} (h : s.RunsOnly L) (sup : t.supervisor = s.supervisor) (eng : t.engine = s.engine) :
      t.RunsOnly L := by
    unfold State.RunsOnly State.isRunning
    rw [sup, eng]
    exact h
  constructor
  case addTransaction => exact fun t run _ h => absurd (h.1.symm.trans run) (by decide)
  case setTransaction =>
    intro s t h
    refine ⟨h.1, fun u m => ?_⟩
    obtain ⟨w, mem, rfl⟩ := List.mem_map.mp m
    split
    · rename_i e
      rw [← e]
      exact h.2 w mem
    · exact h.2 w mem
  case dropTransaction => exact fun c h => ⟨h.1, fun u m => h.2 u (List.mem_filter.mp m).1⟩
  case logEvent => exact fun k sev c v h => same h (logEvent_supervisor ..) (logEvent_engine ..)
  case setConditions => exact fun x h => same h (setConditions_supervisor ..) (setConditions_engine ..)
  all_goals
    intros
    exact same (by assumption) rfl rfl

/-- The end of a transaction keeps what the air control keeps; what holds once its slot is free holds at its end. -/
theorem AirClosed.endTransaction_drops {P Q : State → Prop} {s : State} (hP : AirClosed P) (hQ : AirClosed Q)
    (t : Transaction) (drop : ∀ {u : State}, P u → Q (u.setEngine (u.engine.filter fun x => x.circuit ≠ t.circuit)))
    (o : TransactionOutcome) (b : Bool) (hs : P s) : Q (s.endTransaction t o b) := by
  unfold State.endTransaction
  extract_lets s1 released s2 ending s3 s4 s5 s6
  have k2 : P s2 := hP.freeResources _ _ _ (AirClosed.closeAtEnd_closed hP _ _ hs)
  have k3 : P s3 := hP.setCircuit t.circuit _ (AirClosed.recordAfter_strikes _ t o b (s.now + s.params.p45)) k2
  have k4 : P s4 := by
    show P (match ending with | .stalled value => s3.reportStall t.circuit value | _ => s3)
    cases ending with
    | stalled value => exact AirClosed.reportStall_closed hP _ _ k3
    | idle => exact k3
    | holdoff => exact k3
  have k6 : Q s6 := by
    show Q (if released = true then s5.pass else s5)
    split
    · exact AirClosed.pass_closed hQ (drop k4)
    · exact drop k4
  exact AirClosed.handBack_closed hQ _ _ _ k6

/-- A transaction ended while not RUNNING leaves only those of the other circuits. -/
theorem State.RunsOnly.endTransaction {s : State} {t : Transaction} {L : List CircuitId}
    (h : s.RunsOnly (t.circuit :: L)) (o : TransactionOutcome) (b : Bool) : (s.endTransaction t o b).RunsOnly L :=
  AirClosed.endTransaction_drops (runsOnly_airClosed _) (runsOnly_airClosed L) t
    (fun {u} k => ⟨k.1, fun x m => by
      obtain ⟨mem, ne⟩ := List.mem_filter.mp m
      exact (List.mem_cons.mp (k.2 x mem)).resolve_left (by simpa using ne)⟩) o b h

/-- With every transaction ended in turn, while not RUNNING, none is left (R101). -/
theorem State.RunsOnly.abort {s : State} {l : List Transaction} (h : s.RunsOnly (l.map Transaction.circuit)) :
    (l.foldl (fun s t => s.endTransaction t .aborted false) s).RunsOnly [] := by
  induction l generalizing s with
  | nil => exact h
  | cons t rest ih => exact ih (h.endTransaction .aborted false)

/-- The unit is not RUNNING, no demand waits, no transaction is in flight, and the valves of the list are CLOSED. -/
def State.RestOn (vs : List ValveId) (s : State) : Prop :=
  s.isRunning = false ∧ s.scheduler.demands = [] ∧ s.engine = [] ∧ ∀ v ∈ vs, (s.valve v).isOpen = false

/-- While not RUNNING and without a transaction the air control starts nothing: no demand joins, no valve is opened. -/
theorem restOn_airClosed (vs : List ValveId) : AirClosed (State.RestOn vs) := by
  have same {s t : State} (h : s.RestOn vs) (sup : t.supervisor = s.supervisor)
      (sched : t.scheduler.demands = s.scheduler.demands) (eng : t.engine = s.engine)
      (valves : t.driver.valves = s.driver.valves) : t.RestOn vs := by
    unfold State.RestOn State.isRunning State.valve
    rw [sup, sched, eng, valves]
    exact h
  constructor
  case addTransaction => exact fun t run _ h => absurd (h.1.symm.trans run) (by decide)
  case insertDemand => exact fun d run h => absurd (h.1.symm.trans run) (by decide)
  case raiseDemand => exact fun d cls c on h => by simp [State.demandOf, h.2.1] at on
  case removeDemand => exact fun c h => ⟨h.1, by simp [State.removeDemand, State.setDemands, h.2.1], h.2.2⟩
  case setReason => exact fun c r h => ⟨h.1, by simp [State.setReason, State.setDemands, h.2.1], h.2.2⟩
  case clearDemands => exact fun h => ⟨h.1, rfl, h.2.2⟩
  case setTransaction => exact fun t h => ⟨h.1, h.2.1, by simp [State.setTransaction, h.2.2.1], h.2.2.2⟩
  case dropTransaction => exact fun c h => ⟨h.1, h.2.1, by simp [h.2.2.1], h.2.2.2⟩
  case openValve =>
    intro s c v may _ _ h
    rw [mayOpen_of_none (by simp [State.transactionOn, h.2.2.1])] at may
    cases may
  case setValve =>
    intro s v x opens _ h
    refine ⟨h.1, h.2.1, h.2.2.1, fun w m => Bool.eq_false_iff.mpr fun k => ?_⟩
    have := opensNone_setValve opens w k
    rw [h.2.2.2 w m] at this
    cases this
  case logEvent =>
    exact fun k sev c v h => same h (logEvent_supervisor ..) (by rw [logEvent_scheduler]) (logEvent_engine ..)
      (by rw [logEvent_driver])
  case setConditions =>
    exact fun x h => same h (setConditions_supervisor ..) (by rw [setConditions_scheduler]) (setConditions_engine ..)
      (setConditions_driver_valves ..)
  all_goals
    intros
    exact same (by assumption) rfl rfl rfl rfl

/-- A valve closed joins those that are CLOSED. -/
theorem State.RestOn.closeValve {s : State} {vs : List ValveId} (h : s.RestOn vs) (v : ValveId) :
    (s.closeValve v).RestOn (v :: vs) := by
  obtain ⟨stopped, demands, engine, closed⟩ := AirClosed.closeValve_closed (restOn_airClosed vs) v h
  refine ⟨stopped, demands, engine, fun w m => ?_⟩
  rcases List.mem_cons.mp m with rfl | m
  · exact closeValve_isOpen s w
  · exact closed w m

theorem State.RestOn.closeAll {s : State} {vs : List ValveId} (h : s.RestOn vs) (ws : List ValveId) :
    (s.closeAll ws).RestOn (ws.reverse ++ vs) := by
  induction ws generalizing s vs with
  | nil => exact h
  | cons w rest ih => simpa [State.closeAll] using ih (h.closeValve w)

/-- With every output but the isolation valve's CLOSED the air is at rest. -/
theorem State.RestOn.airAtRest {s : State} {vs : List ValveId} (h : s.RestOn vs)
    (all : ∀ v : ValveId, v ≠ isolationValve → v ∈ vs) : s.AirAtRest := by
  obtain ⟨_, demands, engine, closed⟩ := h
  exact ⟨demands, engine, fun v n => closed v (all v n)⟩

/-- A departure from RUNNING brings the air to rest (R145). -/
theorem State.leaveRunning_atRest (s : State) {c : ControlState} (h : c ≠ .running) : (s.leaveRunning c).AirAtRest := by
  have stopped : (s.setControl c).isRunning = false := decide_eq_false h
  have aborted : (s.setControl c).holdVenting.abortAll.RunsOnly [] := by
    have before : (s.setControl c).holdVenting.RunsOnly
        ((s.setControl c).holdVenting.engine.map Transaction.circuit) :=
      ⟨AirClosed.holdVenting_closed UnitClosed.notRunning_closed.toAirClosed stopped, fun t m => List.mem_map_of_mem m⟩
    exact before.abort
  have emptied : (s.setControl c).holdVenting.abortAll.emptyDemands.RestOn [] := by
    refine foldl_closed (P := State.RestOn []) _ (fun t d k => ?_) _
      (s := (s.setControl c).holdVenting.abortAll.setDemands [])
      ⟨aborted.1, rfl, List.eq_nil_iff_forall_not_mem.mpr fun t m => (nomatch aborted.2 t m), fun v m => nomatch m⟩
    unfold State.idleCircuit
    dsimp only
    split
    · exact (restOn_airClosed []).setCircuit _ _ (Nat.le_max_right _ _) k
    · exact k
  exact (AirClosed.testDwell_closed (restOn_airClosed _) (emptied.closeAll switchedValves)).airAtRest (by decide)

end Sys2Proof.Machine
end

section
/-! The reserve state, the valve supply state and what their changes do (O53). -/

namespace Sys2Proof.Machine

open State

/-! ### Readings -/

/-- The value of a supply event: that of channel 7, or -1 (R143). -/
theorem State.supplyValue_eq (s : State) : s.supplyValue = ((s.validValue 7).map Int.ofNat).getD (-1) := by
  unfold State.supplyValue
  cases s.validValue 7 <;> rfl

/-- The value of a reserve event: that of channel 0, or -1 (R141). -/
theorem State.reserveValue_eq (s : State) : s.reserveValue = ((s.validValue 0).map Int.ofNat).getD (-1) := by
  unfold State.reserveValue
  cases s.validValue 0 <;> rfl

theorem State.setSupervisor_supplyValue (s : State) (x : Supervisor) :
    (s.setSupervisor x).supplyValue = ((s.validValue 7).map Int.ofNat).getD (-1) := s.supplyValue_eq

theorem State.setSupervisor_reserveValue (s : State) (x : Supervisor) :
    (s.setSupervisor x).reserveValue = ((s.validValue 0).map Int.ofNat).getD (-1) := s.reserveValue_eq

/-! ### The valve supply -/

/-- A judged entry into LOW_SUPPLY up to the departure from RUNNING (R143): the Supervisor's items, the condition and
event, the pulse held. -/
def State.toLowSupply (s : State) : State :=
  (((s.setSupervisor { s.supervisor with
    lowSupply := true, supplyJudged := true, reasonSupply := true, restoreSince := none }).raise .supplyLow
      .critical).logEvent .supplyLow .critical none (some (((s.validValue 7).map Int.ofNat).getD (-1)))).holdPulse

theorem State.toLowSupply_supervisor (s : State) : s.toLowSupply.supervisor = { s.supervisor with
    lowSupply := true, supplyJudged := true, reasonSupply := true, restoreSince := none } := by
  have closed := supervisor_airClosed { s.supervisor with
    lowSupply := true, supplyJudged := true, reasonSupply := true, restoreSince := none }
  exact closed.holdPulse_closed (closed.logEvent _ _ _ _ (closed.raise_closed _ _ rfl))

theorem State.enterLowSupply_eq (s : State) : s.enterLowSupply =
    if s.supervisor.control = .running then s.toLowSupply.leaveRunning .suspended else s.toLowSupply := by
  have low : s.enterLowSupply =
      if s.toLowSupply.isRunning then s.toLowSupply.leaveRunning .suspended else s.toLowSupply := by
    unfold State.enterLowSupply State.toLowSupply
    dsimp only
    rw [setSupervisor_supplyValue]
  rw [low]
  simp only [State.isRunning, toLowSupply_supervisor, decide_eq_true_eq]

/-- What the return of the valve supply does before the control state moves (R143). -/
def State.supplyUp (s : State) : State :=
  ((((s.setSupervisor { s.supervisor with lowSupply := false, restoreSince := none, reasonSupply := false }).clear
    .supplyLow).logEvent .supplyRestored .advisory none
      (some (((s.validValue 7).map Int.ofNat).getD (-1))))).resumePulse

theorem State.supplyUp_airClosed (s : State) {P : State → Prop} (h : AirClosed P)
    (hs : P (s.setSupervisor { s.supervisor with lowSupply := false, restoreSince := none, reasonSupply := false })) :
    P s.supplyUp :=
  h.resumePulse_closed (h.logEvent _ _ _ _ (h.clear_closed _ hs))

theorem State.supplyUp_supervisor (s : State) : s.supplyUp.supervisor =
    { s.supervisor with lowSupply := false, restoreSince := none, reasonSupply := false } :=
  s.supplyUp_airClosed (supervisor_airClosed _) rfl

theorem State.supplyUp_reloadRunning (s : State) : s.supplyUp.reloadRunning = s.reloadRunning := by
  have frame := s.supplyUp_airClosed (airFrame_closed _) (.refl _)
  unfold State.reloadRunning
  rw [frame.startUp]
  rfl

/-- The return of the valve supply: a unit SUSPENDED by it alone, with no reload running, runs again (R143). -/
theorem State.restoreSupply_eq (s : State) : s.restoreSupply =
    if s.supervisor.control = .suspended ∧ s.supervisor.reasonCab = false ∧ s.reloadRunning = false then
      s.supplyUp.enterRunning else s.supplyUp := by
  have up : s.restoreSupply = if s.supplyUp.supervisor.control = .suspended ∧ !s.supplyUp.supervisor.reasonCab ∧
      !s.supplyUp.reloadRunning then s.supplyUp.enterRunning else s.supplyUp := by
    unfold State.restoreSupply State.supplyUp
    dsimp only
    rw [setSupervisor_supplyValue]
  rw [up, supplyUp_supervisor, supplyUp_reloadRunning]
  simp only [Bool.not_eq_true']

theorem State.restoreSupply_supervisor (s : State) : s.restoreSupply.supervisor = { s.supervisor with
    lowSupply := false, restoreSince := none, reasonSupply := false
    control := if s.supervisor.control = .suspended ∧ s.supervisor.reasonCab = false ∧ s.reloadRunning = false
      then .running else s.supervisor.control } := by
  rw [restoreSupply_eq]
  split
  · rw [enterRunning_supervisor, supplyUp_supervisor]
  · rw [supplyUp_supervisor]

theorem State.settle_supervisor (s : State) : s.settle.supervisor = s.supervisor :=
  (supervisor_airClosed s.supervisor).settle_closed rfl

/-- SUPPLY_RESTORED in its time, 1 s after restore since (R142). -/
theorem exec_supplyRestored_of_due {s : State} {m : Nat} (low : s.supervisor.lowSupply = true)
    (since : s.supervisor.restoreSince = some m) (due : m + 1000 ≤ s.now) :
    exec .supplyRestored s = finish s.restoreSupply := by
  have now : s.supplySteadyDue = true := by
    simpa [State.supplySteadyDue, low, since, State.reached, Fixed.supplySteady] using due
  exact congrArg finish (if_pos now)

theorem exec_supplyRestored_of_early {s : State} {m : Nat} (since : s.supervisor.restoreSince = some m)
    (early : s.now < m + 1000) (quiet : s.deferred = []) : exec .supplyRestored s = .next s := by
  have notYet : ¬ s.supplySteadyDue = true := by
    simp [State.supplySteadyDue, since, State.reached, Fixed.supplySteady, early]
  exact (congrArg finish (if_neg notYet)).trans (finish_of_nil quiet)

/-! ### The reserve -/

/-- A change of the reserve state: it is reported, then it runs a pass, or cuts and tests (R141, R98, R133). -/
theorem State.changeReserve_eq (s : State) (new : ReserveState) (first : Bool) : s.changeReserve new first =
    (let t := (s.setSupervisor { s.supervisor with reserve := new, reserveJudged := true }).reportReserve
      s.supervisor.reserve new first
     if new = .normal then t.pass else ((t.closeValve supplyValve).reserveCut).testIsolations) := rfl

/-- A fill pulse of the SUPPLY holder is cut, and nothing else (R98). -/
theorem State.reserveCut_of_holder {s : State} {c : CircuitId} {t : Transaction} (holder : s.scheduler.supply = some c)
    (on : s.transactionOn c = some t) :
    s.reserveCut = if t.inFillPulse = true then s.endTransaction t .reserveCut false else s := by
  unfold State.reserveCut
  rw [holder, Option.bind_some, on]

/-! ### A reservoir reading -/

theorem isGood_iff (raw : RawReading) : isGood raw = true ↔ 123 ≤ raw.toNat ∧ raw.toNat ≤ 3972 := by
  rw [isGood, Bool.and_eq_true, decide_eq_true_iff, decide_eq_true_iff]
  rfl

/-- A good reading of a VALID reservoir channel is handed on as the new filtered value (R29, R36). -/
theorem State.goodReading_of_valid_reservoir {s : State} (valid : (s.channel 0).status = .valid) (raw : RawReading) :
    s.goodReading 0 raw = (s.setChannel 0 (s.channelAfterGood 0 raw)).handCurrent 0 := by
  have unwatched : s.offerReading 0 raw = s := rfl
  have stays : (s.channelAfterGood 0 raw).status = .valid := by
    simp [State.channelAfterGood, valid, statusAfterGood]
  unfold State.goodReading
  dsimp only
  rw [unwatched, setChannel_channel, stays, valid, if_pos rfl]

/-- After a good reading of a VALID channel its filtered value is present (R27). -/
theorem State.validValue_after_good {s : State} (valid : (s.channel 0).status = .valid) (raw : RawReading) :
    (s.setChannel 0 (s.channelAfterGood 0 raw)).validValue 0 ≠ none := by
  simp [State.validValue, State.isValid, State.channelAfterGood, valid, statusAfterGood, State.filter, meanOf,
    historyCapacity, State.window]

/-- Settles O53: the tables by their rows, and each change as one act. -/
theorem supplyAndReserve : Obligations.SupplyAndReserve := by
  refine ⟨fun p r => ?table, fun s m low since due => ?restored, fun s m since early quiet => ?early, fun s v => ?judged,
    fun s => ?failed, fun s => ?entered, fun s => ?held, fun s => ?resumed, fun s r => ?reserve,
    fun s raw valid low high => ?reading, fun s => ?reserveFailed, fun s first => ?changed, fun s => rfl, fun s => ?cut,
    fun s m low since due => ?whole⟩
  case table =>
    refine ⟨fun h => ⟨if_pos h, if_pos h⟩, fun a b => (if_neg (Nat.not_lt.mpr a)).trans (if_pos b),
      fun a b => (if_neg (Nat.not_lt.mpr a)).trans (if_neg (Nat.not_lt.mpr b)),
      fun a b => (if_neg (Nat.not_lt.mpr a)).trans (if_pos b),
      fun a b => (if_neg (Nat.not_lt.mpr a)).trans (if_neg (Nat.not_le.mpr b)), fun a => if_pos a,
      fun a b => (if_neg (Nat.not_le.mpr b)).trans (if_pos a),
      fun a b => (if_neg (Nat.not_le.mpr b)).trans (if_neg (Nat.not_le.mpr a)), rfl⟩
  case restored =>
    exact ⟨_, exec_supplyRestored_of_due low since due, (settle_supervisor _).trans s.restoreSupply_supervisor⟩
  case early => exact exec_supplyRestored_of_early since early quiet
  case judged =>
    have isJudged (h : s.supervisor.supplyJudged = true) : ¬(!s.supervisor.supplyJudged) = true := by simp [h]
    have isLow (h : s.supervisor.lowSupply = true) : ¬(!s.supervisor.lowSupply) = true := by simp [h]
    refine ⟨fun first up => (if_pos (by rw [first]; rfl)).trans (if_pos up),
      fun first down => (if_pos (by rw [first]; rfl)).trans (if_neg (Nat.not_le.mpr down)),
      fun judged up => ⟨fun down => ((if_neg (isJudged judged)).trans (if_pos (by rw [up]; rfl))).trans (if_pos down),
        fun stays => ((if_neg (isJudged judged)).trans (if_pos (by rw [up]; rfl))).trans
          (if_neg (Nat.not_lt.mpr stays))⟩,
      fun judged low => ⟨fun down => ((if_neg (isJudged judged)).trans (if_neg (isLow low))).trans
        (if_neg (Nat.not_le.mpr down)), fun up => ?_⟩⟩
    refine (((if_neg (isJudged judged)).trans (if_neg (isLow low))).trans (if_pos up)).trans ?_
    cases since : s.supervisor.restoreSince with
    | none => rfl
    | some m =>
      rw [Option.getD_some, ← since]
      exact if_pos (by rw [since]; rfl)
  case failed =>
    refine ⟨fun h => if_pos ?_, fun first low => if_neg ?_⟩
    · simpa using h
    · simp [first, low]
  case entered =>
    refine ⟨s.enterLowSupply_eq, ?_, fun running => ?_⟩
    · rw [enterLowSupply_eq]
      split
      · rw [leaveRunning_supervisor, toLowSupply_supervisor]
      · rw [toLowSupply_supervisor]
    · rw [enterLowSupply_eq, if_pos running]
      exact leaveRunning_atRest _ (by decide)
  case held =>
    refine ⟨fun pulsing => ?_, fun other => ?_⟩
    · unfold State.holdPulse
      rw [pulsing]
      rfl
    · unfold State.holdPulse
      split
      · exact absurd ‹_› other
      · rfl
  case resumed =>
    refine ⟨fun p pending commanded => ?_, fun other => ?_⟩
    · unfold State.resumePulse
      rw [pending, commanded]
    · unfold State.resumePulse
      split
      · exact absurd ‹_› other
      · rfl
  case reserve =>
    refine ⟨fun first => if_neg (by simp [first]), fun judged => ⟨fun same => ?_, fun other => ?_⟩, rfl⟩
    · exact (if_pos judged).trans (if_pos same)
    · exact (if_pos judged).trans (if_neg other)
  case reading =>
    refine ⟨validValue_after_good (by simpa using valid) raw, fun r value => ?_⟩
    have good : isGood raw = true := (isGood_iff raw).mpr ⟨low, high⟩
    show finish (s.takeReading 0 raw) = _
    unfold State.takeReading
    dsimp only
    rw [if_pos (by rfl), if_pos good, goodReading_of_valid_reservoir (by simpa using valid), State.handCurrent, value]
    rfl
  case reserveFailed =>
    refine ⟨fun first => if_neg (by simp [first]), fun judged normal => ?_, fun judged other => ?_⟩
    · exact (if_pos judged).trans (if_pos normal)
    · exact (if_pos judged).trans (if_neg other)
  case changed =>
    intro value judged entered
    have report (new : ReserveState) : (judged new).reserveValue = value := s.setSupervisor_reserveValue _
    have low : s.changeReserve .low first = entered ((judged .low).reportReserve s.supervisor.reserve .low first) := rfl
    have normal : s.changeReserve .normal first =
        ((judged .normal).reportReserve s.supervisor.reserve .normal first).pass := rfl
    refine ⟨fun h => ?_, fun again critical => ?_, ?_, fun one => ?_, fun again => ?_⟩
    · have fresh : ¬(s.supervisor.reserve = .critical ∧ !first) := by
        rintro ⟨c, n⟩
        rcases h with h | h
        · simp [h] at n
        · exact h c
      rw [low, State.reportReserve, if_neg fresh, report]
    · rw [low, State.reportReserve, if_pos ⟨critical, by rw [again]; rfl⟩]
    · show entered ((judged .critical).reportReserve s.supervisor.reserve .critical first) = _
      rw [State.reportReserve, report]
    · rw [normal, State.reportReserve, if_pos one]
    · rw [normal, State.reportReserve, if_neg (by simp [again]), report]
  case cut =>
    refine ⟨fun free => ?_, fun c holder none => ?_, fun c holder t on => ⟨fun filling => ?_, fun other => ?_⟩⟩
    · unfold State.reserveCut
      rw [free, Option.bind_none]
    · unfold State.reserveCut
      rw [holder, Option.bind_some, none]
    · rw [reserveCut_of_holder holder on, if_pos (t.inFillPulse_iff.mpr filling)]
    · rw [reserveCut_of_holder holder on, if_neg (mt t.inFillPulse_iff.mp other)]
  case whole =>
    rw [exec_supplyRestored_of_due low since due, restoreSupply_eq]
    rfl

end Sys2Proof.Machine
end

section
/-! The ends of a load and of start-up, and the application of the configuration (O58). -/

namespace Sys2Proof.Machine

open State

/-! ### What an end of a load leaves to the loader -/

/-- The running configuration, the start-up record and the Profile Store stand at given values. -/
def State.LoadStands (p : Params) (x : StartUp) (y : ProfileStore) (s : State) : Prop :=
  s.params = p ∧ s.startUp = x ∧ s.store = y

/-- No change that a new configuration or a control state brings with it touches these. -/
theorem loadStands_closed (p : Params) (x : StartUp) (y : ProfileStore) : CoreClosed (State.LoadStands p x y) := by
  have air : AirClosed (State.LoadStands p x y) := by
    constructor
    case logEvent =>
      exact fun k sev c v ⟨hp, hx, hy⟩ =>
        ⟨(logEvent_params ..).trans hp, (logEvent_startUp ..).trans hx, (logEvent_store ..).trans hy⟩
    case setConditions =>
      exact fun conds ⟨hp, hx, hy⟩ =>
        ⟨(setConditions_params ..).trans hp, (setConditions_startUp ..).trans hx, (setConditions_store ..).trans hy⟩
    all_goals
      intros
      assumption
  exact { air with
    setSupervisor := fun _ _ k => k
    setControl := fun _ _ k => k
    leaveRunning := fun c _ k => leaveRunning_of air (fun _ _ x => x) c k
    setEstimator := fun _ k => k
    clearFlag := fun _ k => k
    setHeight := fun _ _ _ k => k
    setFlag := fun _ k => k
    setChannel := fun _ _ _ k => k
    setComparator := fun _ _ k => k
    setRamp := fun _ k => k
    setPositionInput := fun _ k => k
    setLamp := fun _ k => k
    setLink := fun _ _ _ _ k => k
    setQueue := fun _ _ k => k
    offerNotice := fun {s} a b k => by obtain ⟨q, e⟩ := s.offerNotice_eq a b; rw [e]; exact k
    setEvents := fun _ _ k => k }

/-- A new configuration keeps, from its being written on, what the changes it brings keep (R58, R175). -/
theorem CoreClosed.reconfigure_from {P : State → Prop} {s : State} (h : CoreClosed P) (new : Params)
    (hs : P (s.setParams new)) : P (s.reconfigure new) := by
  unfold State.reconfigure State.replaceConfig
  extract_lets old w s1 s2 s3 s4
  have k2 : P s2 := by
    show P (ite _ s1.resetLiftChannel s1)
    split
    · exact CoreClosed.resetLiftChannel_closed h hs
    · exact hs
  have k4 : P s4 := CoreClosed.changeSensing_closed h _ _ (CoreClosed.changeCircuits_closed h _ _ k2)
  exact CoreClosed.changeOthers_closed h _ (CoreClosed.changeUpkeep_closed h _ (CoreClosed.changeHeight_closed h _ k4))

theorem State.moveAfterReload_core {P : State → Prop} {s : State} (h : CoreClosed P) (boot : BootCode) (hs : P s) :
    P (s.moveAfterReload boot) := by
  unfold State.moveAfterReload
  split
  · split
    · exact CoreClosed.beginControl_closed h (by simp [State.isRunning, *]) hs
    · exact hs
  · split
    · exact h.leaveRunning _ (by decide) hs
    · exact h.setControl _ (fun k => absurd k ‹_›) hs

theorem State.logLoad_core {P : State → Prop} {s : State} (h : CoreClosed P) (boot : BootCode) (hs : P s) :
    P (s.logLoad boot) := by
  unfold State.logLoad
  split <;> exact h.logEvent _ _ _ _ hs

/-- The end of a load leaves the configuration read, the boot code held, no loader, and the store idle (R174, R175). -/
theorem State.endLoad_stands (s : State) (run : LoaderRun) :
    (s.endLoad run).LoadStands (loadImage s.store.image).2
      ⟨s.startUp.resetAt, none, some (loadImage s.store.image).1, true⟩ { s.store with busyUntil := none } := by
  have core := loadStands_closed (loadImage s.store.image).2
    ⟨s.startUp.resetAt, none, some (loadImage s.store.image).1, true⟩ { s.store with busyUntil := none }
  have told := logLoad_core core (loadImage s.store.image).1
    (core.reconfigure_from (s := s.closeLoad (loadImage s.store.image).1) _ ⟨rfl, rfl, rfl⟩)
  unfold State.endLoad
  dsimp only
  split
  · exact moveAfterReload_core core _ told
  · exact told

theorem exec_loaderEnd_of_due {s : State} {run : LoaderRun} (running : s.startUp.loader = some run)
    (due : run.ends ≤ s.now) : exec .loaderEnd s = finish (s.endLoad run) := by
  show execLoaderEnd s = _
  simp only [execLoaderEnd, running, if_pos due]

theorem exec_loaderEnd_of_early {s : State} {run : LoaderRun} (running : s.startUp.loader = some run)
    (early : s.now < run.ends) (quiet : s.deferred = []) : exec .loaderEnd s = .next s := by
  show execLoaderEnd s = _
  simp only [execLoaderEnd, running, if_neg (Nat.not_le.mpr early)]
  exact finish_of_nil quiet

/-! ### The circuits that go and come -/

theorem State.clearFault_circuits (s : State) (v : ValveId) : (s.clearFault v).circuits = s.circuits := by
  unfold State.clearFault
  split
  · exact setConditions_circuits ..
  · rfl

theorem State.setLiftState_circuits (s : State) (st : LiftState) (step : LiftStep) :
    (s.setLiftState st step).circuits = s.circuits := by
  unfold State.setLiftState
  dsimp only
  split
  · exact logEvent_circuits ..
  · rfl

/-- Of the circuit records the end of a presence replaces the circuit's own alone (R4, R7). -/
theorem State.makeAbsent_circuits (s : State) (c : CircuitId) :
    (s.makeAbsent c).circuits = (s.setCircuit c CircuitRecord.initial).circuits := by
  have cleared : (((s.setCircuit c CircuitRecord.initial).clearCircuit c).clearFaults (ownValves c)).circuits =
      (s.setCircuit c CircuitRecord.initial).circuits :=
    foldl_closed (P := fun t => t.circuits = (s.setCircuit c CircuitRecord.initial).circuits) _
      (fun t v k => (t.clearFault_circuits v).trans k) _ (setConditions_circuits ..)
  unfold State.makeAbsent
  dsimp only
  split
  · exact cleared
  · exact cleared
  · exact (setLiftState_circuits ..).trans ((setConditions_circuits ..).trans cleared)

theorem State.makeAbsent_circuit (s : State) (c : CircuitId) : (s.makeAbsent c).circuit c = CircuitRecord.initial := by
  unfold State.circuit
  rw [makeAbsent_circuits]
  exact setCircuit_circuit ..

theorem State.makeAbsent_circuit_of_ne (s : State) {c d : CircuitId} (h : d ≠ c) :
    (s.makeAbsent c).circuit d = s.circuit d := by
  unfold State.circuit
  rw [makeAbsent_circuits]
  exact setCircuit_circuit_of_ne s _ h

/-- The Load Estimator and the presence of the circuits set no fault flag. -/
theorem clearFlag_closed (v : ValveId) : EstimatorClosed fun s => (s.valve v).fault = false := by
  have put {s : State} {w : ValveId} {x : Valve} (e : (s.valve w).fault = false → x.fault = false)
      (k : (s.valve v).fault = false) : ((s.setValve w x).valve v).fault = false := by
    by_cases same : v = w
    · subst same
      simpa using e k
    · simpa [setValve_valve_of_ne _ _ same] using k
  constructor
  case toAirClosed =>
    constructor
    case logEvent => exact fun k sev c x h => by rwa [logEvent_valve]
    case setConditions => exact fun x h => by rwa [setConditions_valve]
    case openValve => exact fun c w _ _ clear h => put (fun _ => clear) h
    case setValve => exact fun w x _ same h => put (fun e => same.trans e) h
    all_goals
      intros
      assumption
  case setEstimator => exact fun _ h => h
  case clearFlag => exact fun w h => put (fun _ => rfl) h

/-- A circuit that becomes ABSENT has the faults of its own valves cleared (R7, R15). -/
theorem State.makeAbsent_fault (s : State) {c : CircuitId} {v : ValveId} (own : v ∈ ownValves c) :
    ((s.makeAbsent c).valve v).fault = false := by
  have cleared : ((((s.setCircuit c CircuitRecord.initial).clearCircuit c).clearFaults (ownValves c)).valve v).fault
      = false := by rw [clearFaults_valve_of_mem _ own]
  unfold State.makeAbsent
  dsimp only
  split
  · exact cleared
  · exact cleared
  · exact (clearFlag_closed v).liftAbsent_closed cleared

theorem State.foldl_makeAbsent_of_not_mem {L : List CircuitId} {c : CircuitId} (s : State) (h : c ∉ L) :
    (L.foldl State.makeAbsent s).circuit c = s.circuit c := by
  induction L generalizing s with
  | nil => rfl
  | cons d rest ih =>
    obtain ⟨ne, out⟩ := List.ne_and_not_mem_of_not_mem_cons h
    exact (ih _ out).trans (makeAbsent_circuit_of_ne s ne)

theorem State.foldl_makeAbsent_of_mem {L : List CircuitId} {c : CircuitId} (s : State) (h : c ∈ L) :
    (L.foldl State.makeAbsent s).circuit c = CircuitRecord.initial ∧
      ∀ v ∈ ownValves c, ((L.foldl State.makeAbsent s).valve v).fault = false := by
  induction L generalizing s with
  | nil => cases h
  | cons d rest ih =>
    by_cases later : c ∈ rest
    · exact ih _ later
    · obtain rfl := (List.mem_cons.mp h).resolve_right later
      refine ⟨(foldl_makeAbsent_of_not_mem _ later).trans (makeAbsent_circuit s c), fun v own => ?_⟩
      exact foldl_closed (P := fun t => (t.valve v).fault = false) _
        (fun _ d k => (clearFlag_closed v).makeAbsent_closed d k) rest (makeAbsent_fault s own)

theorem mem_allCircuits (c : CircuitId) : c ∈ allCircuits := by
  revert c
  decide

/-- The record a circuit becomes present with does not turn on the other circuits that do (R6). -/
theorem State.becomePresent_presentRecord (s : State) (c d : CircuitId) :
    (s.becomePresent c).presentRecord d = s.presentRecord d := by
  unfold State.becomePresent
  dsimp only
  split <;> rfl

theorem State.becomePresent_circuits (s : State) (c : CircuitId) :
    (s.becomePresent c).circuits = (s.setCircuit c (s.presentRecord c)).circuits := by
  unfold State.becomePresent
  dsimp only
  split <;> rfl

theorem State.becomePresent_circuit (s : State) (c : CircuitId) :
    (s.becomePresent c).circuit c = s.presentRecord c := by
  unfold State.circuit
  rw [becomePresent_circuits]
  exact setCircuit_circuit ..

theorem State.becomePresent_circuit_of_ne (s : State) {c d : CircuitId} (h : d ≠ c) :
    (s.becomePresent c).circuit d = s.circuit d := by
  unfold State.circuit
  rw [becomePresent_circuits]
  exact setCircuit_circuit_of_ne s _ h

theorem State.foldl_becomePresent_of_not_mem {L : List CircuitId} {c : CircuitId} (s : State) (h : c ∉ L) :
    (L.foldl State.becomePresent s).circuit c = s.circuit c := by
  induction L generalizing s with
  | nil => rfl
  | cons d rest ih =>
    obtain ⟨ne, out⟩ := List.ne_and_not_mem_of_not_mem_cons h
    exact (ih _ out).trans (becomePresent_circuit_of_ne s ne)

theorem State.foldl_becomePresent_of_mem {L : List CircuitId} {c : CircuitId} (s : State) (h : c ∈ L) :
    (L.foldl State.becomePresent s).circuit c = s.presentRecord c := by
  induction L generalizing s with
  | nil => cases h
  | cons d rest ih =>
    by_cases later : c ∈ rest
    · exact (ih _ later).trans (becomePresent_presentRecord s d c)
    · obtain rfl := (List.mem_cons.mp h).resolve_right later
      exact (foldl_becomePresent_of_not_mem _ later).trans (becomePresent_circuit s c)

theorem State.presentRecord_side (s : State) (side : Side) : s.presentRecord (sideCircuit side) =
    { CircuitRecord.initial with
      state := .idle, measured := s.validValue (heightChannel side), target := s.height.target } := by
  cases side <;> rfl

theorem State.presentRecord_tyre (s : State) (t : TyreId) : s.presentRecord (tyreCircuit t) =
    { CircuitRecord.initial with
      state := .idle, probeDue := true, frozen := s.frozenFor t
      target := (s.sideRecord (tyreSide s.params t)).target } := by
  unfold State.presentRecord
  rw [circuitSide_tyreCircuit, circuitTyre_tyreCircuit]

/-- Every record of R6 starts IDLE, without a strike, an outcome or a holdoff. -/
theorem State.presentRecord_fresh (s : State) (c : CircuitId) :
    (s.presentRecord c).state = .idle ∧ (s.presentRecord c).strikes = 0 ∧
      (s.presentRecord c).lastOutcome = .noOutcome ∧ (s.presentRecord c).holdoffEnd = none := by
  unfold State.presentRecord
  split <;> exact ⟨rfl, rfl, rfl, rfl⟩

end Sys2Proof.Machine
end

section
/-! The application of the configuration, the reconciliation of the lift and the end of start-up (O58). -/

namespace Sys2Proof.Machine

open State

/-! ### The application of the configuration -/

theorem State.frozenFor_eq (s : State) (t : TyreId) : s.frozenFor t =
    decide (s.params.p03 = .fitted ∧ s.position = some .isolated ∧ tyreAxle s.params t = 1) := by
  simp [State.frozenFor, State.liftFitted, Bool.and_assoc]

theorem State.tyresToFreeze_eq (s : State) : s.tyresToFreeze = allTyres.filter fun t =>
    decide ((s.circuit (tyreCircuit t)).state ≠ .absent ∧ (s.circuit (tyreCircuit t)).frozen ≠
      decide (s.params.p03 = .fitted ∧ s.position = some .isolated ∧ tyreAxle s.params t = 1)) := by
  unfold State.tyresToFreeze
  congr 1
  funext t
  simp only [frozenFor_eq, State.isPresent, Bool.decide_and, ne_eq]

theorem State.tyresToReclamp_eq (s : State) : s.tyresToReclamp = allTyres.filter fun t =>
    decide ((s.circuit (tyreCircuit t)).state ≠ .absent ∧ (s.circuit (tyreCircuit t)).frozen = true ∧
      (s.circuit (tyreCircuit t)).target ≠ s.reclampedTarget t) := by
  unfold State.tyresToReclamp
  congr 1
  funext t
  simp only [State.isPresent, Bool.decide_and, Bool.decide_eq_true, Bool.and_assoc]

theorem State.circuitsToAppear_eq (s : State) : s.circuitsToAppear = allCircuits.filter fun c =>
    decide ((s.circuit c).state = .absent ∧ configured s.params c = true) := by
  unfold State.circuitsToAppear
  congr 1
  funext c
  simp only [State.isPresent, Bool.decide_and, Bool.decide_eq_true, ne_eq, decide_not, Bool.not_not]

/-- A frozen target clamped leaves those of the other tyres to be clamped as they were. -/
theorem State.writeReclamped_reclampedTarget_of_ne (s : State) {t u : TyreId} (h : u ≠ t) :
    (s.writeReclamped t).reclampedTarget u = s.reclampedTarget u := by
  unfold State.writeReclamped State.reclampedTarget
  rw [setCircuit_circuit_of_ne _ _ fun e => h (tyreCircuit_injective e)]
  rfl

/-- Clamping tyres one after another writes to each the clamp that it had before the first (R58). -/
theorem State.foldl_writeReclamped {L : List TyreId} (s : State) (f : TyreId → Option Nat) (distinct : L.Nodup)
    (same : ∀ t ∈ L, s.reclampedTarget t = f t) :
    L.foldl State.writeReclamped s = L.foldl (fun (u : State) (t : TyreId) => u.setCircuit (tyreCircuit t)
      { u.circuit (tyreCircuit t) with target := f t }) s := by
  induction L generalizing s with
  | nil => rfl
  | cons t rest ih =>
    obtain ⟨out, later⟩ := List.nodup_cons.mp distinct
    have head : s.writeReclamped t =
        s.setCircuit (tyreCircuit t) { s.circuit (tyreCircuit t) with target := f t } := by
      unfold State.writeReclamped
      rw [same t List.mem_cons_self]
    rw [List.foldl_cons, List.foldl_cons, ← head]
    refine ih _ later fun u m => ?_
    have ne : u ≠ t := fun e => out (e ▸ m)
    rw [writeReclamped_reclampedTarget_of_ne s ne, same u (List.mem_cons_of_mem _ m)]

theorem State.tyresToReclamp_nodup (s : State) : s.tyresToReclamp.Nodup :=
  List.Nodup.filter _ (by decide)

/-- The application by what its steps come to: the circuits dropped, the flags and targets written, the circuits made
present, and then the loads, the targets and the evaluations (R57). -/
theorem State.applyChange_of_steps {s dropped frozen clamped : State} {a : Application} {refrozen moved : List TyreId}
    {fresh : List CircuitId}
    (drop : (if a.presence then
        ((s.recomputeRecord .left a.left).recomputeRecord .right a.right).dropCircuits a.renumber
      else (s.recomputeRecord .left a.left).recomputeRecord .right a.right) = dropped)
    (freeze : (if a.presence then dropped.tyresToFreeze else []) = refrozen)
    (writes : refrozen.foldl State.writeFrozen dropped = frozen)
    (clamp : (if a.reclamp then frozen.tyresToReclamp else []) = moved)
    (reclamped : moved.foldl State.writeReclamped frozen = clamped)
    (appear : (if a.presence then clamped.circuitsToAppear else []) = fresh) :
    s.applyChange a = fresh.foldl State.firstEvaluation (refrozen.foldl State.evaluateTyre
      (moved.foldl (fun u t => (u.judgeLow t).evaluateTyre t)
        (((((fresh.foldl State.becomePresent clamped).handLoads .left a.left).handLoads .right a.right).writeTargets
          .left).writeTargets .right))) := by
  unfold State.applyChange
  dsimp only
  rw [drop, freeze, writes, clamp, reclamped, appear]
  rfl

/-! ### The lift found -/

/-- The reconciliation writes the lift found, and reports every state but DOWN (R123). -/
theorem State.reconcileLift_eq (s : State) : s.reconcileLift =
    (let written := s.setLift { s.lift with
      reconciled := true, state := s.foundLift, step := if s.foundLift = .lowering then .venting else .noStep
      loweringClass := if s.foundLift = .lowering then some (if s.height.ramp = .up then .lift else .safety) else none
      refilling := false, blindVentDone := false, ventHeld := false, dwellSince := none }
     if s.foundLift = .down then written
     else written.logEvent .liftChanged .advisory none (some s.foundLift.code)) := rfl

/-- Out of ISOLATED a lift bag above P83 is LOWERING, and any other is DOWN (R123). -/
theorem State.foundLift_of_not_isolated {s : State} (fitted : s.params.p03 = .fitted)
    (off : s.position ≠ some .isolated) :
    s.foundLift = match s.bag with
      | some b => if s.params.p83 < b then .lowering else .down
      | none => .down := by
  unfold State.foundLift State.liftFitted
  rw [if_pos (decide_eq_true fitted)]
  cases bag : s.bag <;> split <;> simp_all

/-- In ISOLATED a lift bag of P82 and more with the ramp UP is UP, and any other is LOWERING (R123). -/
theorem State.foundLift_of_isolated {s : State} (fitted : s.params.p03 = .fitted)
    (isolated : s.position = some .isolated) :
    s.foundLift = match s.bag with
      | some b => if s.params.p82 ≤ b ∧ s.height.ramp = .up then .up else .lowering
      | none => .lowering := by
  unfold State.foundLift State.liftFitted
  rw [if_pos (decide_eq_true fitted), isolated]
  cases s.bag <;> rfl

/-! ### The end of start-up -/

theorem State.changeReserve_supervisor (s : State) (new : ReserveState) (first : Bool) :
    (s.changeReserve new first).supervisor = { s.supervisor with reserve := new, reserveJudged := true } := by
  have closed := supervisor_airClosed { s.supervisor with reserve := new, reserveJudged := true }
  have reported : ((s.setSupervisor { s.supervisor with reserve := new, reserveJudged := true }).reportReserve
      s.supervisor.reserve new first).supervisor = { s.supervisor with reserve := new, reserveJudged := true } := by
    unfold State.reportReserve
    split
    · split
      · exact closed.raise_closed _ _ (closed.clear_closed _ rfl)
      · exact closed.raise_closed _ _ (closed.logEvent _ _ _ _ rfl)
    · exact closed.clear_closed _ (closed.raise_closed _ _ (closed.logEvent _ _ _ _ rfl))
    · split
      · rfl
      · exact closed.clear_closed _ (closed.clear_closed _ (closed.logEvent _ _ _ _ rfl))
  rw [changeReserve_eq]
  dsimp only
  split
  · exact closed.pass_closed reported
  · exact closed.testIsolations_closed (closed.reserveCut_closed (closed.closeValve_closed _ reported))

/-- What START_UP_END does before the control state moves: the unjudged states, the heights, the lift, the
configuration (R176). -/
def State.applied (s : State) : State := s.judgeUnjudged.judgeHeightLost.reconcileLift.applyConfiguration

/-- What holds once the unjudged states are judged holds when the configuration is applied. -/
theorem State.applied_closed {P : State → Prop} {s : State} (h : EstimatorClosed P) (hs : P s.judgeUnjudged) :
    P s.applied :=
  h.applyConfiguration_closed (h.toAirClosed.reconcileLift_closed (h.judgeHeightLost_closed hs))

/-- An unjudged reserve judged leaves the Supervisor's other items (R140). -/
theorem State.judgeReserve_supervisor (s : State) : ∃ x b,
    (if s.supervisor.reserveJudged then s else s.changeReserve .low true).supervisor =
      { s.supervisor with reserve := x, reserveJudged := b } := by
  split
  · exact ⟨_, _, rfl⟩
  · exact ⟨_, _, changeReserve_supervisor ..⟩

theorem State.judgeUnjudged_eq (s : State) : s.judgeUnjudged =
    if s.supervisor.supplyJudged = true then (if s.supervisor.reserveJudged then s else s.changeReserve .low true)
    else (if s.supervisor.reserveJudged then s else s.changeReserve .low true).enterLowSupply := by
  obtain ⟨x, b, air⟩ := s.judgeReserve_supervisor
  unfold State.judgeUnjudged
  dsimp only
  rw [air]

/-- The judgement of an unjudged supply sets reason SUPPLY; the control state stays STARTING (R142, R143). -/
theorem State.judgeUnjudged_supervisor {s : State} (starting : s.supervisor.control = .starting) :
    s.judgeUnjudged.supervisor.reasonCab = s.supervisor.reasonCab ∧
      s.judgeUnjudged.supervisor.reasonSupply = (s.supervisor.reasonSupply || !s.supervisor.supplyJudged) := by
  obtain ⟨x, b, air⟩ := s.judgeReserve_supervisor
  have stopped : ¬ s.supervisor.control = .running := by rw [starting]; decide
  rw [judgeUnjudged_eq, enterLowSupply_eq, air]
  dsimp only
  rw [if_neg stopped]
  cases judged : s.supervisor.supplyJudged
  · rw [if_neg (by decide), toLowSupply_supervisor, air]
    exact ⟨rfl, (Bool.or_true _).symm⟩
  · rw [if_pos rfl, air]
    exact ⟨rfl, (Bool.or_false _).symm⟩

theorem State.applied_supervisor {s : State} (starting : s.supervisor.control = .starting) :
    s.applied.supervisor.reasonCab = s.supervisor.reasonCab ∧
      s.applied.supervisor.reasonSupply = (s.supervisor.reasonSupply || !s.supervisor.supplyJudged) := by
  have frame : EstimatorFrame s.judgeUnjudged s.applied :=
    applied_closed (estimatorFrame_closed _) (AirFrame.refl _).toEstimatorFrame
  rw [frame.supervisor]
  exact judgeUnjudged_supervisor starting

/-- The boot code held stays the one of the load that ended (R175). -/
theorem State.applied_bootCode {s : State} (starting : s.supervisor.control = .starting) :
    s.applied.startUp.bootCode = s.startUp.bootCode := by
  have core := (loadStands_closed s.params s.startUp s.store).toMidClosed
  have stopped : s.isRunning = false := decide_eq_false (by rw [starting]; decide)
  obtain ⟨-, startUp, -⟩ := applied_closed core.toEstimatorClosed
    (UnitClosed.judgeUnjudged_closed core stopped ⟨rfl, rfl, rfl⟩)
  rw [startUp]

/-- The end of start-up by what the boot code and the reasons make of the control state (R144, R176). -/
theorem State.endStartUp_eq {s : State} (starting : s.supervisor.control = .starting) : s.endStartUp =
    if s.startUp.bootCode = some .loaded then
      (if s.applied.supervisor.reasonCab = true ∨ s.applied.supervisor.reasonSupply = true then
        s.applied.setControl .suspended else s.applied.enterRunning)
    else s.applied.setControl .unconfigured := by
  have ends : s.endStartUp = if s.applied.startUp.bootCode = some .loaded then s.applied.beginControl
    else s.applied.setControl .unconfigured := by
    unfold State.endStartUp State.applied
    dsimp only
  rw [ends, applied_bootCode starting]
  unfold State.beginControl
  rfl

theorem exec_startUpEnd_of_due {s : State} (starting : s.supervisor.control = .starting)
    (ended : s.startUp.loadEnded = true) (due : s.startUp.resetAt + 1000 ≤ s.now) :
    exec .startUpEnd s = .next s.endStartUp.settle := by
  have done : s.startUpDone = true := by
    simp only [State.startUpDone, starting, ended]
    exact decide_eq_true due
  show finish (if s.startUpDone then s.endStartUp else s) = _
  rw [if_pos done]
  rfl

theorem exec_startUpEnd_of_early {s : State} (early : s.startUp.loadEnded = false ∨ s.now < s.startUp.resetAt + 1000)
    (quiet : s.deferred = []) : exec .startUpEnd s = .next s := by
  have notYet : ¬ s.startUpDone = true := by
    intro done
    simp only [State.startUpDone, Bool.and_eq_true] at done
    obtain ⟨⟨-, ended⟩, due⟩ := done
    have due := of_decide_eq_true due
    rcases early with loading | early
    · exact absurd (loading.symm.trans ended) (by decide)
    · exact absurd early (Nat.not_lt.mpr due)
  show finish (if s.startUpDone then s.endStartUp else s) = _
  rw [if_neg notYet]
  exact finish_of_nil quiet

/-- The control state START_UP_END leaves (R144, R176). -/
theorem State.endStartUp_control {s : State} (starting : s.supervisor.control = .starting) :
    s.endStartUp.settle.supervisor.control =
      if s.startUp.bootCode = some .loaded then
        if s.supervisor.reasonCab = true ∨ s.supervisor.reasonSupply = true ∨ s.supervisor.supplyJudged = false
        then .suspended else .running
      else .unconfigured := by
  obtain ⟨cab, supply⟩ := applied_supervisor starting
  rw [settle_supervisor, endStartUp_eq starting]
  simp only [cab, supply, Bool.or_eq_true, Bool.not_eq_true']
  split
  · split
    · rfl
    · rw [enterRunning_supervisor]
  · rfl

theorem State.moveAfterReload_eq (s : State) (boot : BootCode) : s.moveAfterReload boot =
    if boot = .loaded then (if s.supervisor.control = .unconfigured then
      (if s.supervisor.reasonCab = true ∨ s.supervisor.reasonSupply = true then s.setControl .suspended
        else s.enterRunning) else s)
    else if s.supervisor.control = .running then s.leaveRunning .unconfigured else s.setControl .unconfigured := by
  simp only [State.moveAfterReload, State.isRunning, decide_eq_true_eq, State.beginControl]

/-! ### A tyre in its configuration -/

theorem configured_of_le {p : Params} {c : CircuitId} (h : c.val ≤ 2) :
    configured p c = (c.val ≤ 1 || p.p03 = .fitted) := by
  unfold configured circuitTyre
  rw [dif_neg (by omega)]

theorem configured_tyreCircuit (p : Params) (t : TyreId) :
    configured p (tyreCircuit t) = true ↔ t.val + 1 ≤ p.p01 * (if p.p02 = .dual then 4 else 2) := by
  unfold configured
  rw [circuitTyre_tyreCircuit]
  cases h : p.p02 <;> simp [tyreNumber]

theorem State.mustDrop_iff {s : State} {c : CircuitId} (present : s.isPresent c = true) (renumber : Bool) :
    s.mustDrop renumber c = true ↔
      ¬ (configured s.params c = true ∧ (renumber = false ∨ circuitTyre c = none)) := by
  unfold State.mustDrop
  rw [present]
  cases configured s.params c <;> cases renumber <;> cases circuitTyre c <;> simp

theorem State.firstEvaluation_tyre (s : State) (t : TyreId) :
    s.firstEvaluation (tyreCircuit t) = s.evaluateTyre t := by
  unfold State.firstEvaluation State.evaluateCircuit
  rw [circuitSide_tyreCircuit, circuitTyre_tyreCircuit]

theorem State.firstEvaluation_side (s : State) (side : Side) : s.firstEvaluation (sideCircuit side) =
    (if (s.sideRecord side).overload = true then (s.raise (.tyreOverload side) .degraded).logEvent .tyreOverload
      .degraded (some (sideCircuit side)) (some (((s.sideRecord side).perTyre.getD 0 : Nat) : Int))
     else s).evaluateSide side := by
  unfold State.firstEvaluation State.evaluateCircuit
  rw [circuitSide_sideCircuit]
  rfl

/-- Settles O58: the loader and START_UP_END by what they end, the presence of the circuits by induction on those that
change, and the application as its steps in order. -/
theorem loaderAndStartUp : Obligations.LoaderAndStartUp := by
  refine ⟨fun s run running due => ?loadEnds, fun s run running early quiet =>
      exec_loaderEnd_of_early running early quiet, fun s starting ended due => ?startUp,
    fun s early quiet => exec_startUpEnd_of_early early quiet, fun s run running due => exec_loaderEnd_of_due running due,
    fun s boot => ?moved, enterRunning_supervisor, fun p c => ?configured, fun s renumber c => ?dropped,
    fun s c => ?appeared, fun s starting ended due => ?exact, fun s => ?lift, fun s => rfl, fun s a => ?change,
    fun s c => ?first⟩
  case loadEnds =>
    obtain ⟨params, startUp, store⟩ := (loadStands_closed _ _ _).settle_closed (s.endLoad_stands run)
    exact ⟨_, exec_loaderEnd_of_due running due, params, startUp, congrArg ProfileStore.busyUntil store⟩
  case startUp =>
    have control := endStartUp_control starting
    refine ⟨_, exec_startUpEnd_of_due starting ended due, fun other => ?_, fun loaded => ?_, fun loaded cab => ?_,
      fun loaded => ?_⟩
    · rw [control, if_neg other]
    · rw [control, if_pos loaded]
      split
      · exact .inr rfl
      · exact .inl rfl
    · rw [control, if_pos loaded, if_pos (.inl cab)]
    · rw [control, if_pos loaded]
  case moved =>
    intro moved held
    rw [moveAfterReload_eq]
    refine ⟨fun loaded at_ => ⟨fun h => ?_, fun h => ?_⟩, fun loaded off => ?_, fun failed off => ?_,
      fun failed running => ?_⟩
    · rw [if_pos loaded, if_pos at_, if_pos h]
      rfl
    · rw [if_pos loaded, if_pos at_, if_neg h]
    · rw [if_pos loaded, if_neg off]
    · rw [if_neg failed, if_neg off]
      rfl
    · rw [if_neg failed, if_pos running]
  case configured =>
    refine ⟨fun side => ?_, fun lift => ?_, fun t tyre => ?_⟩
    · simp [configured_of_le (p := p) (c := c) (by omega), side]
    · subst lift
      rw [configured_of_le (by decide)]
      simp [liftCircuit]
    · rw [tyre, configured_tyreCircuit]
  case dropped =>
    refine ⟨fun present stays => foldl_makeAbsent_of_not_mem _ fun m => ?_, fun present goes =>
      foldl_makeAbsent_of_mem _ (List.mem_filter.mpr ⟨mem_allCircuits c, (mustDrop_iff present renumber).mpr goes⟩)⟩
    exact (mustDrop_iff present renumber).mp (List.mem_filter.mp m).2 stays
  case appeared =>
    refine ⟨fun stays => foldl_becomePresent_of_not_mem _ fun m => ?_, fun absent wanted => ?_⟩
    · have new := (List.mem_filter.mp m).2
      rcases stays with h | h <;> simp [h] at new
    · have new : c ∈ s.circuitsToAppear := List.mem_filter.mpr ⟨mem_allCircuits c, by simp [absent, wanted]⟩
      rw [foldl_becomePresent_of_mem _ new]
      obtain ⟨state, strikes, outcome, holdoff⟩ := presentRecord_fresh s c
      refine ⟨state, strikes, outcome, holdoff, fun side e => ?_, fun e => ?_, fun w e => ?_⟩
      · rw [e, presentRecord_side]
        exact ⟨rfl, rfl⟩
      · rw [e]
        exact ⟨rfl, rfl⟩
      · rw [e, presentRecord_tyre]
        exact ⟨rfl, rfl, rfl⟩
  case exact =>
    rw [exec_startUpEnd_of_due starting ended due, endStartUp_eq starting]
    unfold State.applied State.setControl
    rw [judgeUnjudged_eq]
  case lift =>
    refine ⟨fun bare => ?_, fun fitted off => ?_, fun fitted isolated => ?_, fun down => ?_, fun up => ?_,
      fun lowering => ?_⟩
    · rw [State.foundLift, if_neg (by simp [State.liftFitted, bare])]
    · rw [foundLift_of_not_isolated fitted off, State.bag]
      exact ⟨fun bag => by rw [bag], fun x bag low => by simp [bag, Nat.not_lt.mpr low],
        fun x bag high => by simp [bag, high]⟩
    · rw [foundLift_of_isolated fitted isolated, State.bag]
      exact ⟨fun bag => by rw [bag], fun x bag low => by simp [bag, Nat.not_le.mpr low],
        fun x bag high => by simp [bag, high]⟩
    · rw [reconcileLift_eq]
      dsimp only
      rw [if_pos down]
    · rw [reconcileLift_eq]
      dsimp only
      rw [if_neg (by rw [up]; decide), up]
      rfl
    · rw [reconcileLift_eq]
      dsimp only
      rw [if_neg (by rw [lowering]; decide), lowering]
      rfl
  case change =>
    intro computed dropped refrozen frozen clampOf moved clamped fresh made handed written told
    have freeze : (if a.presence then dropped.tyresToFreeze else []) = refrozen := by
      rw [tyresToFreeze_eq]
    have clamp : (if a.reclamp then frozen.tyresToReclamp else []) = moved := by
      rw [tyresToReclamp_eq]
      rfl
    have distinct : moved.Nodup := by
      rw [← clamp]
      split
      · exact tyresToReclamp_nodup _
      · exact List.nodup_nil
    have reclamped : moved.foldl State.writeReclamped frozen = clamped :=
      foldl_writeReclamped frozen clampOf distinct fun t _ => rfl
    have appear : (if a.presence then clamped.circuitsToAppear else []) = fresh := by
      rw [circuitsToAppear_eq]
      rfl
    exact applyChange_of_steps rfl freeze rfl clamp reclamped appear
  case first =>
    refine ⟨fun side e => ?_, fun e => ?_, fun w e => ?_⟩
    · rw [e, firstEvaluation_side]
    · rw [e]
      rfl
    · rw [e, firstEvaluation_tyre]

end Sys2Proof.Machine
end

section
/-! The blocks that STATUS and the READ requests answer (O20). -/

namespace Sys2Proof.Machine

open State

/-! ### Bits -/

theorem sumOf_eq_sum (xs : List Nat) : sumOf xs = xs.sum := List.sum_eq_foldl.symm

theorem bitAt_zero (b : Bool) : bitAt 0 b = b.toNat := by cases b <;> rfl

theorem bitAt_succ (n : Nat) (b : Bool) : bitAt (n + 1) b = 2 * bitAt n b := by
  cases b
  · rfl
  · exact (Nat.pow_succ ..).trans (Nat.mul_comm ..)

/-- Flags set each at its own place make the number whose bits they are. -/
theorem sumOf_bitAt {n : Nat} (f : Fin n → Bool) :
    sumOf ((List.finRange n).map fun i => bitAt i.val (f i)) = Nat.ofBits f := by
  rw [sumOf_eq_sum]
  induction n with
  | zero => rfl
  | succ n ih =>
    have shifted : (fun i : Fin n => bitAt i.succ.val (f i.succ)) = fun i => 2 * bitAt i.val ((f ∘ Fin.succ) i) :=
      funext fun i => bitAt_succ i.val _
    rw [List.finRange_succ, List.map_cons, List.map_map, List.sum_cons, Nat.ofBits_succ, ← ih, Nat.add_comm]
    exact congrArg₂ (· + ·) ((congrArg (fun g => ((List.finRange n).map g).sum) shifted).trans
      (List.sum_map_mul_left ..)) (bitAt_zero _)

/-- The valve fault flags are the bits of their field (R162). -/
theorem State.faultBits_eq (s : State) : s.faultBits = Nat.ofBits fun v : ValveId => (s.valve v).fault :=
  sumOf_bitAt _

/-! ### The parts of a circuit block -/

/-- The demand part of a circuit block, 0 when absent (R79, R162). -/
def State.demandBytes (s : State) (c : CircuitId) : List Byte := (s.demandPart c).getD [0#8, 0#8, 0#8, 0#8, 0#8, 0#8]

/-- The transaction part of a circuit block, 0 when absent (R103, R162). -/
def State.transactionBytes (s : State) (c : CircuitId) : List Byte :=
  (s.transactionPart c).getD [0#8, 0#8, 0#8, 0#8, 0#8, 0#8, 0#8, 0#8]

theorem State.demandPart_isSome (s : State) (c : CircuitId) : (s.demandPart c).isSome =
    (decide ((s.circuit c).state = .waiting) && (s.demandOf c).isSome) := by
  unfold State.demandPart
  split
  · rw [Option.isSome_map, decide_eq_true ‹_›, Bool.true_and]
  · rw [decide_eq_false ‹_›]
    rfl

theorem State.transactionPart_isSome (s : State) (c : CircuitId) : (s.transactionPart c).isSome =
    (decide ((s.circuit c).state = .active) && (s.transactionOn c).isSome) := by
  unfold State.transactionPart
  split
  · rw [Option.isSome_map, decide_eq_true ‹_›, Bool.true_and]
  · rw [decide_eq_false ‹_›]
    rfl

theorem State.demandBytes_length (s : State) (c : CircuitId) : (s.demandBytes c).length = 6 := by
  unfold State.demandBytes State.demandPart
  split
  · cases s.demandOf c <;> rfl
  · rfl

theorem State.transactionBytes_length (s : State) (c : CircuitId) : (s.transactionBytes c).length = 8 := by
  unfold State.transactionBytes State.transactionPart
  split
  · cases s.transactionOn c <;> rfl
  · rfl

/-- After its 26 bytes of fields a circuit block has the demand part, the transaction part and a 0 (R162). -/
theorem State.circuitBlock_drop (s : State) (c : CircuitId) :
    (s.circuitBlock c).drop 26 = s.demandBytes c ++ (s.transactionBytes c ++ [0#8]) :=
  List.append_assoc ..

theorem State.circuitBlock_demand (s : State) (c : CircuitId) :
    ((s.circuitBlock c).drop 26).take 6 = s.demandBytes c := by
  rw [circuitBlock_drop, List.take_left' (s.demandBytes_length c)]

theorem State.circuitBlock_drop_transaction (s : State) (c : CircuitId) :
    (s.circuitBlock c).drop 32 = s.transactionBytes c ++ [0#8] := by
  calc (s.circuitBlock c).drop 32
      = ((s.circuitBlock c).drop 26).drop 6 := by rw [List.drop_drop]
    _ = s.transactionBytes c ++ [0#8] := by rw [circuitBlock_drop, List.drop_left' (s.demandBytes_length c)]

theorem State.circuitBlock_transaction (s : State) (c : CircuitId) :
    ((s.circuitBlock c).drop 32).take 8 = s.transactionBytes c := by
  rw [circuitBlock_drop_transaction, List.take_left' (s.transactionBytes_length c)]

theorem State.circuitBlock_last (s : State) (c : CircuitId) : (s.circuitBlock c)[40]? = some 0#8 := by
  calc (s.circuitBlock c)[40]?
      = ((s.circuitBlock c).drop 32)[8]? := by rw [List.getElem?_drop]
    _ = some 0#8 := by
      rw [circuitBlock_drop_transaction, List.getElem?_append_right (by rw [transactionBytes_length])]
      simp [transactionBytes_length]

theorem State.circuitBlock_length (s : State) (c : CircuitId) : (s.circuitBlock c).length = 41 := by
  have fields : ((s.circuitBlock c).take 26).length = 26 := rfl
  rw [← List.take_append_drop 26 (s.circuitBlock c), List.length_append, fields, circuitBlock_drop,
    List.length_append, List.length_append, demandBytes_length, transactionBytes_length]
  rfl

theorem State.itemsOf_tyre (s : State) (t : TyreId) : s.itemsOf (tyreCircuit t) = s.tyre t := by
  unfold State.itemsOf
  rw [circuitTyre_tyreCircuit]

theorem State.itemsOf_of_le (s : State) {c : CircuitId} (h : c.val ≤ 2) : s.itemsOf c = TyreItems.initial := by
  unfold State.itemsOf circuitTyre
  rw [dif_neg (by omega)]

/-- The flags of a circuit block: the record's, and those of Tyre Upkeep (R2, R162). -/
theorem State.circuitBlock_flags (s : State) (c : CircuitId) : (s.circuitBlock c)[4]? =
    some (byteOf (bitAt 0 (s.circuit c).frozen + bitAt 1 (s.circuit c).probeDue + bitAt 2 (s.itemsOf c).leaking +
      bitAt 3 (s.itemsOf c).low + bitAt 4 (s.itemsOf c).watch + bitAt 5 (s.itemsOf c).cause.isSome)) := rfl

theorem State.circuitBlock_cause (s : State) (c : CircuitId) : (s.circuitBlock c)[25]? =
    some (byteOf (((s.itemsOf c).cause.map IsolationCause.code).getD 0)) := rfl

/-! ### The head demand -/

theorem State.headDemand_length (s : State) : s.headDemand.length = 4 := by
  unfold State.headDemand
  split <;> rfl

/-- The head demand stands in bytes 12 to 15 of the status block (R79, R162). -/
theorem State.statusBlock_drop (s : State) : s.statusBlock.drop 12 =
    s.headDemand ++ ([byteOf s.engine.length] ++ (bytes3 s.faultBits ++
      ([byteOf s.driver.lamp.state.code, byteOf s.events.detected.toNat, byteOf s.events.queue.length,
        byteOf (bitAt 0 s.events.overrun), s.bootByte] ++ bytes4 s.events.timeTag.toNat))) := by
  simp [State.statusBlock]

theorem State.statusBlock_head (s : State) : (s.statusBlock.drop 12).take 4 = s.headDemand := by
  rw [statusBlock_drop, List.take_left' s.headDemand_length]

/-- What follows the head demand in the status block (R162). -/
theorem State.statusBlock_tail (s : State) : s.statusBlock.drop 16 =
    [byteOf s.engine.length] ++ (bytes3 s.faultBits ++
      ([byteOf s.driver.lamp.state.code, byteOf s.events.detected.toNat, byteOf s.events.queue.length,
        byteOf (bitAt 0 s.events.overrun), s.bootByte] ++ bytes4 s.events.timeTag.toNat)) := by
  calc s.statusBlock.drop 16
      = (s.statusBlock.drop 12).drop 4 := by rw [List.drop_drop]
    _ = _ := by rw [statusBlock_drop, List.drop_left' s.headDemand_length]

theorem State.statusBlock_length (s : State) : s.statusBlock.length = 29 := by
  have before : (s.statusBlock.take 12).length = 12 := rfl
  rw [← List.take_append_drop 12 s.statusBlock, List.length_append, before, statusBlock_drop, List.length_append,
    headDemand_length]
  rfl

/-- What stands from byte 16 of the status block on, counted from there. -/
theorem State.statusBlock_drop_tail (s : State) (n : Nat) :
    s.statusBlock.drop (16 + n) = (s.statusBlock.drop 16).drop n := by rw [List.drop_drop]

theorem circuitByte_eq (x : Option CircuitId) : circuitByte x = (x.map fun c => byteOf c.val).getD 0xFF#8 := by
  cases x <;> rfl

theorem State.bootByte_eq (s : State) : s.bootByte = (s.startUp.bootCode.map fun b => byteOf b.code).getD 0xFF#8 := by
  unfold State.bootByte
  cases s.startUp.bootCode <;> rfl

/-! ### The sensor block -/

/-- Of parts of one length, put one after another, the part at a place stands at that multiple of the length. -/
theorem take_drop_flatMap {α β : Type} {f : α → List β} {n : Nat} (size : ∀ x, (f x).length = n) (rest : List β)
    {L : List α} {i : Nat} {x : α} (at_ : L[i]? = some x) : ((L.flatMap f ++ rest).drop (n * i)).take n = f x := by
  induction L generalizing i with
  | nil => cases at_
  | cons y L ih =>
    rw [List.flatMap_cons, List.append_assoc]
    cases i with
    | zero =>
      obtain rfl : y = x := by simpa using at_
      rw [Nat.mul_zero, List.drop_zero, List.take_left' (size y)]
    | succ i =>
      rw [Nat.mul_succ, Nat.add_comm, ← List.drop_drop, List.drop_left' (size y)]
      exact ih (by simpa using at_)

theorem State.sensorBlock_channel (s : State) (ch : Channel) :
    (s.sensorBlock.drop (5 * ch.val)).take 5 = s.channelBytes ch := by
  have at_ : allChannels[ch.val]? = some ch := by
    revert ch
    decide
  exact take_drop_flatMap (f := s.channelBytes) (fun _ => rfl) _ at_

/-- The presence bit of a value, at the place the sensor block has it (R162). -/
theorem bitAt_isSome {α : Type} (x : Option α) [Decidable (x = none)] :
    bitAt 15 x.isSome = if x = none then 0 else 32768 := by
  cases x with
  | none => rw [if_pos rfl]; rfl
  | some _ => rw [if_neg (Option.some_ne_none _)]; rfl

/-! ### The requests -/

theorem request_read {s : State} (h : s.Ready) {k : Kind} {body : List Byte} {r : Request} {block : List Byte}
    (tag : Byte) (served : k.servedStarting = true) (read : readBody isParam k body = .ok r)
    (answered : s.heard.answer r = (.done block, s.heard)) :
    request k tag body s = .next (s.heard.replied k tag (.done block)) :=
  request_of_quiet h tag (fun _ => served) read answered (fun _ e => by cases e) h.2.2.2 h.2.1

theorem sideOf_of_gt {id : Byte} (h : 1 < id.toNat) : sideOf id = none := by
  unfold sideOf
  split
  · omega
  · omega
  · rfl

/-- Settles O20: the requests leave the state that heard them, and each block is read off where its parts stand. -/
theorem readsChangeNothing : Obligations.ReadsChangeNothing := by
  refine ⟨fun tag s ready => ?requests, fun s c side => ⟨s.statusBlock_length, s.circuitBlock_length c, rfl, rfl⟩,
    fun s => ?status, fun s c => ⟨rfl, rfl, rfl, rfl, s.circuitBlock_last c⟩, fun s side => ⟨?side, rfl⟩,
    fun s ch => ?channel, fun s => ?head, fun s c => ?circuit, fun s side => rfl, fun s => rfl⟩
  case requests =>
    refine ⟨request_read ready tag rfl rfl rfl, fun id c e => request_read ready tag rfl rfl ?_,
      fun id big => request_refused ready tag (fun _ => rfl) rfl ?_, request_read ready tag rfl rfl rfl,
      request_read ready tag rfl rfl rfl, fun id big => request_refused ready tag (fun _ => rfl) rfl ?_,
      request_read ready tag rfl rfl rfl⟩
    · show (s.heard.answerReadCircuit id, s.heard) = _
      rw [State.answerReadCircuit, circuitOf_of_toNat e]
      rfl
    · show (s.heard.answerReadCircuit id, s.heard) = _
      rw [State.answerReadCircuit, circuitOf_of_gt big]
    · show (s.heard.answerReadSide id, s.heard) = _
      rw [State.answerReadSide, sideOf_of_gt big]
  case status =>
    refine ⟨?_, ?_, ?_, ?_⟩
    · rw [← circuitByte_eq, ← circuitByte_eq]
      unfold State.statusBlock
      cases s.height.speed <;> rfl
    · rw [← Nat.add_zero 16, ← List.getElem?_drop, statusBlock_tail]
      rfl
    · rw [statusBlock_drop_tail s 4, statusBlock_tail, ← bootByte_eq]
      rfl
    · rw [statusBlock_drop_tail s 9, statusBlock_tail]
      rfl
  case side => cases side <;> rfl
  case channel =>
    rw [sensorBlock_channel]
    unfold State.channelBytes
    dsimp only
    rw [bitAt_isSome, bitAt_isSome]
  case head =>
    refine ⟨fun d first => ?_, fun none => ?_, ?_, ?_, fun v => ?_⟩
    · obtain ⟨rest, demands⟩ := List.head?_eq_some_iff.mp first
      rw [statusBlock_head, State.headDemand, demands]
    · rw [statusBlock_head, State.headDemand, none]
    · rw [statusBlock_drop_tail s 1, statusBlock_tail]
      rfl
    · rw [faultBits_eq]
      exact Nat.ofBits_lt_two_pow _
    · rw [faultBits_eq]
      exact Nat.testBit_ofBits_lt _ _ v.isLt
  case circuit =>
    refine ⟨?_, fun w tyre => ?_, fun low => ?_, rfl, ?_, ?_, fun d demand waiting => ?_, fun out => ?_,
      fun t inFlight active => ?_, fun out => ?_⟩
    · rw [← demandPart_isSome, ← transactionPart_isSome]
      rfl
    · dsimp only
      rw [circuitBlock_flags, circuitBlock_cause, tyre, itemsOf_tyre]
      exact ⟨rfl, rfl⟩
    · dsimp only
      rw [circuitBlock_flags, circuitBlock_cause, itemsOf_of_le s low]
      exact ⟨rfl, rfl⟩
    · rfl
    · rfl
    · rw [circuitBlock_demand, State.demandBytes, State.demandPart, if_pos waiting, demand]
      rfl
    · have absent := Option.isSome_eq_false_iff.mp ((demandPart_isSome s c).trans out)
      rw [circuitBlock_demand, State.demandBytes, Option.isNone_iff_eq_none.mp absent]
      rfl
    · rw [circuitBlock_transaction, State.transactionBytes, State.transactionPart, if_pos active, inFlight]
      rfl
    · have absent := Option.isSome_eq_false_iff.mp ((transactionPart_isSome s c).trans out)
      rw [circuitBlock_transaction, State.transactionBytes, Option.isNone_iff_eq_none.mp absent]
      rfl

end Sys2Proof.Machine
end

section
namespace Sys2Proof.Machine

/-! ### What the receivers of a reading keep -/

/-- A property that only reads what `AirFrame` names is kept by the air control. -/
theorem airClosed_of_frame {P : State → Prop} (reads : ∀ {s t : State}, AirFrame s t → P s → P t) :
    AirClosed P := by
  constructor <;> intros <;> refine reads ?_ (by assumption) <;> constructor
  all_goals first
    | rfl
    | simp

/-- A property that only reads the Sensing Block is kept by every update of the other blocks. -/
theorem midClosed_of_sensing {P : State → Prop} (reads : ∀ {s t : State}, t.sensing = s.sensing → P s → P t) :
    MidClosed P :=
  { airClosed_of_frame fun frame => reads frame.sensing with
    setEstimator := fun _ => reads rfl
    clearFlag := fun _ => reads rfl
    setSupervisor := fun _ _ => reads rfl }

/-- `P` is kept by the updates of the receivers of a reading: those of the air control, of the Load Estimator and of
the Supervisor, the control state included. -/
structure ReceiverClosed (P : State → Prop) : Prop extends MidClosed P where
  /-- the control state is replaced -/
  setControl : ∀ {s : State} (c : ControlState), P s → P (s.setControl c)

namespace ReceiverClosed

variable {P : State → Prop} {s : State}

theorem leaveRunning_closed (h : ReceiverClosed P) (c : ControlState) (hs : P s) : P (s.leaveRunning c) :=
  leaveRunning_of h.toAirClosed (fun _ _ => h.setControl _) c hs

theorem enterLowSupply_closed (h : ReceiverClosed P) (hs : P s) : P s.enterLowSupply := by
  unfold State.enterLowSupply
  extract_lets src low told
  have hlow : P low := h.setSupervisor _ rfl hs
  have htold : P told := AirClosed.holdPulse_closed h.toAirClosed
    (h.logEvent _ _ _ _ (AirClosed.raise_closed h.toAirClosed _ _ hlow))
  split
  · exact h.leaveRunning_closed _ htold
  · exact htold

theorem judgeSupply_closed (h : ReceiverClosed P) (v : Nat) (hs : P s) : P (s.judgeSupply v) := by
  unfold State.judgeSupply
  split_ifs
  · exact AirClosed.resumePulse_closed h.toAirClosed (h.setSupervisor _ rfl hs)
  · exact h.enterLowSupply_closed hs
  · exact h.enterLowSupply_closed hs
  · exact hs
  · exact hs
  · exact h.setSupervisor _ rfl hs
  · exact h.setSupervisor _ rfl hs

theorem supplyChannelFailed_closed (h : ReceiverClosed P) (hs : P s) : P s.supplyChannelFailed := by
  unfold State.supplyChannelFailed
  split
  · exact h.enterLowSupply_closed hs
  · exact h.setSupervisor _ rfl hs

theorem evaluateHeight_closed (h : ReceiverClosed P) (side : Side) (hs : P s) : P (s.evaluateHeight side) := by
  have own := AirClosed.evaluateSide_closed h.toAirClosed side hs
  unfold State.evaluateHeight
  dsimp only
  split
  · exact own
  · exact AirClosed.evaluateSide_closed h.toAirClosed _ own

/-- The hand-on of a filtered value keeps what its receivers keep (R21, R29). -/
theorem handValue_closed (h : ReceiverClosed P) (ch : Channel) (v : Nat) (hs : P s) : P (s.handValue ch v) := by
  have followed (c) : P (s.followMeasured c (some v)) := EstimatorClosed.followMeasured_closed h.toEstimatorClosed _ _ hs
  have judged := MidClosed.judgeReserve_closed h.toMidClosed v hs
  unfold State.handValue
  split
  · dsimp only
    split
    · exact AirClosed.pass_closed h.toAirClosed judged
    · exact judged
  · exact EstimatorClosed.estimatePressure_closed h.toEstimatorClosed _ _ hs
  · exact EstimatorClosed.estimatePressure_closed h.toEstimatorClosed _ _ hs
  · exact AirClosed.evaluateLift_closed h.toAirClosed (followed _)
  · exact hs
  · exact h.evaluateHeight_closed _ (EstimatorClosed.estimateHeight_closed h.toEstimatorClosed _ (followed _))
  · exact h.evaluateHeight_closed _ (EstimatorClosed.estimateHeight_closed h.toEstimatorClosed _ (followed _))
  · exact h.judgeSupply_closed v hs

/-- The hand-on of the value held keeps what its receivers keep. -/
theorem handCurrent_closed (h : ReceiverClosed P) (ch : Channel) (hs : P s) : P (s.handCurrent ch) := by
  unfold State.handCurrent
  split
  · exact h.handValue_closed _ _ hs
  · exact hs

theorem handHeightStatus_closed (h : ReceiverClosed P) (side : Side) (hs : P s) : P (s.handHeightStatus side) := by
  unfold State.handHeightStatus
  extract_lets own sourced judged
  have hown : P own := by
    show P (if s.isValid (heightChannel side) then s else s.followMeasured (sideCircuit side) none)
    split
    · exact hs
    · exact EstimatorClosed.followMeasured_closed h.toEstimatorClosed _ _ hs
  have hsourced : P sourced := EstimatorClosed.estimateHeightStatus_closed h.toEstimatorClosed hown
  have hjudged : P judged := by
    show P (if sourced.supervisor.control = .starting then sourced else sourced.judgeHeightLost)
    split
    · exact hsourced
    · exact EstimatorClosed.judgeHeightLost_closed h.toEstimatorClosed hsourced
  exact AirClosed.evaluateSides_closed h.toAirClosed hjudged

/-- The hand-on of a status keeps what its receivers keep (R21, R34). -/
theorem handStatus_closed (h : ReceiverClosed P) (ch : Channel) (hs : P s) : P (s.handStatus ch) := by
  have unless_ {t : State} (ht : P t) {b : Bool} : P (if b then t else s) := by
    split
    · exact ht
    · exact hs
  unfold State.handStatus
  dsimp only
  split
  · exact unless_ (MidClosed.reserveChannelFailed_closed h.toMidClosed hs)
  · exact unless_ (EstimatorClosed.pressureFailed_closed h.toEstimatorClosed _ hs)
  · exact unless_ (EstimatorClosed.pressureFailed_closed h.toEstimatorClosed _ hs)
  · exact AirClosed.evaluateLift_closed h.toAirClosed
      (unless_ (EstimatorClosed.followMeasured_closed h.toEstimatorClosed _ _ hs))
  · exact AirClosed.evaluateTyres_closed h.toAirClosed hs
  · exact h.handHeightStatus_closed _ hs
  · exact h.handHeightStatus_closed _ hs
  · exact unless_ (h.supplyChannelFailed_closed hs)

end ReceiverClosed

/-- The receivers of a reading leave the Sensing Block alone. -/
theorem sensing_receiverClosed (x : Sensing) : ReceiverClosed fun s => s.sensing = x :=
  { midClosed_of_sensing fun same k => same.trans k with setControl := fun _ k => k }

namespace State

@[simp] theorem handValue_sensing (s : State) (ch : Channel) (v : Nat) : (s.handValue ch v).sensing = s.sensing :=
  (sensing_receiverClosed s.sensing).handValue_closed ch v rfl

@[simp] theorem handStatus_sensing (s : State) (ch : Channel) : (s.handStatus ch).sensing = s.sensing :=
  (sensing_receiverClosed s.sensing).handStatus_closed ch rfl

@[simp] theorem handCurrent_sensing (s : State) (ch : Channel) : (s.handCurrent ch).sensing = s.sensing :=
  (sensing_receiverClosed s.sensing).handCurrent_closed ch rfl

@[simp] theorem clear_sensing (s : State) (id : ConditionId) : (s.clear id).sensing = s.sensing :=
  s.setConditions_sensing _

@[simp] theorem raise_sensing (s : State) (id : ConditionId) (sev : Severity) : (s.raise id sev).sensing = s.sensing :=
  s.setConditions_sensing _

/-- The hand-offs of an act leave alone what the air control leaves alone. -/
theorem settle_frame (s : State) : AirFrame s s.settle := AirClosed.settle_closed (airFrame_closed s) (.refl s)

@[simp] theorem settle_sensing (s : State) : s.settle.sensing = s.sensing := s.settle_frame.sensing

/-- A channel is what the Sensing Block holds for it. -/
theorem channel_congr {s t : State} (same : t.sensing = s.sensing) (ch : Channel) : t.channel ch = s.channel ch := by
  unfold channel; rw [same]

end State
end Sys2Proof.Machine
end

section
namespace Sys2Proof.Machine

/-! ### The bounds of the channels -/

/-- An update of the Sensing Block that leaves the channels alone keeps the bounds. -/
theorem State.ChannelsBounded.of_channels {s t : State} (same : t.sensing.channels = s.sensing.channels)
    (hs : s.ChannelsBounded) : t.ChannelsBounded := by
  intro ch
  have unmoved : t.channel ch = s.channel ch := by unfold State.channel; rw [same]
  rw [unmoved]
  exact hs ch

/-- A reading that takes no counter of its channel above its limit keeps the bounds. -/
theorem State.ChannelsBounded.setChannel {s : State} {ch : Channel} {x : AnalogChannel}
    (hx : ChannelStep ch (s.channel ch) x) (hs : s.ChannelsBounded) : (s.setChannel ch x).ChannelsBounded := by
  intro d
  by_cases e : d = ch
  · subst e
    obtain ⟨history, bad, good⟩ := hx
    obtain ⟨history', bad', good'⟩ := hs d
    rw [State.setChannel_channel]
    omega
  · rw [State.setChannel_channel_of_ne s x e]
    exact hs d

/-- The channels of a reset Sensing Block are empty and their counters 0. -/
theorem State.channelsBounded_afterReset (now image no nc p pending) :
    (State.afterReset now image no nc p pending).ChannelsBounded := by
  intro ch
  have fresh : (State.afterReset now image no nc p pending).channel ch = AnalogChannel.initial := by
    simp [State.channel, State.afterReset, Sensing.initial]
  rw [fresh]
  exact ⟨Nat.zero_le _, Nat.zero_le _, Nat.zero_le _⟩

/-- Every kind of update keeps the bounds of the channels (R26, R30). -/
theorem channelsBounded_closed : UnitClosed State.ChannelsBounded := by
  have mid : MidClosed State.ChannelsBounded :=
    midClosed_of_sensing fun same => State.ChannelsBounded.of_channels (by rw [same])
  exact { mid with
    setControl := fun _ _ k => k
    leaveRunning := fun c _ k => leaveRunning_of mid.toAirClosed (fun _ _ x => x) c k
    setHeight := fun _ _ _ k => k
    setFlag := fun _ k => k
    setChannel := fun _ _ step k => k.setChannel step
    setComparator := fun _ _ k => k
    setRamp := fun _ k => k
    setPositionInput := fun _ k => k
    setLamp := fun _ k => k
    setLink := fun _ _ _ _ k => k
    setQueue := fun _ _ k => k
    offerNotice := fun {s} a b k => by obtain ⟨q, e⟩ := s.offerNotice_eq a b; rw [e]; exact k
    setEvents := fun _ _ k => k
    setParams := fun _ k => k
    setStore := fun _ k => k
    setStartUp := fun _ k => k
    setRestart := fun k => k
    setRampState := fun _ k => k
    securePlace := fun {s t} placed k => by
      unfold State.securePlace at placed
      repeat' split at placed
      all_goals cases placed
      all_goals exact k
    placeReply := fun _ _ k => k
    powerOn := fun _ => State.channelsBounded_afterReset _ _ _ _ _ _
    doRestart := fun {s} _ => mid.logEvent _ _ _ _ (State.channelsBounded_afterReset s.now
      (interruptedImage s.store s.now) s.sensing.ramp.noClosed s.sensing.ramp.ncClosed s.sensing.position.raw
      s.pending) }

/-- Settles O11: every kind of update keeps the bounds, so every step does. -/
theorem stepChannelsBounded : Obligations.StepChannelsBounded := by
  intro s t hs stepped
  obtain ⟨u, answered, hu⟩ := channelsBounded_closed.step_closed (fun _ k => k) (fun _ _ k => k) hs
  rw [answered] at stepped
  cases stepped
  exact hu

end Sys2Proof.Machine
end

section
namespace Sys2Proof.Machine

/-! ### Conversion and filters -/

/-- Rounding to the nearest integer, an exact half upwards, as two bounds on the result. -/
theorem roundDiv_bounds {n d : Nat} (hd : 0 < d) :
    2 * d * roundDiv n d ≤ 2 * n + d ∧ 2 * n + d < 2 * d * (roundDiv n d + 1) := by
  unfold roundDiv
  exact ⟨Nat.mul_div_le _ _, Nat.lt_mul_div_succ _ (by omega)⟩

/-- The rounded quotient stays within a bound that the exact one meets. -/
theorem roundDiv_le {n d b : Nat} (hd : 0 < d) (h : n ≤ b * d) : roundDiv n d ≤ b := by
  obtain ⟨low, _⟩ := roundDiv_bounds (n := n) hd
  by_contra above
  have : 2 * d * (b + 1) ≤ 2 * d * roundDiv n d := Nat.mul_le_mul_left _ (by omega)
  nlinarith

/-- No count converts above the full scale (R24). -/
theorem convert_le_fullScale (c : Calibration) (raw : RawReading) : convert c raw ≤ c.fullScale := by
  unfold convert
  split
  · exact Nat.zero_le _
  · exact Nat.min_le_left _ _

/-- A count at or above the zero count of an ascending calibration converts to the rounded quotient, held at the full
scale (R24). -/
theorem convert_of_ascending {c : Calibration} {raw : RawReading} (hc : c.zeroCount < c.fullCount)
    (hr : c.zeroCount ≤ raw.toNat) :
    convert c raw =
      min c.fullScale (roundDiv ((raw.toNat - c.zeroCount) * c.fullScale) (c.fullCount - c.zeroCount)) := by
  unfold convert
  rw [if_neg (by omega)]

/-- Settles O28: the conversion is one rounded division, held at the full scale. -/
theorem conversionRule : Obligations.ConversionRule := by
  refine ⟨fun c raw h => if_pos h, fun c raw hc hr => ?_, ⟨rfl, by decide, rfl, rfl, rfl⟩, by decide⟩
  intro n d v
  have value : v = min c.fullScale (roundDiv n d) := convert_of_ascending hc hr
  obtain ⟨low, high⟩ := roundDiv_bounds (n := n) (d := d) (by omega)
  refine ⟨convert_le_fullScale c raw, ?_, ?_⟩
  · have : v ≤ roundDiv n d := by omega
    exact (Nat.mul_le_mul_left _ this).trans low
  · rcases Nat.le_total c.fullScale (roundDiv n d) with held | exact_
    · exact .inl (by omega)
    · rw [value, Nat.min_eq_right exact_]
      exact .inr high

/-- The mean of a non-empty list, as two bounds on it (R27). -/
theorem meanOf_eq_some {xs : List Nat} {v : Nat} (h : meanOf xs = some v) :
    xs ≠ [] ∧ v = roundDiv xs.sum xs.length := by
  unfold meanOf at h
  split at h
  · cases h
  · exact ⟨‹_›, (Option.some.inj h).symm⟩

/-- Settles O29: a mean of values up to the full scale stays within it. -/
theorem filteredValue : Obligations.FilteredValue := by
  refine ⟨fun s ch h v filtered => ?_, fun s ch => by simp [State.filter, meanOf], by decide, fun s ch => ?_⟩
  · intro xs
    obtain ⟨nonempty, value⟩ := meanOf_eq_some (xs := xs) filtered
    have positive : 0 < xs.length := List.length_pos_iff.mpr nonempty
    have total : xs.sum ≤ s.params.p96[ch.val].fullScale * xs.length := by
      have bound : ∀ x ∈ xs, x ≤ s.params.p96[ch.val].fullScale := by
        intro x hx
        obtain ⟨raw, _, rfl⟩ := List.mem_map.mp hx
        exact convert_le_fullScale _ raw
      simpa [Nat.mul_comm] using List.sum_le_card_nsmul xs _ bound
    subst value
    obtain ⟨low, high⟩ := roundDiv_bounds (n := xs.sum) positive
    exact ⟨nonempty, roundDiv_le positive total, low, high⟩
  · have := ch.isLt
    unfold State.window historyCapacity
    split_ifs <;> first | rfl | omega

end Sys2Proof.Machine
end

section
namespace Sys2Proof.Machine

/-! ### The trip comparators -/

namespace State

/-- A CLEAR comparator offered a reading (R37). -/
theorem offerTrip_of_clear {s : State} {k : ComparatorId} {n : Nat} (held : s.comparator k = ⟨false, n⟩) (v : Nat) :
    s.offerTrip k v =
      if k.threshold s.params ≤ v then (if n + 1 = 2 then s.trip k v else s.setComparator k ⟨false, n + 1⟩)
      else s.setComparator k ⟨false, 0⟩ := by
  unfold offerTrip
  rw [held]
  rfl

/-- A TRIPPED comparator offered a reading (R37). -/
theorem offerTrip_of_tripped {s : State} {k : ComparatorId} {n : Nat} (held : s.comparator k = ⟨true, n⟩) (v : Nat) :
    s.offerTrip k v =
      if v + 20 < k.threshold s.params then s.setComparator k (if n + 1 = 2 then ⟨false, 0⟩ else ⟨true, n + 1⟩)
      else s.setComparator k ⟨true, 0⟩ := by
  unfold offerTrip
  rw [held]
  rfl

/-- A trip with a transaction to cut ends it TRIPPED (R99). -/
theorem tripCut_of_some {s : State} {k : ComparatorId} {t : Transaction} (h : s.tripTarget k = some t) :
    s.tripCut k = s.endTransaction t .tripped false := by
  unfold tripCut; rw [h]

/-- A trip with no transaction to cut leaves the state as it is (R99). -/
theorem tripCut_of_none {s : State} {k : ComparatorId} (h : s.tripTarget k = none) : s.tripCut k = s := by
  unfold tripCut; rw [h]

/-- What the trip of a side's or the lift's comparator does, by the transaction on its circuit: the fill in PULSE is
cut, any other is left (R99). -/
theorem tripCut_of_transaction {s : State} {k : ComparatorId} {c : CircuitId} {fill : TransactionKind}
    (target : s.tripTarget k = (s.transactionOn c).filter fun t => t.kind = fill && t.phase = .pulse)
    {t : Transaction} (on : s.transactionOn c = some t) :
    ((t.kind = fill ∧ t.phase = .pulse) → s.tripCut k = s.endTransaction t .tripped false) ∧
    (¬(t.kind = fill ∧ t.phase = .pulse) → s.tripCut k = s) := by
  rw [on] at target
  refine ⟨fun filling => tripCut_of_some ?_, fun other => tripCut_of_none ?_⟩
  · rw [target, Option.filter_some_pos (by simpa using filling)]
  · rw [target, Option.filter_some_neg (by simpa using other)]

/-- The trip of a comparator whose circuit has no transaction leaves the state as it is (R99). -/
theorem tripCut_of_idle {s : State} {k : ComparatorId} {c : CircuitId} {p : Transaction → Bool}
    (target : s.tripTarget k = (s.transactionOn c).filter p) (idle : s.transactionOn c = none) : s.tripCut k = s :=
  tripCut_of_none (by rw [target, idle]; rfl)

/-- The INFLATE that a trip of the gallery cuts, when it is the only one in flight (R99). -/
theorem tripTarget_gallery {s : State} {t : Transaction} (mem : t ∈ s.engine) (kind : t.kind = .inflate)
    (phase : t.phase = .charge ∨ t.phase = .inflate) (only : ∀ u ∈ s.engine, u.kind = .inflate → u = t) :
    s.tripTarget .gallery = some t := by
  unfold tripTarget
  cases found : s.engine.find? fun t => t.kind = .inflate && (t.phase = .charge || t.phase = .inflate) with
  | none =>
    have := List.find?_eq_none.mp found t mem
    simp [kind, phase] at this
  | some u =>
    have inflating := List.find?_some found
    simp only [Bool.and_eq_true, decide_eq_true_eq] at inflating
    rw [only u (List.mem_of_find?_eq_some found) inflating.1]

end State

/-- Settles O32: the comparator by its two states, and the cut by the transaction that the trip finds. -/
theorem tripRule : Obligations.TripRule := by
  refine ⟨fun s k v => ?_, fun s side t on => ?_, fun s t on => State.tripCut_of_transaction rfl on,
    fun s => ⟨State.tripCut_of_idle rfl, State.tripCut_of_idle rfl, State.tripCut_of_idle rfl⟩,
    fun s t mem kind phase only => State.tripCut_of_some (State.tripTarget_gallery mem kind phase only),
    fun s none_ => State.tripCut_of_none ?_⟩
  · intro thr
    refine ⟨fun held high => ?_, fun held high => ?_, fun n held low => ?_, fun held low => ?_, fun held low => ?_,
      fun n held high => ?_⟩
    · rw [State.offerTrip_of_clear held, if_pos high]; rfl
    · rw [State.offerTrip_of_clear held, if_pos high]; rfl
    · rw [State.offerTrip_of_clear held, if_neg (by omega)]
    · rw [State.offerTrip_of_tripped held, if_pos low]; rfl
    · rw [State.offerTrip_of_tripped held, if_pos low]; rfl
    · rw [State.offerTrip_of_tripped held, if_neg (by omega)]
  · cases side
    · exact State.tripCut_of_transaction (c := 0) rfl on
    · exact State.tripCut_of_transaction (c := 1) rfl on
  · refine List.find?_eq_none.mpr fun t mem => ?_
    simpa using none_ t mem

end Sys2Proof.Machine
end

section
namespace Sys2Proof.Machine

/-! ### Readings -/

/-- A kind needs SUPPLY exactly when its action is a fill (R67, R80). -/
theorem kindFor_needsSupply (c : CircuitId) (a : Action) : (kindFor c a).needsSupply = true ↔ a = .fill := by
  unfold kindFor
  cases circuitKind c <;> cases a <;> decide

/-- A circuit of a tyre is one from identifier 3 on (R1). -/
theorem circuitKind_eq_tyre (c : CircuitId) : circuitKind c = .tyre ↔ 3 ≤ c.val := by
  unfold circuitKind
  split_ifs <;> simp <;> omega

namespace State

/-- The action at grant is a fill unless the demand asks for another or a due probe takes its place (R69). -/
theorem actionAtGrant_eq_fill (s : State) (d : Demand) :
    s.actionAtGrant d = .fill ↔ d.action = .fill ∧ ¬(3 ≤ d.circuit.val ∧ (s.circuit d.circuit).probeDue = true) := by
  unfold actionAtGrant
  simp only [circuitKind_eq_tyre]
  split_ifs with probes
  · simp [probes]
  · simp [probes]

theorem isPresent_eq_false (s : State) (c : CircuitId) : s.isPresent c = false ↔ (s.circuit c).state = .absent := by
  simp [isPresent]

theorem isValid_iff (s : State) (ch : Channel) : s.isValid ch = true ↔ (s.channel ch).status = .valid := by
  simp [isValid]

/-- The measured field of a present circuit follows, that of an ABSENT one does not (R6). -/
theorem followMeasured_eq (s : State) (c : CircuitId) (v : Option Nat) : s.followMeasured c v =
    if (s.circuit c).state = .absent then s else s.setCircuit c { s.circuit c with measured := v } := by
  unfold followMeasured isPresent
  split_ifs <;> simp_all

theorem isGood_iff (raw : RawReading) : isGood raw = true ↔ 123 ≤ raw.toNat ∧ raw.toNat ≤ 3972 := by
  simp only [isGood, Bool.and_eq_true, decide_eq_true_eq]
  exact Iff.rfl

/-- The channels that are judged (R21). -/
theorem isJudged_iff (s : State) (ch : Channel) : s.isJudged ch = true ↔ (ch.val = 3 → s.params.p03 = .fitted) := by
  unfold isJudged liftFitted
  by_cases e : ch.val = 3 <;> simp [e]

/-- A raw reading written into its channel, before it is judged (R22). -/
def withRaw (s : State) (ch : Channel) (raw : RawReading) : State :=
  s.setChannel ch { s.channel ch with lastRaw := some raw }

theorem takeReading_good {s : State} {ch : Channel} {raw : RawReading} (low : 123 ≤ raw.toNat) (high : raw.toNat ≤ 3972)
    (judged : ch.val = 3 → s.params.p03 = .fitted) : s.takeReading ch raw = (s.withRaw ch raw).goodReading ch raw := by
  have hj : (s.withRaw ch raw).isJudged ch = true := (isJudged_iff _ ch).mpr judged
  have hg : isGood raw = true := (isGood_iff raw).mpr ⟨low, high⟩
  unfold withRaw at hj
  unfold takeReading withRaw
  dsimp only
  rw [if_pos hj, if_pos hg]

theorem takeReading_bad {s : State} {ch : Channel} {raw : RawReading} (bad : raw.toNat < 123 ∨ 3972 < raw.toNat)
    (judged : ch.val = 3 → s.params.p03 = .fitted) : s.takeReading ch raw = (s.withRaw ch raw).badReading ch := by
  have hj : (s.withRaw ch raw).isJudged ch = true := (isJudged_iff _ ch).mpr judged
  have hg : ¬isGood raw = true := fun good => by have := (isGood_iff raw).mp good; omega
  unfold withRaw at hj
  unfold takeReading withRaw
  dsimp only
  rw [if_pos hj, if_neg hg]

/-- What an offer to a comparator leaves alone: what the air control leaves alone of the comparator written. -/
theorem offerTrip_frame (s : State) (k : ComparatorId) (v : Nat) :
    ∃ x, AirFrame (s.setComparator k x) (s.offerTrip k v) := by
  unfold offerTrip trip
  dsimp only
  split_ifs
  all_goals first
    | exact ⟨_, .refl _⟩
    | exact ⟨_, AirClosed.tripCut_closed (airFrame_closed _) _ ((airFrame_closed _).logEvent _ _ _ _ (.refl _))⟩

/-- An offer to a comparator leaves the channels, the configuration and the mode alone (R36). -/
theorem offerReading_keeps (s : State) (ch : Channel) (raw : RawReading) :
    (s.offerReading ch raw).sensing.channels = s.sensing.channels ∧ (s.offerReading ch raw).params = s.params ∧
      (s.offerReading ch raw).height.mode = s.height.mode := by
  unfold offerReading
  split
  · split
    · exact ⟨rfl, rfl, rfl⟩
    · obtain ⟨x, frame⟩ := s.offerTrip_frame _ (convert s.params.p96[ch.val] raw)
      exact ⟨by rw [frame.sensing]; rfl, frame.params, frame.mode⟩
  · exact ⟨rfl, rfl, rfl⟩

/-- The filtered value reads the configuration and the mode alone (R27, R28). -/
theorem filter_congr {s t : State} (params : t.params = s.params) (mode : t.height.mode = s.height.mode) (ch : Channel)
    (h : List RawReading) : t.filter ch h = s.filter ch h := by
  unfold filter window
  rw [params, mode]

end State

end Sys2Proof.Machine
end

section
namespace Sys2Proof.Machine
namespace State

/-- The channel that a good reading leaves (R22, R26, R27, R30, R31, R33). -/
def goodChannel (s : State) (ch : Channel) (raw : RawReading) : AnalogChannel :=
  { s.channelAfterGood ch raw with lastRaw := some raw }

/-- A good reading of a judged channel offered to the comparator and written into its channel, before anything is told
(R36, R26). -/
def goodTaken (s : State) (ch : Channel) (raw : RawReading) : State :=
  ((s.withRaw ch raw).offerReading ch raw).setChannel ch (s.goodChannel ch raw)

/-- The same with a change of status told (R33, R34). -/
def goodTold (s : State) (ch : Channel) (raw : RawReading) : State :=
  if (s.goodChannel ch raw).status = (s.channel ch).status then s.goodTaken ch raw
  else ((s.goodTaken ch raw).reportValid ch (s.channel ch).status).handStatus ch

/-- The reading joins its channel alone, whatever the comparator has cut before (R26, R36). -/
theorem offerReading_withRaw_keeps (s : State) (ch : Channel) (raw : RawReading) :
    let t := (s.withRaw ch raw).offerReading ch raw
    t.channel ch = { s.channel ch with lastRaw := some raw } ∧ t.channelAfterGood ch raw = s.goodChannel ch raw ∧
      ∀ d, d ≠ ch → t.channel d = s.channel d := by
  intro t
  obtain ⟨channels, params, mode⟩ := (s.withRaw ch raw).offerReading_keeps ch raw
  have same (d : Channel) : t.channel d = (s.withRaw ch raw).channel d := by unfold channel; rw [channels]
  have own : t.channel ch = { s.channel ch with lastRaw := some raw } := (same ch).trans (s.setChannel_channel ch _)
  refine ⟨own, ?_, fun d e => (same d).trans (s.setChannel_channel_of_ne _ e)⟩
  unfold goodChannel channelAfterGood
  simp only [own, filter_congr (s := s) (t := t) params mode]

/-- What a good reading of a judged channel does, before the hand-offs are taken (R22, R29 to R33). -/
theorem takeReading_good_eq {s : State} {ch : Channel} {raw : RawReading} (low : 123 ≤ raw.toNat)
    (high : raw.toNat ≤ 3972) (judged : ch.val = 3 → s.params.p03 = .fitted) :
    s.takeReading ch raw = (s.goodTold ch raw).handCurrent ch := by
  obtain ⟨own, after, _⟩ := s.offerReading_withRaw_keeps ch raw
  rw [takeReading_good low high judged]
  unfold goodReading goodTold goodTaken
  simp only [after, own, setChannel_channel]

/-- A good reading changes no channel but its own (R26). -/
theorem goodTold_channel (s : State) (ch : Channel) (raw : RawReading) :
    (s.goodTold ch raw).channel ch = s.goodChannel ch raw ∧
      ∀ d, d ≠ ch → (s.goodTold ch raw).channel d = s.channel d := by
  obtain ⟨_, _, others⟩ := s.offerReading_withRaw_keeps ch raw
  have told : (s.goodTold ch raw).sensing = (s.goodTaken ch raw).sensing := by
    unfold goodTold reportValid
    split_ifs <;> simp
  refine ⟨?_, fun d e => ?_⟩
  · rw [channel_congr told]
    exact setChannel_channel ..
  · rw [channel_congr told]
    exact (setChannel_channel_of_ne _ _ e).trans (others d e)

/-- The hand-on of a value and the hand-offs taken leave every channel as it is. -/
theorem settle_handCurrent_channel (s : State) (ch d : Channel) : (s.handCurrent ch).settle.channel d = s.channel d :=
  channel_congr (by simp) d

end State

/-- The hand-on of the fill circuits, the gallery and the two supplies, by channel (R21, R29). -/
theorem handValue_height (s : State) (side : Side) (v : Nat) : s.handValue (heightChannel side) v =
    ((s.followMeasured (sideCircuit side) (some v)).estimateHeight side).evaluateHeight side := by
  cases side <;> rfl

/-- Settles O30: the reading is taken as `takeReading_good_eq` says, and the hand-ons follow by channel. -/
theorem goodReading : Obligations.GoodReading := by
  refine ⟨fun ch raw s low high judged => ?_, fun ch raw s low high judged => ?_, by decide, fun s v => ?_,
    fun s side v => ?_, fun s => ?_⟩
  · intro x run status history
    obtain ⟨own, others⟩ := s.goodTold_channel ch raw
    refine ⟨_, congrArg Host.Outcome.next (congrArg State.settle (State.takeReading_good_eq low high judged)), ?_,
      fun d e => (State.settle_handCurrent_channel _ _ d).trans (others d e)⟩
    rw [State.settle_handCurrent_channel, own]
    rfl
  · intro x run status history read offered taken told
    have hoffered : read.offerReading ch raw = offered := by
      unfold State.offerReading
      rw [show read.channel ch = { x with lastRaw := some raw } from s.setChannel_channel ch _]
      rfl
    have htaken : s.goodTaken ch raw = taken := by
      unfold State.goodTaken
      rw [show (s.withRaw ch raw).offerReading ch raw = offered from hoffered]
      rfl
    have htold : s.goodTold ch raw = told := by
      unfold State.goodTold
      rw [htaken]
      unfold State.reportValid
      show _ = if status = x.status then taken else if x.status = .failed then _ else _
      rw [← apply_ite (State.handStatus · ch)]
      rfl
    show Host.Outcome.next (s.takeReading ch raw).settle = _
    rw [State.takeReading_good_eq low high judged, htold]
    rfl
  · refine ⟨rfl, rfl, rfl, ?_, rfl, rfl⟩
    rw [← State.followMeasured_eq]
    rfl
  · intro c other measured computed both judged
    rw [handValue_height]
    unfold State.evaluateHeight State.estimateHeight
    rw [State.followMeasured_eq]
    simp only [State.isValid_iff]
    rfl
  · unfold State.fillWaits
    simp only [List.any_eq_true, kindFor_needsSupply, State.actionAtGrant_eq_fill]

end Sys2Proof.Machine
end

section
namespace Sys2Proof.Machine

/-! ### Bad readings -/

namespace State

/-- A bad reading of a channel that stays out of FAILED adds to the score and ends the run (R30). -/
theorem badReading_of_scored {s : State} {ch : Channel} (held : (s.channel ch).status ≠ .failed)
    (below : (s.channel ch).badScore + 2 < 20) : s.badReading ch =
      s.setChannel ch { s.channel ch with badScore := (s.channel ch).badScore + 2, goodRun := 0 } :=
  (if_neg held).trans (if_neg (Nat.not_le.mpr below))

/-- A bad reading of a FAILED channel empties its history and its run (R33). -/
theorem badReading_of_failed {s : State} {ch : Channel} (held : (s.channel ch).status = .failed) : s.badReading ch =
    s.setChannel ch { s.channel ch with history := [], goodRun := 0 } :=
  if_pos held

/-- A bad reading that takes the score to its limit fails the channel (R30, R32). -/
theorem badReading_of_limit {s : State} {ch : Channel} (held : (s.channel ch).status ≠ .failed)
    (limit : 20 ≤ (s.channel ch).badScore + 2) : s.badReading ch = s.failChannel ch :=
  (if_neg held).trans (if_pos limit)

/-- A channel written twice holds the last value written. -/
theorem setChannel_setChannel (s : State) (ch : Channel) (x y : AnalogChannel) :
    (s.setChannel ch x).setChannel ch y = s.setChannel ch y := by
  simp [setChannel, setSensing, Vector.set_set]

@[simp] theorem withRaw_channel (s : State) (ch : Channel) (raw : RawReading) :
    (s.withRaw ch raw).channel ch = { s.channel ch with lastRaw := some raw } := s.setChannel_channel ch _

/-- A channel rewritten after its raw value is the channel written once. -/
theorem withRaw_setChannel (s : State) (ch : Channel) (raw : RawReading) (y : AnalogChannel) :
    (s.withRaw ch raw).setChannel ch y = s.setChannel ch y := s.setChannel_setChannel ch _ y

@[simp] theorem clearComparator_channel (s : State) (ch d : Channel) : (s.clearComparator ch).channel d = s.channel d := by
  unfold clearComparator
  split <;> rfl

/-- A channel that fails is left empty with its counts 0, and no other changes (R32). -/
theorem failChannel_channel (s : State) (ch : Channel) :
    (s.failChannel ch).channel ch =
      { s.channel ch with history := [], status := .failed, badScore := 0, goodRun := 0 } ∧
    ∀ d, d ≠ ch → (s.failChannel ch).channel d = s.channel d := by
  let emptied := s.setChannel ch
    { s.channel ch with history := [], status := .failed, badScore := 0, goodRun := 0 }
  have told (d : Channel) : (s.failChannel ch).channel d = emptied.channel d := by
    rw [← emptied.clearComparator_channel ch d]
    exact channel_congr (by unfold failChannel; simp [emptied]) d
  exact ⟨(told ch).trans (s.setChannel_channel ch _), fun d e => (told d).trans (s.setChannel_channel_of_ne _ e)⟩

/-- The receivers of a height channel's status (R44, R112, R115). -/
theorem handStatus_height (s : State) (side : Side) :
    s.handStatus (heightChannel side) = s.handHeightStatus side := by
  cases side <;> rfl

/-- The measured field withdrawn and the heights chosen afresh leave alone what the Load Estimator leaves alone. -/
theorem sourced_frame (s : State) (side : Side) :
    EstimatorFrame s (if s.isValid (heightChannel side) then s
      else s.followMeasured (sideCircuit side) none).estimateHeightStatus := by
  have closed := estimatorFrame_closed s
  have start : EstimatorFrame s s := (AirFrame.refl s).toEstimatorFrame
  refine EstimatorClosed.estimateHeightStatus_closed closed ?_
  split
  · exact start
  · exact EstimatorClosed.followMeasured_closed closed _ _ start

theorem isActive_iff (s : State) (id : ConditionId) : s.isActive id = true ↔ ∃ a ∈ s.events.conditions, a.id = id := by
  simp [isActive]

@[simp] theorem withdraw_height (s : State) (c : CircuitId) : (s.withdraw c).height = s.height := by
  unfold withdraw
  split <;> simp

/-- A side that loses its height: its waiting demand withdrawn, its pending direction ended (R112). -/
theorem loseSide_eq (s : State) (side : Side) : s.loseSide side = (s.withdraw (sideCircuit side)).setSideControl side
    { s.sideControl side with pendingDir := none, pendingSince := none, expiry := none } := by
  unfold loseSide sideControl
  simp only [withdraw_height]

/-- A channel is out when it is UNKNOWN or FAILED. -/
theorem notValid_iff (s : State) (ch : Channel) : (!s.isValid ch) = true ↔ (s.channel ch).status ≠ .valid := by
  simp [isValid]

theorem heightsLost_iff (s : State) :
    s.heightsLost = true ↔ (s.channel 5).status ≠ .valid ∧ (s.channel 6).status ≠ .valid := by
  simp [heightsLost, isValid]

end State

/-- A bad reading of a judged channel as a command: the reading joins the channel before it is judged. -/
theorem exec_badReading {s : State} {ch : Channel} {raw : RawReading} (bad : raw.toNat < 123 ∨ 3972 < raw.toNat)
    (judged : ch.val = 3 → s.params.p03 = .fitted) :
    exec (.analogReading ch raw) s = finish ((s.withRaw ch raw).badReading ch) :=
  congrArg finish (State.takeReading_bad bad judged)

/-- Settles O31: the reading by the score of its channel, and the receivers by channel. -/
theorem badReading : Obligations.BadReading := by
  refine ⟨fun ch raw s bad judged => ?_, fun raw s unfitted idle => ?_, fun ch raw s bad judged => ?_, fun s => ?_,
    fun s side => ?_, State.followMeasured_eq, fun s => ?_⟩
  · intro x
    rw [exec_badReading bad judged]
    refine ⟨fun held below idle => ?_, fun held idle => ?_, fun held limit => ?_⟩
    · rw [State.badReading_of_scored (by simpa using held) (by simpa using below), State.withRaw_setChannel,
        State.withRaw_channel]
      exact finish_of_nil idle
    · rw [State.badReading_of_failed (by simpa using held), State.withRaw_setChannel, State.withRaw_channel]
      exact finish_of_nil idle
    · rw [State.badReading_of_limit (by simpa using held) (by simpa using limit)]
      obtain ⟨own, others⟩ := (s.withRaw ch raw).failChannel_channel ch
      refine ⟨_, rfl, ?_, fun d e => ?_⟩
      · rw [State.channel_congr (State.settle_sensing _), own, State.withRaw_channel]
      · rw [State.channel_congr (State.settle_sensing _), others d e]
        exact s.setChannel_channel_of_ne _ e
  · have unjudged : ¬(s.withRaw 3 raw).isJudged 3 = true := by
      rw [State.isJudged_iff]
      intro fitted
      cases unfitted.symm.trans (fitted rfl)
    have taken : s.takeReading 3 raw = s.withRaw 3 raw := if_neg unjudged
    show finish (s.takeReading 3 raw) = _
    rw [taken]
    exact finish_of_nil idle
  · intro x held limit sev failed cleared
    have hfailed : (s.withRaw ch raw).setChannel ch { (s.withRaw ch raw).channel ch with
        history := [], status := .failed, badScore := 0, goodRun := 0 } = failed := by
      rw [State.withRaw_channel]
      rfl
    have hcleared : failed.clearComparator ch = cleared := rfl
    rw [exec_badReading bad judged, State.badReading_of_limit (by simpa using held) (by simpa using limit)]
    unfold State.failChannel
    dsimp only
    rw [hfailed, hcleared]
    rfl
  · exact ⟨if_congr (s.notValid_iff 0) rfl rfl, if_congr (s.notValid_iff 1) rfl rfl,
      if_congr (s.notValid_iff 2) rfl rfl, congrArg State.evaluateLift (if_congr (s.notValid_iff 3) rfl rfl), rfl,
      if_congr (s.notValid_iff 7) rfl rfl⟩
  · intro own
    have followed : (if s.isValid (heightChannel side) then s
        else s.followMeasured (sideCircuit side) none) = own :=
      (if_congr (s.isValid_iff _) rfl rfl).trans (ite_not ..).symm
    have control : own.estimateHeightStatus.supervisor = s.supervisor := by
      rw [← followed]
      exact (State.sourced_frame s side).supervisor
    rw [State.handStatus_height]
    unfold State.handHeightStatus
    dsimp only
    rw [followed, control]
    rfl
  · intro lost active ended
    unfold State.judgeHeightLost
    refine ⟨fun gone held => ?_, fun gone held => ?_, fun back => ?_⟩
    · rw [if_pos (s.heightsLost_iff.mpr gone), if_pos ((s.isActive_iff _).mpr held)]
    · rw [if_pos (s.heightsLost_iff.mpr gone), if_neg (mt (s.isActive_iff _).mp held), State.loseSide_eq, State.loseSide_eq]
    · rw [if_neg (mt s.heightsLost_iff.mp back)]

end Sys2Proof.Machine
end

section
namespace Sys2Proof.Machine

/-! ### What the Height Controller's changes keep -/

/-- `P` is kept by the updates that follow a change of mode or ramp state: those of the receivers, of the channels
computed again, and of the Height Controller but for its ramp state. -/
structure ControllerClosed (P : State → Prop) : Prop extends ReceiverClosed P where
  /-- a channel is replaced -/
  setChannel : ∀ {s : State} (ch : Channel) (x : AnalogChannel), P s → P (s.setChannel ch x)
  /-- the Height Controller's items are replaced, but for the ramp state -/
  setHeight : ∀ {s : State} (x : HeightController), x.ramp = s.height.ramp → x.rampRead = s.height.rampRead → P s →
    P (s.setHeight x)

/-- Channels computed again keep what their receivers and a channel written keep (R25, R28). -/
theorem ReceiverClosed.recomputeHeights_closed {P : State → Prop} {s : State} (h : ReceiverClosed P)
    (setChannel : ∀ {t : State} (ch : Channel) (x : AnalogChannel), P t → P (t.setChannel ch x)) (hs : P s) :
    P s.recomputeHeights := by
  have channel (ch) {t : State} (ht : P t) : P (t.recomputeChannel ch) := by
    unfold State.recomputeChannel
    dsimp only
    split
    · exact ht
    · exact setChannel _ _ ht
    · exact h.handCurrent_closed _ (setChannel _ _ ht)
  exact channel 6 (channel 5 hs)

namespace ControllerClosed

variable {P : State → Prop} {s : State}

theorem formTarget_closed (h : ControllerClosed P) (hs : P s) : P s.formTarget := by
  have written (side) {t : State} (ht : P t) : P (t.writeSideTarget side) := by
    unfold State.writeSideTarget
    split
    · exact h.setCircuit _ _ (Nat.le_max_right _ _) ht
    · exact ht
  unfold State.formTarget
  split
  · exact hs
  · exact AirClosed.evaluateSides_closed h.toAirClosed (h.setSideControl _ _ (h.setSideControl _ _
      (EstimatorClosed.estimateTarget_closed h.toEstimatorClosed
        (written .right (written .left (h.setHeight _ rfl rfl hs))))))

theorem tellLiftMode_closed (h : AirClosed P) (hs : P s) : P s.tellLiftMode := by
  unfold State.tellLiftMode
  split
  · exact AirClosed.testDwell_closed h hs
  · exact AirClosed.testDwell_closed h (AirClosed.lower_closed h _ hs)

theorem changeMode_closed (h : ControllerClosed P) (m : HeightMode) (hs : P s) : P (s.changeMode m) := by
  unfold State.changeMode
  extract_lets windowWas moded named computed
  have hnamed : P named := h.logEvent _ _ _ _ (h.setHeight _ rfl rfl hs)
  have hcomputed : P computed := by
    show P (if named.window 5 = windowWas then named else named.recomputeHeights)
    split
    · exact hnamed
    · exact h.recomputeHeights_closed h.setChannel hnamed
  exact AirClosed.evaluateSides_closed h.toAirClosed (h.formTarget_closed (tellLiftMode_closed h.toAirClosed hcomputed))

theorem returnToRide_closed (h : ControllerClosed P) (hs : P s) : P s.returnToRide := by
  unfold State.returnToRide
  split
  · exact h.changeMode_closed _ hs
  · exact hs

theorem judgeRampAtSpeed_closed (h : AirClosed P) (hs : P s) : P s.judgeRampAtSpeed := by
  unfold State.judgeRampAtSpeed
  split_ifs
  · exact hs
  · exact h.logEvent _ _ _ _ (AirClosed.raise_closed h _ _ hs)
  · exact AirClosed.clear_closed h _ hs

/-- The effects of a ramp state keep what the Height Controller's changes keep (R108). -/
theorem rampEffects_closed (h : ControllerClosed P) (st : RampState) (hs : P s) : P (s.rampEffects st) := by
  have air := h.toAirClosed
  have lowered {t : State} (ht : P t) : P ((t.judgeRampAtSpeed.lower .safety).testDwell) :=
    AirClosed.testDwell_closed air (AirClosed.lower_closed air _ (judgeRampAtSpeed_closed air ht))
  cases st
  case up =>
    exact AirClosed.testDwell_closed air
      (judgeRampAtSpeed_closed air (h.returnToRide_closed (AirClosed.clear_closed air _ hs)))
  case down => exact lowered (AirClosed.clear_closed air _ hs)
  case unknown => exact lowered (h.logEvent _ _ _ _ (AirClosed.raise_closed air _ _ hs))

end ControllerClosed

/-- The ramp input and the ramp state are left alone by what follows a ramp reading. -/
theorem ramp_controllerClosed (debounced : Option RampState) (ramp : RampState) :
    ControllerClosed fun s => s.sensing.ramp.debounced = debounced ∧ s.height.ramp = ramp ∧ s.height.rampRead = true :=
  { airClosed_of_frame fun frame k => by rw [frame.sensing, frame.ramp, frame.rampRead]; exact k with
    setEstimator := fun _ k => k
    clearFlag := fun _ k => k
    setSupervisor := fun _ _ k => k
    setControl := fun _ k => k
    setChannel := fun _ _ k => k
    setHeight := fun _ e f k => ⟨k.1, e.trans k.2.1, f.trans k.2.2⟩ }

/-! ### The debounced inputs -/

namespace State

theorem rampDue_iff (s : State) : s.rampDue = true ↔
    s.sensing.ramp.since + 200 ≤ s.now ∧ s.sensing.ramp.debounced ≠ some s.sensing.ramp.candidate := by
  unfold rampDue
  simp only [Bool.and_eq_true, decide_eq_true_eq]
  exact Iff.rfl

theorem positionDue_iff (s : State) : s.positionDue = true ↔
    s.sensing.position.since + 50 ≤ s.now ∧ s.position ≠ some s.sensing.position.raw := by
  unfold positionDue
  simp only [Bool.and_eq_true, decide_eq_true_eq]
  exact Iff.rfl

/-- A debounced ramp reading written, before its effects (R38, R108). -/
def rampTaken (s : State) : State :=
  (s.setSensing { s.sensing with ramp := { s.sensing.ramp with debounced := some s.sensing.ramp.candidate } }).setHeight
    { s.height with rampRead := true, ramp := s.sensing.ramp.candidate }

/-- A ramp state changes unless it has been read and is the one held (R108). -/
theorem rampChanges_iff (read : Bool) (held new : RampState) :
    (!read || held ≠ new) = true ↔ ¬(read = true ∧ held = new) := by
  cases read <;> simp

/-- A debounced ramp reading that is the state held is written and does nothing else (R108). -/
theorem takeDebouncedRamp_same {s : State} (read : s.height.rampRead = true)
    (same : s.height.ramp = s.sensing.ramp.candidate) : s.takeDebouncedRamp = s.rampTaken :=
  if_neg (mt (rampChanges_iff ..).mp (not_not_intro ⟨read, same⟩))

/-- A debounced ramp reading other than the state held, or the first one, logs its event and has its effects (R108). -/
theorem takeDebouncedRamp_changed {s : State}
    (changed : ¬(s.height.rampRead = true ∧ s.height.ramp = s.sensing.ramp.candidate)) :
    s.takeDebouncedRamp = (s.rampTaken.logEvent .rampChanged .advisory none
      (some s.sensing.ramp.candidate.code)).rampEffects s.sensing.ramp.candidate :=
  if_pos ((rampChanges_iff ..).mpr changed)

/-- The reading and the ramp state stand through all that follows (R38, R108). -/
theorem takeDebouncedRamp_ramp (s : State) : s.takeDebouncedRamp.sensing.ramp.debounced = some s.sensing.ramp.candidate ∧
    s.takeDebouncedRamp.height.ramp = s.sensing.ramp.candidate ∧ s.takeDebouncedRamp.height.rampRead = true := by
  have closed := ramp_controllerClosed (some s.sensing.ramp.candidate) s.sensing.ramp.candidate
  have taken : s.rampTaken.sensing.ramp.debounced = some s.sensing.ramp.candidate ∧
    s.rampTaken.height.ramp = s.sensing.ramp.candidate ∧ s.rampTaken.height.rampRead = true := ⟨rfl, rfl, rfl⟩
  by_cases same : s.height.rampRead = true ∧ s.height.ramp = s.sensing.ramp.candidate
  · rw [takeDebouncedRamp_same same.1 same.2]
    exact taken
  · rw [takeDebouncedRamp_changed same]
    exact closed.rampEffects_closed _ (closed.logEvent _ _ _ _ taken)

/-- A debounced position taken stands through all that its receivers do (R39). -/
theorem takePosition_position (s : State) : s.takePosition.position = some s.sensing.position.raw := by
  let read := s.setSensing { s.sensing with
    position := { s.sensing.position with debounced := some s.sensing.position.raw } }
  have closed := sensing_receiverClosed read.sensing
  have watched : read.watchPosition.sensing = read.sensing := by
    unfold watchPosition
    split
    · exact AirClosed.liftSwitched_closed closed.toAirClosed (AirClosed.endSwitch_closed closed.toAirClosed rfl)
    · rfl
  have taken : s.takePosition.sensing = read.sensing :=
    AirClosed.liftPosition_closed closed.toAirClosed _ (EstimatorClosed.estimatePosition_closed closed.toEstimatorClosed
      watched)
  exact congrArg (·.position.debounced) taken

end State

theorem rampCandidate_eq (no nc : Bool) :
    rampCandidate no nc = if nc && !no then .up else if no && !nc then .down else .unknown := by
  cases no <;> cases nc <;> rfl

/-- A debounced ramp reading that is due is taken (R38). -/
theorem exec_debouncedRampReading {s : State} (held : s.sensing.ramp.since + 200 ≤ s.now)
    (new : s.sensing.ramp.debounced ≠ some s.sensing.ramp.candidate) :
    exec .debouncedRampReading s = .next s.takeDebouncedRamp.settle :=
  congrArg finish (if_pos (s.rampDue_iff.mpr ⟨held, new⟩))

/-- Settles O33: the candidates are written, and a reading that is due is taken with its effects. -/
theorem debouncedInputs : Obligations.DebouncedInputs := by
  refine ⟨fun no nc s idle => ?_, fun s held new => ?_, fun s early idle => ?_, fun p s idle => finish_of_nil idle,
    fun s held new => ?_, fun s early idle => ?_, fun s held new => ?_⟩
  · intro candidate
    have same : rampCandidate no nc = candidate := rampCandidate_eq no nc
    rw [← same]
    exact finish_of_nil idle
  · refine ⟨_, exec_debouncedRampReading held new, ?_⟩
    have frame := s.takeDebouncedRamp.settle_frame
    rw [frame.sensing, frame.ramp, frame.rampRead]
    exact s.takeDebouncedRamp_ramp
  · have undue : ¬s.rampDue = true := fun due => absurd (s.rampDue_iff.mp due).1 (by omega)
    exact (congrArg finish (if_neg undue)).trans (finish_of_nil idle)
  · refine ⟨_, congrArg finish (if_pos (s.positionDue_iff.mpr ⟨held, new⟩)), ?_⟩
    exact (congrArg (·.position.debounced) s.takePosition.settle_sensing).trans s.takePosition_position
  · have undue : ¬s.positionDue = true := fun due => absurd (s.positionDue_iff.mp due).1 (by omega)
    exact (congrArg finish (if_neg undue)).trans (finish_of_nil idle)
  · intro candidate read logged same
    rw [exec_debouncedRampReading held new]
    refine ⟨fun k => ?_, fun k up => ?_, fun k down => ?_, fun k unknown => ?_⟩
    · rw [State.takeDebouncedRamp_same k.1 k.2]
      rfl
    all_goals rw [State.takeDebouncedRamp_changed k]
    · exact congrArg (fun st => finish (logged.rampEffects st)) up
    · exact congrArg (fun st => finish (logged.rampEffects st)) down
    · exact congrArg (fun st => finish (logged.rampEffects st)) unknown

end Sys2Proof.Machine
end

section
namespace Sys2Proof.Machine

/-! ### Requests refused and taken -/

/-- Hearing a request leaves no hand-off and no restart pending (R153). -/
theorem State.Ready.heard {s : State} (h : s.Ready) : s.heard.deferred = [] ∧ s.heard.link.restartPending = false := by
  obtain ⟨_, pending, _, idle⟩ := h
  exact ⟨idle, pending⟩

/-- A request judged to be refused is completed with the refusal alone (R153). -/
theorem request_of_refused {s : State} (h : s.Ready) {k : Kind} {body : List Byte} {reason : Reason} (tag : Byte)
    (judged : s.heard.judgeAndCarryOut k.code body =
      (.refused reason, s.heard.noteRefusal k.code (.refused reason))) :
    request k tag body s = s.refusedWith k tag reason := by
  obtain ⟨idle, pending⟩ := h.heard
  have noted : (s.heard.noteRefusal k.code (.refused reason)).link.restartPending = false := by
    rw [← pending]
    exact s.heard.logEvent_link_restartPending ..
  have undeferred : (s.heard.noteRefusal k.code (.refused reason)).deferred = [] := by
    rw [← idle]
    exact s.heard.logEvent_deferred ..
  rw [request_of_ready h, judged]
  dsimp only
  rw [noted, State.settle_of_nil (show (State.placeReply _ _).deferred = [] from undeferred)]
  rfl

/-- A request that its owner refuses (R153 step 5). -/
theorem request_refused_by_owner {s : State} (h : s.Serving) {k : Kind} {body : List Byte} {r : Request}
    {reason : Reason} (tag : Byte) (read : readBody isParam k body = .ok r)
    (answered : s.heard.answer r = (.refused reason, s.heard)) :
    request k tag body s = s.refusedWith k tag reason := by
  obtain ⟨ready, started⟩ := h
  refine request_of_refused ready tag ?_
  rw [judgeAndCarryOut_of_read (fun starting => absurd starting started) read, answered]
  dsimp only
  rw [State.settle_of_nil ready.heard.1]

/-- A body that does not read as a request is refused with the reason of its reading (R153 step 4). -/
theorem request_refused_by_reading {s : State} (h : s.Serving) {k : Kind} {body : List Byte} {reason : Reason}
    (tag : Byte) (read : readBody isParam k body = .error reason) :
    request k tag body s = s.refusedWith k tag reason := by
  obtain ⟨ready, started⟩ := h
  have control : s.heard.supervisor.control ≠ .starting := started
  refine request_of_refused ready tag ?_
  unfold State.judgeAndCarryOut State.judgeRequest State.mustAbortLoad
  simp [kindOf_code, control, read]

/-- A kind that is not served while STARTING is refused with STARTING; here one that aborts no load (R155). -/
theorem request_refused_while_starting {s : State} (h : s.Ready) (starting : s.supervisor.control = .starting)
    {k : Kind} (unserved : k.servedStarting = false) (harmless : k.abortsLoad = false) (tag : Byte) (body : List Byte) :
    request k tag body s = s.refusedWith k tag .starting := by
  have control : s.heard.supervisor.control = .starting := starting
  refine request_of_refused h tag ?_
  unfold State.judgeAndCarryOut State.judgeRequest State.mustAbortLoad
  simp [kindOf_code, control, unserved, harmless]

/-- A request its owner takes after STARTING is completed with the owner's act and answer (R153). -/
theorem request_served {s t : State} (h : s.Serving) {k : Kind} {body : List Byte} {r : Request} {a : Answer}
    (tag : Byte) (read : readBody isParam k body = .ok r) (answered : s.heard.answer r = (a, t))
    (taken : ∀ reason, a ≠ .refused reason) (stays : t.link.restartPending = false) :
    request k tag body s = t.completed k tag a :=
  request_taken h.1 tag (fun starting => absurd starting h.2) read answered taken
    (AirClosed.settle_closed noRestart_closed.toAirClosed stays)

theorem Answer.taken_ne {α : Type} [DecidableEq α] (x y : α) (data : List Byte) :
    Answer.taken (decide (x ≠ y)) data = if x = y then .done data else .clamped data := by
  unfold Answer.taken
  by_cases e : x = y <;> simp [e]

/-- A word spelt in two bytes and read again (R162). -/
theorem word2_wordBytes (w : Word) : word2 (byteOf (w.toNat / 256)) (byteOf w.toNat) = w := by
  apply BitVec.eq_of_toNat_eq
  have := w.isLt
  simp only [word2, nat2, byteOf, BitVec.toNat_ofNat]
  omega

end Sys2Proof.Machine
end

section
namespace Sys2Proof.Machine

/-! ### Modes and the side height target -/

/-- The running configuration, the mode and the custom height are left alone by the receivers of a reading. -/
theorem controls_receiverClosed (p : Params) (m : HeightMode) (x : Nat) :
    ReceiverClosed fun s => s.params = p ∧ s.height.mode = m ∧ s.height.customHeight = x :=
  { airClosed_of_frame fun frame k => by rw [frame.params, frame.mode, frame.customHeight]; exact k with
    setEstimator := fun _ k => k
    clearFlag := fun _ k => k
    setSupervisor := fun _ _ k => k
    setControl := fun _ k => k }

namespace State

theorem moving_iff (s : State) :
    s.moving = true ↔ s.height.speed = none ∨ ∃ v, s.height.speed = some v ∧ s.params.p21 ≤ v := by
  unfold moving
  cases s.height.speed <;> simp

/-- The interlock on a mode: the ramp not UP, or a mode other than RIDE while moving (R106). -/
theorem modeInterlocked_iff (s : State) (m : HeightMode) :
    s.modeInterlocked m = true ↔ s.height.ramp ≠ .up ∨ (m ≠ .ride ∧ s.moving = true) := by
  simp [modeInterlocked]

theorem window_height (s : State) : s.window 5 = if s.height.mode = .ride then s.params.p19 else s.params.p20 := rfl

/-- A target that differs is formed and taken as one act (R105). -/
theorem formTarget_of_ne {s : State} (new : s.height.target ≠ some s.formedTarget) :
    s.formTarget = ((((((s.setHeight { s.height with target := some s.formedTarget }).writeSideTarget
      .left).writeSideTarget .right).estimateTarget).markTargetChanged .left).markTargetChanged
      .right).evaluateSides := by
  unfold formTarget
  rw [if_neg new]

theorem formTarget_of_eq {s : State} (held : s.height.target = some s.formedTarget) : s.formTarget = s :=
  if_pos held

/-- What the act of a target change leaves alone once the target is written. -/
theorem formTarget_frame {s : State} (new : s.height.target ≠ some s.formedTarget) :
    EstimatorFrame (s.setHeight { s.height with target := some s.formedTarget }) s.formTarget := by
  let a := s.setHeight { s.height with target := some s.formedTarget }
  have closed := estimatorFrame_closed a
  have written (side) {t : State} (ht : EstimatorFrame a t) : EstimatorFrame a (t.writeSideTarget side) := by
    unfold writeSideTarget
    split
    · exact closed.setCircuit _ _ (Nat.le_max_right _ _) ht
    · exact ht
  rw [formTarget_of_ne new]
  exact AirClosed.evaluateSides_closed closed.toAirClosed (closed.setSideControl _ _ (closed.setSideControl _ _
    (EstimatorClosed.estimateTarget_closed closed (written .right (written .left
      (AirFrame.refl _).toEstimatorFrame)))))

/-- The target formed is the one of the mode, and the mode and the custom height stay (R105). -/
theorem formTarget_controls (s : State) : s.formTarget.height.mode = s.height.mode ∧
    s.formTarget.height.customHeight = s.height.customHeight ∧ s.formTarget.height.target = some s.formedTarget := by
  by_cases held : s.height.target = some s.formedTarget
  · rw [formTarget_of_eq held]
    exact ⟨rfl, rfl, held⟩
  · have frame := formTarget_frame held
    exact ⟨frame.mode, frame.customHeight, frame.target⟩

/-- The evaluation of the sides leaves the mode, the custom height and the target alone (R113). -/
theorem evaluateSides_frame (s : State) : AirFrame s s.evaluateSides :=
  AirClosed.evaluateSides_closed (airFrame_closed s) (.refl s)

/-- A new mode logged, and the heights computed again where their window changes (R106, R28). -/
def modeNamed (s : State) (m : HeightMode) : State :=
  (s.setHeight { s.height with mode := m }).logEvent .modeChanged .advisory none (some m.code)

/-- The same with the heights computed again where their window changes (R28). -/
def modeHeard (s : State) (m : HeightMode) : State :=
  if (s.height.mode = .ride ∨ m = .ride) ∧ s.params.p19 ≠ s.params.p20 then (s.modeNamed m).recomputeHeights
  else s.modeNamed m

/-- The window of a change of mode stays exactly when the modes span the same number of readings (R28). -/
theorem modeNamed_window {s : State} {m : HeightMode} (new : s.height.mode ≠ m) :
    (s.modeNamed m).window 5 = s.window 5 ↔
      ¬((s.height.mode = .ride ∨ m = .ride) ∧ s.params.p19 ≠ s.params.p20) := by
  have named : (s.modeNamed m).window 5 = if m = .ride then s.params.p19 else s.params.p20 := by
    rw [window_height]
    simp [modeNamed]
  rw [named, window_height]
  by_cases riding : s.height.mode = .ride
  · have : m ≠ .ride := fun e => new (riding.trans e.symm)
    simp [riding, this, eq_comm]
  · by_cases rides : m = .ride <;> simp [riding, rides]

/-- A new mode told keeps the configuration and the custom height, and is the mode held (R106). -/
theorem modeHeard_controls (s : State) (m : HeightMode) : (s.modeHeard m).params = s.params ∧
    (s.modeHeard m).height.mode = m ∧ (s.modeHeard m).height.customHeight = s.height.customHeight := by
  have closed := controls_receiverClosed s.params m s.height.customHeight
  have named : (s.modeNamed m).params = s.params ∧ (s.modeNamed m).height.mode = m ∧
      (s.modeNamed m).height.customHeight = s.height.customHeight := by
    unfold modeNamed
    simp
  unfold modeHeard
  split
  · exact closed.recomputeHeights_closed (fun _ _ k => k) named
  · exact named

/-- A change of mode by its parts (R106). -/
theorem changeMode_eq {s : State} {m : HeightMode} (new : s.height.mode ≠ m) :
    s.changeMode m = ((s.modeHeard m).tellLiftMode.formTarget).evaluateSides := by
  have told : (if (s.modeNamed m).window 5 = s.window 5 then s.modeNamed m
      else (s.modeNamed m).recomputeHeights) = s.modeHeard m :=
    (if_congr (modeNamed_window new) rfl rfl).trans (ite_not ..)
  rw [← told]
  rfl

/-- RIDE tests the dwell; DOCK and CUSTOM start a lowering first (R120, R121). -/
theorem tellLiftMode_modeHeard (s : State) (m : HeightMode) : (s.modeHeard m).tellLiftMode =
    if m = .ride then (s.modeHeard m).testDwell else ((s.modeHeard m).lower .lift).testDwell := by
  obtain ⟨_, mode, _⟩ := s.modeHeard_controls m
  unfold tellLiftMode
  rw [mode]

/-- The target a mode forms (R105). -/
def modeTarget (p : Params) (m : HeightMode) (custom : Nat) : Nat :=
  max p.p12 (min p.p13 (match m with
    | .ride => p.p10
    | .dock => p.p11
    | .custom => custom))

theorem formedTarget_eq (s : State) :
    s.formedTarget = modeTarget s.params s.height.mode s.height.customHeight := rfl

/-- A change of mode leaves the mode asked for, the custom height held, and the target of that mode (R105, R106). -/
theorem changeMode_controls {s : State} {m : HeightMode} (new : s.height.mode ≠ m) :
    (s.changeMode m).height.mode = m ∧ (s.changeMode m).height.customHeight = s.height.customHeight ∧
      (s.changeMode m).height.target = some (modeTarget s.params m s.height.customHeight) := by
  obtain ⟨params, mode, custom⟩ := s.modeHeard_controls m
  have told : AirFrame (s.modeHeard m) (s.modeHeard m).tellLiftMode :=
    ControllerClosed.tellLiftMode_closed (airFrame_closed _) (.refl _)
  obtain ⟨mode', custom', target'⟩ := (s.modeHeard m).tellLiftMode.formTarget_controls
  have judged := (s.modeHeard m).tellLiftMode.formTarget.evaluateSides_frame
  rw [changeMode_eq new, judged.mode, judged.customHeight, judged.target, mode', custom', target', formedTarget_eq,
    told.params, told.mode, told.customHeight, params, mode, custom]
  exact ⟨rfl, rfl, rfl⟩

end State

end Sys2Proof.Machine
end

section
namespace Sys2Proof.Machine

/-! ### SET_MODE and STEP_HEIGHT -/

theorem modeOf_eq_none {b : Byte} (h : 2 < b.toNat) : modeOf b = none := by
  unfold modeOf
  split
  case h_4 => rfl
  all_goals omega

theorem modeOf_ride {b : Byte} (h : b.toNat = 0) : modeOf b = some .ride := by simp [modeOf, h]
theorem modeOf_dock {b : Byte} (h : b.toNat = 1) : modeOf b = some .dock := by simp [modeOf, h]
theorem modeOf_custom {b : Byte} (h : b.toNat = 2) : modeOf b = some .custom := by simp [modeOf, h]

/-- A SET_MODE body reads as its operands (R154). -/
theorem readBody_setMode (b : Byte) (h : Option Word) :
    readBody isParam .setMode (b :: (h.map wordBytes).getD []) = .ok (.setMode b h) := by
  cases h with
  | none => rfl
  | some w => exact congrArg (fun x => Except.ok (Request.setMode b (some x))) (word2_wordBytes w)

namespace State

theorem answerSetMode_of_none {s : State} {b : Byte} (h : modeOf b = none) (w : Option Word) :
    s.answerSetMode b w = (.refused .badArgument, s) := by
  unfold answerSetMode; rw [h]

/-- CUSTOM names a height, or is refused (R106). -/
theorem answerSetMode_of_custom {s : State} {b : Byte} (h : modeOf b = some .custom) (w : Option Word) :
    s.answerSetMode b w = match w with
      | none => (.refused .badArgument, s)
      | some w => if s.modeInterlocked .custom then (.refused .interlocked, s)
        else (.taken (clampNat s.params.p12 s.params.p13 w.toNat ≠ w.toNat) [],
          s.takeCustom (clampNat s.params.p12 s.params.p13 w.toNat)) := by
  cases w <;> simp only [answerSetMode, h]

/-- RIDE and DOCK are taken as they are (R106). -/
theorem answerSetMode_of_named {s : State} {b : Byte} {m : HeightMode} (h : modeOf b = some m) (named : m ≠ .custom)
    (w : Option Word) : s.answerSetMode b w =
      if s.modeInterlocked m then (.refused .interlocked, s) else (.done [], s.takeMode m) := by
  unfold answerSetMode; rw [h]
  cases m with
  | custom => exact absurd rfl named
  | ride => rfl
  | dock => rfl

/-- No restart is pending after a mode taken (R147). -/
theorem takeMode_restartPending {s : State} (h : s.link.restartPending = false) (m : HeightMode) :
    (s.takeMode m).link.restartPending = false :=
  CoreClosed.takeMode_closed noRestart_closed.toCoreClosed m h

end State

/-- SET_MODE as a command: its owner refuses it. -/
theorem exec_setMode_refused {s : State} (h : s.Serving) {b : Byte} {w : Option Word} {reason : Reason} (tag : Byte)
    (answered : s.heard.answerSetMode b w = (.refused reason, s.heard)) :
    exec (.setMode tag b w) s = s.refusedWith .setMode tag reason :=
  request_refused_by_owner h tag (readBody_setMode b w) answered

/-- SET_MODE as a command: its owner takes it. -/
theorem exec_setMode_taken {s t : State} (h : s.Serving) {b : Byte} {w : Option Word} {a : Answer} (tag : Byte)
    (answered : s.heard.answerSetMode b w = (a, t)) (taken : ∀ reason, a ≠ .refused reason)
    (stays : t.link.restartPending = false) : exec (.setMode tag b w) s = t.completed .setMode tag a :=
  request_served h tag (readBody_setMode b w) answered taken stays

theorem Answer.ite_ne_refused (c : Prop) [Decidable c] (x y : List Byte) (reason : Reason) :
    (if c then Answer.done x else Answer.clamped y) ≠ .refused reason := by
  split <;> exact fun e => by cases e

/-- Settles O44: the request by its mode code and the interlocks, the change of mode by its parts. -/
theorem setModeRequest : Obligations.SetModeRequest := by
  refine ⟨fun tag b h s serving => ?_, fun s notCustom => ?_, fun s custom => ?_, fun s m new => ?_,
    fun s held => if_pos held, fun s new => State.formTarget_of_ne new, fun s side => ⟨?_, ?_⟩⟩
  · intro moving
    have ready := serving.1.heard
    have locked (m : HeightMode) : s.heard.modeInterlocked m = true ↔ s.height.ramp ≠ .up ∨ (m ≠ .ride ∧ moving) := by
      rw [State.modeInterlocked_iff, State.moving_iff]
      exact Iff.rfl
    refine ⟨fun high => ?_, fun code without => ?_, fun code barred => ?_, fun code speeding => ?_,
      fun code given barred => ?_, fun code up => ?_, fun code up slow => ?_, fun w code given up slow => ?_⟩
    · exact exec_setMode_refused serving tag (State.answerSetMode_of_none (modeOf_eq_none high) h)
    · refine exec_setMode_refused serving tag ?_
      rw [State.answerSetMode_of_custom (modeOf_custom code), without]
    · refine exec_setMode_refused serving tag ?_
      obtain low | low : b.toNat = 0 ∨ b.toNat = 1 := by omega
      · rw [State.answerSetMode_of_named (modeOf_ride low) (by decide), if_pos ((locked _).mpr (.inl barred))]
      · rw [State.answerSetMode_of_named (modeOf_dock low) (by decide), if_pos ((locked _).mpr (.inl barred))]
    · refine exec_setMode_refused serving tag ?_
      rw [State.answerSetMode_of_named (modeOf_dock code) (by decide),
        if_pos ((locked _).mpr (.inr ⟨by decide, speeding⟩))]
    · obtain ⟨w, rfl⟩ := Option.ne_none_iff_exists'.mp given
      refine exec_setMode_refused serving tag ?_
      rw [State.answerSetMode_of_custom (modeOf_custom code)]
      exact if_pos ((locked _).mpr (barred.imp_right fun k => ⟨by decide, k⟩))
    · refine exec_setMode_taken serving tag ?_ (fun _ e => by cases e) (State.takeMode_restartPending ready.2 _)
      rw [State.answerSetMode_of_named (modeOf_ride code) (by decide),
        if_neg (mt (locked _).mp (by simp [up]))]
    · refine exec_setMode_taken serving tag ?_ (fun _ e => by cases e) (State.takeMode_restartPending ready.2 _)
      rw [State.answerSetMode_of_named (modeOf_dock code) (by decide),
        if_neg (mt (locked _).mp (by simp [up, slow]))]
    · intro x
      subst given
      have stays := State.takeMode_restartPending (s := s.heard.setHeight { s.height with customHeight := x }) ready.2 .custom
      refine exec_setMode_taken serving tag ?_ (Answer.ite_ne_refused _ _ _) stays
      rw [State.answerSetMode_of_custom (modeOf_custom code), ← Answer.taken_ne]
      exact if_neg (mt (locked _).mp (by simp [up, slow]))
  · unfold State.takeMode
    rw [if_neg (not_not_intro rfl), if_neg notCustom]
  · unfold State.takeMode
    rw [if_neg (not_not_intro custom), if_pos rfl]
  · intro named heard t
    have changed : t = s.changeMode m := if_pos new
    have parts : s.changeMode m = _ := State.changeMode_eq new
    rw [State.tellLiftMode_modeHeard] at parts
    obtain ⟨mode, _, target⟩ := State.changeMode_controls new
    rw [changed]
    exact ⟨parts, mode, target⟩
  · unfold State.writeSideTarget
    split
    · exact State.setCircuit_circuit ..
    · rfl
  · exact State.setSideControl_sideControl ..

theorem State.takeMode_custom (s : State) :
    s.takeMode .custom = if s.height.mode = .custom then s.formTarget else s.changeMode .custom := by
  unfold State.takeMode
  rw [ite_not, if_pos rfl]

/-- The custom mode taken at a height: the height is held, and the target is formed from it (R105, R107). -/
theorem State.takeMode_custom_controls (s : State) : (s.takeMode .custom).height.mode = .custom ∧
    (s.takeMode .custom).height.customHeight = s.height.customHeight ∧
    (s.takeMode .custom).height.target =
      some (max s.params.p12 (min s.params.p13 s.height.customHeight)) := by
  rw [State.takeMode_custom]
  split
  · rename_i custom
    obtain ⟨mode, held, target⟩ := s.formTarget_controls
    rw [State.formedTarget_eq, custom] at target
    exact ⟨mode.trans custom, held, target⟩
  · exact State.changeMode_controls ‹_›

namespace State

/-- A step of 0 or beyond 50 either way is refused first (R107). -/
theorem answerStepHeight_of_step {s : State} {step : Byte}
    (bad : step.toInt = 0 ∨ 50 < step.toInt ∨ step.toInt < -50) :
    s.answerStepHeight step = (.refused .badArgument, s) := if_pos bad

/-- An allowed step is refused under the interlock of CUSTOM, then while there is no target, else taken (R107). -/
theorem answerStepHeight_of_allowed {s : State} {step : Byte} (nonzero : step.toInt ≠ 0) (high : step.toInt ≤ 50)
    (low : -50 ≤ step.toInt) : s.answerStepHeight step =
      if s.modeInterlocked .custom then (.refused .interlocked, s)
      else match s.height.target with
        | none => (.refused .badConfig, s)
        | some t =>
          let x := clampInt s.params.p12 s.params.p13 (t + step.toInt)
          (.taken (x ≠ t + step.toInt) [], s.takeCustom x.toNat) := by
  have allowed : ¬(step.toInt = 0 ∨ 50 < step.toInt ∨ step.toInt < -50) := by omega
  exact (if_neg allowed).trans rfl

/-- A request completed leaves the Height Controller's settings as its owner's act left them. -/
theorem completed_controls (t : State) (k : Kind) (tag : Byte) (a : Answer) :
    ∃ u, t.completed k tag a = .next u ∧ u.height.mode = t.height.mode ∧
      u.height.customHeight = t.height.customHeight ∧ u.height.target = t.height.target := by
  have acted := t.settle_frame
  have placed := (t.settle.replied k tag a).settle_frame
  exact ⟨_, rfl, placed.mode.trans acted.mode, placed.customHeight.trans acted.customHeight,
    placed.target.trans acted.target⟩

end State

/-- STEP_HEIGHT as a command: its owner refuses it. -/
theorem exec_stepHeight_refused {s : State} (h : s.Serving) {step : Byte} {reason : Reason} (tag : Byte)
    (answered : s.heard.answerStepHeight step = (.refused reason, s.heard)) :
    exec (.stepHeight tag step) s = s.refusedWith .stepHeight tag reason :=
  request_refused_by_owner h tag rfl answered

/-- Settles O45: the request by the tests of R107 in their order, the step through the custom mode. -/
theorem stepHeightRequest : Obligations.StepHeightRequest := by
  refine ⟨fun tag step s ready starting => request_refused_while_starting ready starting rfl rfl tag _,
    fun tag step s serving => ?_, State.takeMode_custom, fun s notCustom => ?_, fun s => ?_⟩
  · intro k barred
    have ready := serving.1.heard
    have locked : s.heard.modeInterlocked .custom = true ↔ barred := by
      rw [State.modeInterlocked_iff, State.moving_iff]
      exact or_congr_right (and_iff_right (by decide))
    refine ⟨fun bad => exec_stepHeight_refused serving tag (State.answerStepHeight_of_step bad),
      fun nonzero high low k => exec_stepHeight_refused serving tag ?_,
      fun nonzero high low free absent => exec_stepHeight_refused serving tag ?_,
      fun t nonzero high low free held => ?_⟩
    · rw [State.answerStepHeight_of_allowed nonzero high low, if_pos (locked.mpr k)]
    · rw [State.answerStepHeight_of_allowed nonzero high low, if_neg (mt locked.mp free)]
      rw [show s.heard.height.target = none from absent]
    · intro x
      let stepped := s.heard.setHeight { s.height with customHeight := x.toNat }
      have answered : s.heard.answerStepHeight step =
          (if x = t + k then .done [] else .clamped [], stepped.takeMode .custom) := by
        rw [State.answerStepHeight_of_allowed nonzero high low, if_neg (mt locked.mp free), ← Answer.taken_ne]
        rw [show s.heard.height.target = some t from held]
        rfl
      have taken : exec (.stepHeight tag step) s = (stepped.takeMode .custom).completed .stepHeight tag
          (if x = t + k then .done [] else .clamped []) :=
        request_served serving tag rfl answered (Answer.ite_ne_refused _ _ _)
          (State.takeMode_restartPending (s := stepped) ready.2 .custom)
      obtain ⟨u, completed, mode, custom, target⟩ := (stepped.takeMode .custom).completed_controls .stepHeight tag
        (if x = t + k then .done [] else .clamped [])
      obtain ⟨mode', custom', target'⟩ := stepped.takeMode_custom_controls
      have clamped : max s.params.p12 (min s.params.p13 x.toNat) = x.toNat := by omega
      refine ⟨taken, u, taken.trans completed, mode.trans mode', custom.trans custom', target.trans (target'.trans ?_)⟩
      exact congrArg some clamped
  · intro named heard
    have parts : s.changeMode .custom = _ := State.changeMode_eq notCustom
    rw [State.tellLiftMode_modeHeard, if_neg (by decide)] at parts
    have same : s.modeHeard .custom = heard := by
      unfold State.modeHeard
      simp only [reduceCtorEq, or_false]
      rfl
    rw [parts, same]
  · obtain ⟨mode, _, target⟩ := s.formTarget_controls
    exact ⟨mode, target, State.formTarget_of_eq⟩

end Sys2Proof.Machine
end

section
namespace Sys2Proof.Machine

/-! ### The one-word parameters -/

/-- The numbers of the one-word parameters (R161, R169). -/
def wordNumbers : List Nat :=
  [1, 2, 3, 10, 11, 12, 13, 14, 15, 16, 17, 18, 19, 20, 21, 30, 31, 32, 33, 34, 35, 36, 37, 38, 39, 40, 41, 42, 43,
   44, 45, 50, 53, 54, 55, 56, 60, 61, 62, 63, 64, 65, 66, 67, 68, 69, 70, 71, 72, 73, 74, 75, 76, 80, 81, 82, 83,
   84, 85, 90, 91, 92, 93, 94, 95]

/-- The one-word parameters of a configuration, each with its number (R161, R169). -/
def wordTable (p : Params) : List (Nat × Int) :=
  [(1, (p.p01 : Int)), (2, if p.p02 = .dual then (1 : Int) else 0),
   (3, if p.p03 = .fitted then (1 : Int) else 0), (10, (p.p10 : Int)), (11, (p.p11 : Int)),
   (12, (p.p12 : Int)), (13, (p.p13 : Int)), (14, (p.p14 : Int)), (15, (p.p15 : Int)), (16, (p.p16 : Int)),
   (17, (p.p17 : Int)), (18, (p.p18 : Int)), (19, (p.p19 : Int)), (20, (p.p20 : Int)), (21, (p.p21 : Int)),
   (30, (p.p30 : Int)), (31, (p.p31 : Int)), (32, (p.p32 : Int)), (33, (p.p33 : Int)), (34, (p.p34 : Int)),
   (35, (p.p35 : Int)), (36, (p.p36 : Int)), (37, (p.p37 : Int)), (38, (p.p38 : Int)), (39, (p.p39 : Int)),
   (40, (p.p40 : Int)), (41, (p.p41 : Int)), (42, (p.p42 : Int)), (43, (p.p43 : Int)), (44, (p.p44 : Int)),
   (45, (p.p45 : Int)), (50, (p.p50 : Int)), (53, (p.p53 : Int)), (54, (p.p54 : Int)), (55, (p.p55 : Int)),
   (56, (p.p56 : Int)), (60, (p.p60 : Int)), (61, (p.p61 : Int)), (62, (p.p62 : Int)), (63, (p.p63 : Int)),
   (64, (p.p64 : Int)), (65, (p.p65 : Int)), (66, (p.p66 : Int)), (67, (p.p67 : Int)), (68, (p.p68 : Int)),
   (69, (p.p69 : Int)), (70, (p.p70 : Int)), (71, (p.p71 : Int)), (72, (p.p72 : Int)), (73, (p.p73 : Int)),
   (74, (p.p74 : Int)), (75, (p.p75 : Int)), (76, p.p76), (80, (p.p80 : Int)), (81, (p.p81 : Int)),
   (82, (p.p82 : Int)), (83, (p.p83 : Int)), (84, if p.p84 = .auto then (1 : Int) else 0), (85, (p.p85 : Int)),
   (90, (p.p90 : Int)), (91, (p.p91 : Int)), (92, (p.p92 : Int)), (93, (p.p93.toNat : Int)),
   (94, (p.p94.toNat : Int)), (95, (p.p95 : Int))]

/-- The table holds what is read of each one-word parameter. -/
theorem wordTable_eq (p : Params) : wordTable p = wordNumbers.map fun k => (k, readWord k p) := rfl

/-- Two configurations that differ in no parameter but the one-word parameter `n`. -/
def KeptBut (n : Nat) (p q : Params) : Prop :=
  (∀ k, k ≠ n → readWord k q = readWord k p) ∧ q.p51 = p.p51 ∧ q.p52 = p.p52 ∧ q.p96 = p.p96

theorem numericParam_mem {n : Nat} {e : NumericParam} (h : numericParam n = some e) : n ∈ wordNumbers := by
  unfold numericParam at h
  split at h
  case h_59 => cases h
  all_goals decide

/-- A number of no one-word parameter reads 0. -/
theorem readWord_of_not_mem {n : Nat} (h : n ∉ wordNumbers) (p : Params) : readWord n p = 0 := by
  have none_ : numericParam n = none := by
    cases e : numericParam n with
    | none => rfl
    | some _ => exact absurd (numericParam_mem e) h
  unfold readWord
  split
  case h_8 => rw [none_]
  all_goals exact absurd (by decide) h

/-- Agreement on the one-word parameters but `n`, checked number by number. -/
theorem keptBut_of_table {n : Nat} {p q : Params}
    (words : (wordTable q).filter (·.1 ≠ n) = (wordTable p).filter (·.1 ≠ n))
    (areas : q.p51 = p.p51) (loads : q.p52 = p.p52) (calibrations : q.p96 = p.p96) : KeptBut n p q := by
  refine ⟨fun k other => ?_, areas, loads, calibrations⟩
  by_cases member : k ∈ wordNumbers
  · have held : (k, readWord k q) ∈ (wordTable q).filter (·.1 ≠ n) := by
      rw [wordTable_eq]
      exact List.mem_filter.mpr ⟨List.mem_map.mpr ⟨k, member, rfl⟩, by simpa using other⟩
    rw [words, wordTable_eq] at held
    obtain ⟨j, _, same⟩ := List.mem_map.mp (List.mem_filter.mp held).1
    obtain ⟨rfl, value⟩ := Prod.mk.inj same
    exact value.symm
  · rw [readWord_of_not_mem member, readWord_of_not_mem member]

/-- A numeric parameter written reads as the value written, and every other parameter is kept (R161). -/
theorem numericParam_set {n : Nat} {e : NumericParam} (h : numericParam n = some e) (x : Int) (p : Params) :
    KeptBut n p (e.set x p) ∧ readWord n (e.set x p) = if n = 76 then x else (x.toNat : Int) := by
  unfold numericParam at h
  split at h <;> cases h
  all_goals exact ⟨keptBut_of_table rfl rfl rfl rfl, rfl⟩

/-- A one-word parameter written keeps every other parameter (R170). -/
theorem writeWord_kept {n : Nat} {w : Word} {p q : Params} {moved : Bool} (h : writeWord n w p = some (q, moved)) :
    KeptBut n p q := by
  unfold writeWord at h
  split at h
  case h_8 =>
    obtain ⟨e, found, written⟩ := Option.map_eq_some_iff.mp h
    cases written
    exact (numericParam_set found _ p).1
  case h_4 | h_5 => cases h; exact keptBut_of_table rfl rfl rfl rfl
  all_goals
    split at h <;> cases h
    all_goals exact keptBut_of_table rfl rfl rfl rfl

/-- A word of a numeric parameter is clamped into the range and written (R170 step 2). -/
theorem writeWord_numeric {n : Nat} {e : NumericParam} (found : numericParam n = some e) (w : Word) (p : Params) :
    writeWord n w p = some (e.set (clampInt e.lo e.hi (wordValue n w)) p,
      clampInt e.lo e.hi (wordValue n w) != wordValue n w) := by
  unfold writeWord
  split
  case h_8 => rw [found]; rfl
  all_goals cases found

/-- A one-word parameter that no clamp has moved reads as the value of its word (R161). -/
theorem readWord_of_unmoved {n : Nat} {w : Word} {p q : Params} (h : writeWord n w p = some (q, false)) :
    readWord n q = wordValue n w := by
  unfold writeWord at h
  split at h
  case h_8 =>
    obtain ⟨e, found, written⟩ := Option.map_eq_some_iff.mp h
    obtain ⟨rfl, unmoved⟩ := Prod.mk.inj written
    rw [(numericParam_set found _ p).2, bne_eq_false_iff_eq.mp unmoved]
    unfold wordValue
    split <;> rfl
  case h_4 | h_5 =>
    obtain ⟨rfl, unmoved⟩ := Prod.mk.inj (Option.some.inj h)
    exact congrArg Int.ofNat (bne_eq_false_iff_eq.mp unmoved)
  case h_6 | h_7 =>
    split at h
    · cases h
      have : w.toNat % 16 = w.toNat := Nat.mod_eq_of_lt (by omega)
      simp [readWord, wordValue, this]
    · cases h
  all_goals
    split at h
    case h_3 => cases h
    all_goals
      rename_i code
      cases h
      simp [readWord, wordValue, code]

/-- The two bytes of a parameter's value are those of its word (R161). -/
theorem signed2_wordValue (n : Nat) (w : Word) : signed2 (wordValue n w) = bytes2 w.toNat := by
  have := w.isLt
  unfold signed2 wordValue
  congr 1
  split
  · rw [BitVec.toInt_eq_toNat_cond]
    split <;> omega
  · omega

end Sys2Proof.Machine
end

section
namespace Sys2Proof.Machine

/-! ### The steps of a SET_PARAM -/

/-- The value of the word two bytes spell (R162). -/
theorem word2_toNat (hi lo : Byte) : (word2 hi lo).toNat = hi.toNat * 256 + lo.toNat := by
  have := hi.isLt
  have := lo.isLt
  simp only [word2, nat2, BitVec.toNat_ofNat]
  omega

theorem bne_eq_decide_ne {α : Type} [DecidableEq α] (x y : α) : (x != y) = decide (x ≠ y) := by
  by_cases e : x = y <;> simp [e]

/-- A word that can be written is proposed, unless the parameter is guarded while RUNNING (R170 steps 1 and 2). -/
theorem propose_word {n : Nat} {hi lo : Byte} {p q : Params} {running moved : Bool} (areas : n ≠ 51) (loads : n ≠ 52)
    (written : writeWord n (word2 hi lo) p = some (q, moved)) : propose p running n [hi, lo] =
      if isGuarded n ∧ running then .error .notSuspended else .ok (q, 0, moved) := by
  unfold propose
  rw [if_neg (by simp [areas, loads])]
  dsimp only
  rw [written]

theorem propose_word_free {n : Nat} {hi lo : Byte} {p q : Params} {running moved : Bool} (areas : n ≠ 51)
    (loads : n ≠ 52) (written : writeWord n (word2 hi lo) p = some (q, moved))
    (free : isGuarded n = true → running = false) : propose p running n [hi, lo] = .ok (q, 0, moved) := by
  rw [propose_word areas loads written, if_neg]
  rintro ⟨guarded, while_running⟩
  cases (free guarded).symm.trans while_running

theorem propose_word_guarded {n : Nat} {hi lo : Byte} {p : Params} (guarded : isGuarded n = true) (areas : n ≠ 51)
    (loads : n ≠ 52) (writable : writeWord n (word2 hi lo) p ≠ none) :
    propose p true n [hi, lo] = .error .notSuspended := by
  obtain ⟨⟨q, moved⟩, written⟩ := Option.ne_none_iff_exists'.mp writable
  rw [propose_word areas loads written, if_pos ⟨guarded, rfl⟩]

/-- A word that cannot be written is refused (R161). -/
theorem propose_word_none {n : Nat} {hi lo : Byte} {p : Params} {running : Bool} (areas : n ≠ 51) (loads : n ≠ 52)
    (unwritable : writeWord n (word2 hi lo) p = none) : propose p running n [hi, lo] = .error .badArgument := by
  unfold propose
  rw [if_neg (by simp [areas, loads])]
  dsimp only
  rw [unwritable]

/-- A word of an unsigned numeric parameter: clamped into the range and read back so (R170 step 2). -/
theorem propose_numeric {n low high : Nat} {e : NumericParam} (found : numericParam n = some e) (hlow : e.lo = low)
    (hhigh : e.hi = high) (unsigned : n ≠ 76) (hi lo : Byte) (p : Params) (running : Bool)
    (free : isGuarded n = true → running = false) :
    let v := hi.toNat * 256 + lo.toNat
    let held := max low (min high v)
    ∃ q, propose p running n [hi, lo] = .ok (q, 0, decide (held ≠ v)) ∧ readWord n q = held ∧ KeptBut n p q := by
  intro v held
  have value : wordValue n (word2 hi lo) = (v : Int) := by
    unfold wordValue
    rw [if_neg unsigned, word2_toNat]
  have clamped : clampInt e.lo e.hi (wordValue n (word2 hi lo)) = (held : Int) := by
    rw [value, hlow, hhigh]
    show max (low : Int) (min high v) = ((max low (min high v) : Nat) : Int)
    omega
  have written := writeWord_numeric found (word2 hi lo) p
  rw [clamped, value] at written
  have moved : ((held : Int) != v) = decide (held ≠ v) := by
    rw [bne_eq_decide_ne]
    simp only [ne_eq, Int.natCast_inj]
  rw [moved] at written
  have areas : n ≠ 51 := by rintro rfl; cases found
  have loads : n ≠ 52 := by rintro rfl; cases found
  refine ⟨_, propose_word_free areas loads written free, ?_, writeWord_kept written⟩
  rw [(numericParam_set found held p).2, if_neg unsigned]
  rfl

/-- A word of P76 is taken as signed, clamped into [-20, 20] (R161, R170 step 2). -/
theorem propose_signed (hi lo : Byte) (p : Params) (running : Bool) :
    let v := hi.toNat * 256 + lo.toNat
    let signed : Int := if v < 32768 then v else (v : Int) - 65536
    let held := max (-20) (min 20 signed)
    ∃ q, propose p running 76 [hi, lo] = .ok (q, 0, decide (held ≠ signed)) ∧ q.p76 = held ∧ KeptBut 76 p q := by
  intro v signed held
  have value : wordValue 76 (word2 hi lo) = signed := by
    show (word2 hi lo).toInt = signed
    rw [BitVec.toInt_eq_toNat_cond, word2_toNat]
    show (if 2 * v < 2 ^ 16 then (v : Int) else (v : Int) - (2 ^ 16 : Nat)) =
      if v < 32768 then (v : Int) else (v : Int) - 65536
    split_ifs <;> omega
  have written : writeWord 76 (word2 hi lo) p = some ({ p with p76 := held }, held != signed) := by
    rw [writeWord_numeric rfl, value]
    rfl
  rw [bne_eq_decide_ne] at written
  exact ⟨_, propose_word_free (by decide) (by decide) written (fun k => by cases k), rfl, writeWord_kept written⟩

/-- A word of P90 or P95 is raised to the next allowed value, or held at the largest (R160, R170 step 2). -/
theorem propose_raised (hi lo : Byte) (p : Params) (running : Bool) :
    let v := hi.toNat * 256 + lo.toNat
    (let held := if v ≤ 500 then 500 else if v ≤ 1000 then 1000 else if v ≤ 2000 then 2000 else 5000
     ∃ q, propose p running 90 [hi, lo] = .ok (q, 0, decide (held ≠ v)) ∧ q.p90 = held ∧ KeptBut 90 p q) ∧
    (let held := if v ≤ 10 then 10 else 100
     ∃ q, propose p running 95 [hi, lo] = .ok (q, 0, decide (held ≠ v)) ∧ q.p95 = held ∧ KeptBut 95 p q) := by
  intro v
  refine ⟨?_, ?_⟩
  · intro held
    have written : writeWord 90 (word2 hi lo) p = some ({ p with p90 := held }, held != v) := by
      show some _ = _
      rw [word2_toNat]
      rfl
    rw [bne_eq_decide_ne] at written
    exact ⟨_, propose_word_free (by decide) (by decide) written (fun k => by cases k), rfl, writeWord_kept written⟩
  · intro held
    have written : writeWord 95 (word2 hi lo) p = some ({ p with p95 := held }, held != v) := by
      show some _ = _
      rw [word2_toNat]
      rfl
    rw [bne_eq_decide_ne] at written
    exact ⟨_, propose_word_free (by decide) (by decide) written (fun k => by cases k), rfl, writeWord_kept written⟩

/-- The flags of P93 and P94 are taken up to 15 (R161). -/
theorem propose_flags (hi lo : Byte) (p : Params) (running : Bool) :
    let v := hi.toNat * 256 + lo.toNat
    (15 < v → propose p running 93 [hi, lo] = .error .badArgument ∧
      propose p running 94 [hi, lo] = .error .badArgument) ∧
    (v ≤ 15 → propose p running 93 [hi, lo] = .ok ({ p with p93 := BitVec.ofNat 4 v }, 0, false) ∧
      propose p running 94 [hi, lo] = .ok ({ p with p94 := BitVec.ofNat 4 v }, 0, false)) := by
  intro v
  have value : (word2 hi lo).toNat = v := word2_toNat hi lo
  refine ⟨fun above => ?_, fun within => ?_⟩
  · rw [← value] at above
    exact ⟨propose_word_none (by decide) (by decide) (if_neg (Nat.not_le.mpr above)),
      propose_word_none (by decide) (by decide) (if_neg (Nat.not_le.mpr above))⟩
  · rw [← value] at within ⊢
    exact ⟨propose_word_free (by decide) (by decide) (if_pos within) (fun k => by cases k),
      propose_word_free (by decide) (by decide) (if_pos within) (fun k => by cases k)⟩

/-- The codes of P02, P03 and P84 are 0 and 1 (R161). -/
theorem writeWord_code {n : Nat} (code : n ∈ [2, 3, 84]) (w : Word) (p : Params) :
    (w.toNat ≤ 1 → ∃ q, writeWord n w p = some (q, false)) ∧ (1 < w.toNat → writeWord n w p = none) := by
  have within (h : w.toNat ≤ 1) : w.toNat = 0 ∨ w.toNat = 1 := by omega
  have beyond (h : 1 < w.toNat) : ∃ m, w.toNat = m + 2 := ⟨w.toNat - 2, by omega⟩
  simp only [List.mem_cons, List.not_mem_nil, or_false] at code
  refine ⟨fun h => ?_, fun h => ?_⟩
  · obtain zero | one := within h
    · obtain rfl | rfl | rfl := code <;> exact ⟨_, by simp [writeWord, zero]; rfl⟩
    · obtain rfl | rfl | rfl := code <;> exact ⟨_, by simp [writeWord, one]; rfl⟩
  · obtain ⟨m, two⟩ := beyond h
    obtain rfl | rfl | rfl := code <;> simp [writeWord, two]

/-- A code of P02, P03 or P84 is taken as it is (R161). -/
theorem propose_code {n : Nat} (code : n ∈ [2, 3, 84]) {hi lo : Byte} (p : Params) (running : Bool)
    (within : hi.toNat * 256 + lo.toNat ≤ 1) (free : isGuarded n = true → running = false) :
    ∃ q, propose p running n [hi, lo] = .ok (q, 0, false) ∧
      readWord n q = (hi.toNat * 256 + lo.toNat : Nat) ∧ KeptBut n p q := by
  rw [← word2_toNat] at within ⊢
  obtain ⟨q, written⟩ := (writeWord_code code (word2 hi lo) p).1 within
  have apart : n ≠ 51 ∧ n ≠ 52 ∧ n ≠ 76 := by
    simp only [List.mem_cons, List.not_mem_nil, or_false] at code
    omega
  obtain ⟨areas, loads, unsigned⟩ := apart
  refine ⟨q, propose_word_free areas loads written free, ?_, writeWord_kept written⟩
  exact (readWord_of_unmoved written).trans (if_neg unsigned)

end Sys2Proof.Machine
end

section
namespace Sys2Proof.Machine

/-! ### Calibrations, tables and the consistency check -/

theorem byteOf_toNat (n : Nat) : (byteOf n).toNat = n % 256 := BitVec.toNat_ofNat n 8

/-- A byte names the channel it is the number of (R161). -/
theorem channelOf_eq {b : Byte} {ch : Channel} (h : b.toNat = ch.val) : channelOf b = some ch := by
  have small : b.toNat < 8 := h ▸ ch.isLt
  unfold channelOf
  rw [dif_pos small]
  exact congrArg some (Fin.ext h)

theorem channelOf_none {b : Byte} (h : 8 ≤ b.toNat) : channelOf b = none := dif_neg (by omega)

/-- The values of P96 are clamped each (R170 step 2). -/
theorem clampCalibration_eq (ch : Channel) (c : Calibration) : clampCalibration ch c =
    ⟨min 4095 c.zeroCount, min 4095 c.fullCount, max 1 (min (if ch.val ≤ 4 then 1200 else 2000) c.fullScale)⟩ := by
  simp [clampCalibration, clampNat]

/-- The first values of a table strictly ascend (R46, R51). -/
theorem ascending_iff (pts : List (Nat × Nat)) : ascending pts = true ↔ pts.Pairwise fun x y => x.1 < y.1 := by
  rw [← List.isChain_iff_pairwise]
  induction pts with
  | nil => simp [ascending]
  | cons a rest ih =>
    cases rest with
    | nil => simp [ascending]
    | cons b rest => simp [ascending, ih]

/-- The second values of a table do not fall (R51). -/
theorem notFalling_iff (pts : List (Nat × Nat)) : notFalling pts = true ↔ pts.Pairwise fun x y => x.2 ≤ y.2 := by
  rw [← List.isChain_iff_pairwise]
  induction pts with
  | nil => simp [notFalling]
  | cons a rest ih =>
    cases rest with
    | nil => simp [notFalling]
    | cons b rest => simp [notFalling, ih]

/-- What makes an area table sound (R46, R171). -/
theorem tableSound_areas (pts : List (Nat × Nat)) : tableSound 51 pts = true ↔
    2 ≤ pts.length ∧ pts.length ≤ 8 ∧ pts.Pairwise fun x y => x.1 < y.1 := by
  simp [tableSound, mostPoints, ascending_iff, and_assoc]

/-- What makes a load table sound (R51, R171). -/
theorem tableSound_loads (pts : List (Nat × Nat)) : tableSound 52 pts = true ↔
    2 ≤ pts.length ∧ pts.length ≤ 12 ∧ pts.Pairwise fun x y => x.1 < y.1 ∧ x.2 ≤ y.2 := by
  simp [tableSound, mostPoints, ascending_iff, notFalling_iff, List.pairwise_and_iff, and_assoc]

/-- The consistency check by its parts (R171). -/
theorem consistent_iff (p : Params) : consistent p = true ↔
    p.p32 < p.p30 ∧ p.p12 ≤ p.p14 ∧ p.p14 ≤ p.p11 ∧ p.p10 ≤ p.p13 ∧ p.p53 < p.p54 ∧ p.p81 < p.p80 ∧
    (2 ≤ p.p51.length ∧ p.p51.length ≤ 8 ∧ p.p51.Pairwise (fun x y => x.1 < y.1)) ∧
    (2 ≤ p.p52.length ∧ p.p52.length ≤ 12 ∧ p.p52.Pairwise (fun x y => x.1 < y.1 ∧ x.2 ≤ y.2)) := by
  simp only [consistent, Bool.and_eq_true, decide_eq_true_eq, tableSound_areas, tableSound_loads, and_assoc]

/-- The points of a table are clamped one by one, and the table refused where they are not sound (R170 step 3). -/
theorem propose_table {n : Nat} (table : n = 51 ∨ n = 52) (p : Params) (value : List Byte) :
    propose p true n value = .error .notSuspended ∧
    propose p false n value =
      if tableSound n ((readPoints value).map (clampPoint n)) then
        .ok (setTable n ((readPoints value).map (clampPoint n)) p, 0,
          decide ((readPoints value).map (clampPoint n) ≠ readPoints value))
      else .error .badArgument := by
  unfold propose
  rw [if_pos table, if_pos table]
  exact ⟨rfl, rfl⟩

/-- The heights are clamped for the three height parameters alone (R170 step 4). -/
theorem clampHeights_eq (n : Nat) (p : Params) : clampHeights n p =
    if n = 10 then { p with p10 := max p.p12 (min p.p13 p.p10) }
    else if n = 11 then { p with p11 := max p.p12 (min p.p13 p.p11) }
    else if n = 14 then { p with p14 := max p.p12 (min p.p13 p.p14) }
    else p := by
  unfold clampHeights
  split
  case h_4 h10 h11 h14 => rw [if_neg h10, if_neg h11, if_neg h14]
  all_goals rfl

/-- Steps 4 and 5 of R170: a proposal that ends the consistency of R171 is refused. -/
theorem acceptProposal_eq (p q : Params) (n : Nat) (ch : Channel) (moved running : Bool) :
    let held := if running then clampHeights n q else q
    (consistent p = true → consistent held = false →
      acceptProposal p running n (q, ch, moved) = .error .badConfig) ∧
    ((consistent p = false ∨ consistent held = true) →
      acceptProposal p running n (q, ch, moved) = .ok (held, ch, moved || decide (held ≠ q))) := by
  intro held
  refine ⟨fun sound ends => if_pos ⟨sound, by simpa using ends⟩, fun keeps => if_neg ?_⟩
  rintro ⟨sound, ends⟩
  obtain unsound | still := keeps
  · cases unsound.symm.trans sound
  · have : consistent held = false := by simpa using ends
    cases this.symm.trans still

end Sys2Proof.Machine
end

section
namespace Sys2Proof.Machine

/-! ### A change of the running configuration at each block -/

namespace State

/-- The stages a change asks for, each by its parameters (R58). -/
theorem changedStages_eq (s : State) (old : Params) (written : Option Nat) (moved : Bool) (side : Side) :
    s.changedStages old written moved side =
      { c := decide ((s.params.p51 ≠ old.p51 ∨ written = some 51) ∨
          ((s.params.p10 ≠ old.p10 ∨ written = some 10) ∧ (s.sideRecord side).heightSource = .ride ∧
            (s.sideRecord side).source = .live))
        e := decide ((s.params.p50 ≠ old.p50 ∨ written = some 50) ∨ s.params.p01 ≠ old.p01 ∨ s.params.p02 ≠ old.p02 ∨
          s.params.p03 ≠ old.p03)
        f := decide (s.params.p52 ≠ old.p52 ∨ written = some 52)
        g := decide ((s.params.p53 ≠ old.p53 ∨ written = some 53) ∨ (s.params.p54 ≠ old.p54 ∨ written = some 54) ∨
          (s.params.p55 ≠ old.p55 ∨ written = some 55) ∨ moved = true) } := by
  simp only [changedStages, presenceDiffers, Bool.decide_or, Bool.decide_and, Bool.or_assoc, Bool.and_assoc,
    Bool.decide_eq_true]

/-- Writing an equal value of a parameter asks for the stages of that parameter (R58, log entry 23). -/
theorem changedStages_same {s : State} {old : Params} (same : s.params = old) (n : Nat) (moved : Bool) (side : Side) :
    s.changedStages old (some n) moved side =
      { c := decide (n = 51) || (decide (n = 10) && decide ((s.sideRecord side).heightSource = .ride) &&
          decide ((s.sideRecord side).source = .live))
        e := decide (n = 50), f := decide (n = 52)
        g := decide (n = 53) || decide (n = 54) || decide (n = 55) || moved } := by
  subst same
  simp [changedStages, presenceDiffers]

theorem changedStages_unwritten {s : State} {old : Params} (same : s.params = old) (moved : Bool) (side : Side) :
    s.changedStages old none moved side = ⟨false, false, false, moved⟩ := by
  subst same
  simp [changedStages, presenceDiffers]

/-- The stages read the configuration and the side record alone. -/
theorem changedStages_congr {s t : State} (params : t.params = s.params) (estimator : t.estimator.sides = s.estimator.sides)
    (old : Params) (written : Option Nat) (moved : Bool) (side : Side) :
    t.changedStages old written moved side = s.changedStages old written moved side := by
  unfold changedStages sideRecord
  rw [params, estimator]

/-- Channel 3 brought back to its reset values, its last raw value kept (R35). -/
theorem resetLiftChannel_eq (s : State) :
    let fresh := (s.setChannel 3 ⟨(s.channel 3).lastRaw, [], none, .unknown, 0, 0⟩).setComparator .lift ⟨false, 0⟩
    let clear := fresh.clear (.sensorFailed 3)
    s.resetLiftChannel = if (s.circuit liftCircuit).state = .absent then clear
      else clear.setCircuit liftCircuit { s.circuit liftCircuit with measured := none } := by
  intro fresh clear
  have kept : clear.circuit liftCircuit = s.circuit liftCircuit := by
    unfold circuit
    exact congrArg (·[liftCircuit.val]) (fresh.setConditions_circuits _)
  rw [← kept, ← followMeasured_eq]
  rfl

/-- The change at the Load Estimator and the Circuit Table by its parts (R58, R53). -/
theorem changeCircuits_eq (s : State) (old : Params) (written : Option Nat) :
    let p := s.params
    let applies := (p.p01 ≠ old.p01 ∨ p.p02 ≠ old.p02 ∨ p.p03 ≠ old.p03) ∧ s.supervisor.control ≠ .starting
    let found := if applies ∧ p.p03 = .fitted ∧ old.p03 = .notFitted then s.reconcileLift else s
    let moved := decide ((p.p56 ≠ old.p56 ∨ written = some 56) ∧ s.allowanceNow ≠ s.estimator.allowance)
    let judged := if moved then found.setEstimator { found.estimator with allowance := s.allowanceNow } else found
    s.changeCircuits old written = judged.applyChange
      { left := s.changedStages old written moved .left, right := s.changedStages old written moved .right
        presence := decide applies, renumber := decide (p.p01 ≠ old.p01 ∨ p.p02 ≠ old.p02)
        reclamp := decide (p.p53 ≠ old.p53 ∨ p.p54 ≠ old.p54) } := by
  intro p applies found moved judged
  have apply_ : (presenceDiffers p old && s.supervisor.control ≠ .starting) = decide applies := by
    simp only [presenceDiffers, applies, Bool.decide_or, Bool.decide_and, Bool.or_assoc]
  have frame : AirFrame s found := by
    show AirFrame s (if _ then _ else _)
    split
    · exact AirClosed.reconcileLift_closed (airFrame_closed s) (.refl s)
    · exact .refl s
  have due : found.allowanceNow = s.allowanceNow := by
    unfold allowanceNow
    rw [frame.speed, frame.params]
  have moves : ((p.p56 ≠ old.p56 || written = some 56) && s.allowanceNow ≠ s.estimator.allowance) = moved := by
    simp only [moved, Bool.decide_or, Bool.decide_and]
  have stages (side) : judged.changedStages old written moved side = s.changedStages old written moved side := by
    refine changedStages_congr ?_ ?_ old written moved side
    · show (if moved then _ else found).params = _
      split
      · exact frame.params
      · exact frame.params
    · show (if moved then _ else found).estimator.sides = _
      split
      · show found.estimator.sides = _
        rw [frame.estimator]
      · rw [frame.estimator]
  have foundEq : (if decide applies = true ∧ p.p03 = .fitted ∧ old.p03 = .notFitted then s.reconcileLift else s) = found := by
    simp only [decide_eq_true_eq, found]
  unfold changeCircuits
  dsimp only
  rw [apply_, foundEq, due, congrArg Estimator.allowance frame.estimator, moves, ← stages, ← stages]
  simp only [Bool.decide_or]
  rfl

/-- The channels whose calibration or window has changed are computed again in their order (R25, R28). -/
theorem changeSensing_eq (s : State) (old : Params) (windowWas : Nat) : s.changeSensing old windowWas =
    ([0, 1, 2, 3, 4, 5, 6, 7] : List Channel).foldl (fun (u : State) (ch : Channel) =>
      if u.params.p96[ch.val] ≠ old.p96[ch.val] ∨ (s.window 5 ≠ windowWas ∧ (ch.val = 5 ∨ ch.val = 6)) then
        u.recomputeChannel ch
      else u) s := by
  unfold changeSensing
  dsimp only
  rfl

/-- What computing a channel again does, by its status (R25, R28). -/
theorem recomputeChannel_of_status {s : State} {ch : Channel} {status : SensorStatus}
    (h : (s.channel ch).status = status) :
    let again := s.setChannel ch { s.channel ch with filtered := s.filter ch (s.channel ch).history }
    s.recomputeChannel ch = match (generalizing := false) status with
      | .failed => s
      | .unknown => again
      | .valid => again.handCurrent ch := by
  subst h
  rfl

/-- A VALID channel computed again hands its value on, if there is one (R25, R28, R29). -/
theorem recomputeChannel_valid {s : State} {ch : Channel} (valid : (s.channel ch).status = .valid) :
    let again := s.setChannel ch { s.channel ch with filtered := s.filter ch (s.channel ch).history }
    s.recomputeChannel ch = match s.filter ch (s.channel ch).history with
      | some v => again.handValue ch v
      | none => again := by
  intro again
  have current : again.validValue ch = s.filter ch (s.channel ch).history := by
    simp [validValue, isValid, again, valid]
  rw [recomputeChannel_of_status valid]
  exact congrArg (fun value : Option Nat => match value with
    | some v => again.handValue ch v
    | none => again) current

end State
end Sys2Proof.Machine
end

section
namespace Sys2Proof.Machine

/-! ### A change of the running configuration at the Height Controller, Tyre Upkeep and the other blocks -/

/-- What keeps every kind of update of `CoreClosed` keeps the running configuration. -/
theorem params_of_coreClosed {s t : State} (kept : ∀ P : State → Prop, CoreClosed P → P s → P t) :
    t.params = s.params :=
  (kept _ (loadStands_closed s.params s.startUp s.store) ⟨rfl, rfl, rfl⟩).1

namespace State

/-- The moment a mark and a span make has been reached (R109, R160). -/
theorem reached_after_iff (s : State) (mark : Option Nat) (span : Nat) :
    s.reached (mark.map (· + span)) = true ↔ ∃ m, mark = some m ∧ m + span ≤ s.now := by
  cases mark with
  | none => simp [reached]
  | some m => simp [reached]

/-- The speed has aged: it is known, and its mark is P91 old (R109). -/
theorem speedAged_iff (s : State) : s.speedAged = true ↔
    s.height.speed ≠ none ∧ ∃ m, s.height.speedMark = some m ∧ m + s.params.p91 ≤ s.now := by
  rw [speedAged, Bool.and_eq_true, reached_after_iff, Option.isSome_iff_ne_none]

/-- The change at the Height Controller (R105, R109, R110, R115). -/
theorem changeHeight_eq (s : State) (old : Params) :
    let p := s.params
    let clamped := if p.p12 ≠ old.p12 ∨ p.p13 ≠ old.p13 then s.setHeight { s.height with
      customHeight := max p.p12 (min p.p13 s.height.customHeight) } else s
    let formed := if p.p10 ≠ old.p10 ∨ p.p11 ≠ old.p11 ∨ p.p12 ≠ old.p12 ∨ p.p13 ≠ old.p13 then clamped.formTarget
      else clamped
    let judged := if p.p13 ≠ old.p13 ∨ p.p14 ≠ old.p14 ∨ p.p15 ≠ old.p15 ∨ p.p16 ≠ old.p16 ∨ p.p17 ≠ old.p17 ∨
      p.p18 ≠ old.p18 then (formed.evaluateSide .left).evaluateSide .right else formed
    let ridden := if p.p21 ≠ old.p21 then judged.returnToRide else judged
    let aged := ridden.height.speed ≠ none ∧ ∃ m, ridden.height.speedMark = some m ∧ m + p.p91 ≤ ridden.now
    s.changeHeight old = if p.p91 ≠ old.p91 ∧ aged then ridden.takeSpeed none none else ridden := by
  intro p clamped formed judged ridden aged
  have kept : ridden.params = p := by
    refine params_of_coreClosed fun P closed hs => ?_
    have hclamped : P clamped := iteInduction (fun _ => closed.setHeight _ rfl rfl hs) fun _ => hs
    have hformed : P formed := iteInduction (fun _ => CoreClosed.formTarget_closed closed hclamped) fun _ => hclamped
    have hjudged : P judged := iteInduction (fun _ => AirClosed.evaluateSides_closed closed.toAirClosed hformed) fun _ => hformed
    exact iteInduction (fun _ => CoreClosed.returnToRide_closed closed hjudged) fun _ => hjudged
  have aging : aged ↔ ridden.speedAged = true := by
    rw [speedAged_iff, kept]
  show (if p.p91 ≠ old.p91 then (if ridden.speedAged then ridden.takeSpeed none none else ridden) else ridden) = _
  simp only [aging, ite_and]

/-- The change at Tyre Upkeep (R125, R128, R132, R133). -/
theorem changeUpkeep_eq (s : State) (old : Params) :
    let p := s.params
    let tested := if p.p53 ≠ old.p53 then s.testIsolations else s
    let judged := if p.p53 ≠ old.p53 ∨ p.p60 ≠ old.p60 ∨ p.p61 ≠ old.p61 then
      allTyres.foldl State.evaluateTyre tested else tested
    let timed := if p.p62 ≠ old.p62 ∨ p.p63 ≠ old.p63 then allTyres.foldl State.judgeInterval judged else judged
    s.changeUpkeep old = if p.p66 ≠ old.p66 then allTyres.foldl State.judgeLow timed else timed := rfl

/-- The measured age of a tyre exceeds its interval in force (R128). -/
theorem intervalExpired_iff (s : State) (t : TyreId) : s.intervalExpired t = true ↔
    let r := s.circuit (tyreCircuit t)
    let limit := if (s.tyre t).leaking ∨ (s.tyre t).watch then s.params.p63 else s.params.p62
    (r.state = .idle ∨ r.state = .waiting ∨ r.state = .holdoff ∨ r.state = .active) ∧
      r.probeDue = false ∧ r.measured ≠ none ∧ ∃ m, r.readMark = some m ∧ limit * 1000 < s.now - m := by
  let r := s.circuit (tyreCircuit t)
  let limit := if (s.tyre t).leaking ∨ (s.tyre t).watch then s.params.p63 else s.params.p62
  show _ ↔ (r.state = .idle ∨ r.state = .waiting ∨ r.state = .holdoff ∨ r.state = .active) ∧
    r.probeDue = false ∧ r.measured ≠ none ∧ ∃ m, r.readMark = some m ∧ limit * 1000 < s.now - m
  have age : (match r.readMark with
      | some m => decide (s.interval t * 1000 < s.since m)
      | none => false) = true ↔ ∃ m, r.readMark = some m ∧ limit * 1000 < s.now - m := by
    cases r.readMark with
    | none => simp
    | some m => simp [since, interval, limit]
  refine Bool.and_eq_true_iff.trans ((and_congr_right' age).trans ?_)
  simp only [Bool.and_eq_true, Bool.or_eq_true, decide_eq_true_eq, Bool.not_eq_true', or_assoc, and_assoc,
    Option.isSome_iff_ne_none]
  rfl

/-- The link timeout has passed (R160). -/
theorem linkTimedOut_iff (s : State) : s.linkTimedOut = true ↔
    s.link.up = true ∧ ∃ m, s.link.lastValid = some m ∧ m + s.params.p90 ≤ s.now := by
  rw [linkTimedOut, Bool.and_eq_true, reached_after_iff]

/-- The notices are removed behind the head of the queue (R157). -/
theorem dropNotices_eq (s : State) : s.dropNotices =
    s.setQueue (s.link.queue.take 1 ++ (s.link.queue.drop 1).filter fun x => x.cls ≠ .notice) := by
  unfold dropNotices
  cases queue : s.link.queue with
  | nil =>
    show s = s.setQueue []
    rw [← queue]
    rfl
  | cons sending rest => simp [Telegram.isNotice]

/-- While the link is LOST an event offers no notice: the Link Port stands (R157). -/
theorem logEvent_link_lost {s : State} (down : s.link.up = false) (k : EventKind) (sev : Severity)
    (c : Option CircuitId) (v : Option Int) : (s.logEvent k sev c v).link = s.link := by
  unfold logEvent
  extract_lets r src e noted
  have still : noted.link = s.link := rfl
  split
  · have declined : noted.noticeFits = false := by simp [noticeFits, still, down]
    rw [offerNotice, if_neg (by simp [declined]), still]
  · exact still

/-- A link that times out is lost (R160, R157). -/
theorem loseLink_eq (s : State) :
    let lost := ((s.setLink { s.link with up := false, summaryDue := none }).raise .linkLost .degraded).logEvent
      .linkLost .degraded none (some s.params.p90)
    s.loseLink = lost.setLink { s.link with
      up := false, summaryDue := none
      queue := s.link.queue.take 1 ++ (s.link.queue.drop 1).filter fun x => x.cls ≠ .notice } := by
  intro lost
  have link : lost.link = { s.link with up := false, summaryDue := none } := by
    refine (logEvent_link_lost ?_ _ _ _ _).trans ?_
    · simp [raise]
    · simp [raise]
  have dropped : s.loseLink = lost.dropNotices := by
    simp [loseLink, lost, raise]
  rw [dropped, dropNotices_eq, setQueue, link]

/-- The change at the other blocks (R140, R66, R117, R160, R159). -/
theorem changeOthers_eq (s : State) (old : Params) :
    let p := s.params
    let reserve := if p.p30 ≠ old.p30 ∨ p.p31 ≠ old.p31 ∨ p.p32 ≠ old.p32 then s.rejudgeReserve else s
    let promoted := if p.p75 ≠ old.p75 then
      ([0, 1, 2, 3, 4, 5, 6, 7, 8, 9, 10, 11, 12, 13, 14] : List CircuitId).foldl State.promote reserve else reserve
    let dwelt := if p.p84 ≠ old.p84 ∧ p.p84 = .manual then
      promoted.setLift { promoted.lift with dwellSince := none } else promoted
    let linked := if p.p90 ≠ old.p90 then dwelt.judgeLink else dwelt
    s.changeOthers old = if p.p92 ≠ old.p92 then linked.setLink { linked.link with
      summaryDue := if p.p92 = 0 then none else some (linked.now + p.p92 * 1000) } else linked := by
  intro p reserve promoted dwelt linked
  have kept : linked.params = p := by
    refine params_of_coreClosed fun P closed hs => ?_
    have hreserve : P reserve := iteInduction (fun _ => MidClosed.rejudgeReserve_closed closed.toMidClosed hs) fun _ => hs
    have hpromoted : P promoted :=
      iteInduction (fun _ => foldl_closed (P := P) _ (fun _ c => AirClosed.promote_closed closed.toAirClosed c) _ hreserve)
        fun _ => hreserve
    have hdwelt : P dwelt := iteInduction (fun _ => closed.setLift _ hpromoted) fun _ => hpromoted
    exact iteInduction (fun _ => CoreClosed.judgeLink_closed closed hdwelt) fun _ => hdwelt
  show (if p.p92 ≠ old.p92 then linked.setLink { linked.link with
    summaryDue := if linked.params.p92 = 0 then none else some (linked.now + linked.params.p92 * 1000) } else linked) = _
  rw [kept]

/-- The reserve is judged again only where it has been judged and channel 0 is VALID (R140). -/
theorem rejudgeReserve_eq (s : State) :
    (∀ r, s.supervisor.reserveJudged = true → s.validValue 0 = some r → s.rejudgeReserve = s.judgeReserve r) ∧
    ((s.supervisor.reserveJudged = false ∨ s.validValue 0 = none) → s.rejudgeReserve = s) := by
  unfold rejudgeReserve
  refine ⟨fun r judged value => ?_, fun h => ?_⟩
  · rw [judged, value]
  · obtain unjudged | unknown := h
    · rw [unjudged]
    · rw [unknown]
      cases s.supervisor.reserveJudged <;> rfl

/-- A class 3 demand older than P75 takes class 1 and a new place (R66). -/
theorem promote_of_demand {s : State} {c : CircuitId} {d : Demand} (held : s.demandOf c = some d) :
    s.promote c = if d.cls = .tyre ∧ s.params.p75 * 1000 < s.now - d.mark then
      s.setScheduler { s.scheduler with
        demands := placeDemand { d with cls := .level } (s.scheduler.demands.filter fun e => e.circuit ≠ c) }
    else s := by
  have own : d.circuit = c := by
    simpa using List.find?_some held
  unfold promote
  rw [held]
  have due : s.promotable d = true ↔ d.cls = .tyre ∧ s.params.p75 * 1000 < s.now - d.mark := by
    unfold promotable since
    rw [Bool.and_eq_true, decide_eq_true_eq, decide_eq_true_eq]
  subst own
  simp only [due]
  rfl

end State
end Sys2Proof.Machine
end

section
namespace Sys2Proof.Machine

/-! ### The configuration replaced, and the requests for a parameter -/

/-- A replacement of the running configuration, told to the blocks in turn (R58, R170 step 6). -/
theorem State.replaceConfig_eq (s : State) (written : Option Nat) (q : Params) :
    let old := s.params
    let base := s.setParams q
    let lift := if q.p03 = old.p03 then base
      else
        let fresh := (base.setChannel 3 ⟨(s.channel 3).lastRaw, [], none, .unknown, 0, 0⟩).setComparator .lift ⟨false, 0⟩
        let clear := fresh.clear (.sensorFailed 3)
        if (s.circuit liftCircuit).state = .absent then clear
        else clear.setCircuit liftCircuit { s.circuit liftCircuit with measured := none }
    s.replaceConfig written q =
      (((((lift.changeCircuits old written).changeSensing old (s.window 5)).changeHeight old).changeUpkeep
        old).changeOthers old) := by
  intro old base lift
  have lifted : (if q.p03 ≠ old.p03 then base.resetLiftChannel else base) = lift := by
    rw [ite_not, base.resetLiftChannel_eq]
    rfl
  rw [← lifted]
  rfl

/-- The body of a GET_PARAM of a parameter but P96 (R153, R161). -/
theorem readGetParam_param {n : Byte} (param : isParam n.toNat = true) (other : n.toNat ≠ 96) :
    readGetParam isParam [n] = .ok (.getParam n.toNat none) := by
  unfold readGetParam
  dsimp only
  rw [param]
  exact if_neg other

theorem readGetParam_unknown {n : Byte} (unknown : isParam n.toNat = false) (rest : List Byte) :
    readGetParam isParam (n :: rest) = .error .badArgument := by
  unfold readGetParam
  dsimp only
  rw [unknown]
  rfl

/-- The body of a SET_PARAM of the allowed length (R153, R161). -/
theorem readSetParam_param {n : Byte} {value : List Byte} (param : isParam n.toNat = true)
    (fits : valueLengthFits n.toNat value.length = true) :
    readSetParam isParam (n :: value) = .ok (.setParam n.toNat value) := by
  unfold readSetParam
  dsimp only
  rw [param]
  exact if_pos fits

section requests
variable {s : State} (h : s.Serving) (tag : Byte)
include h

/-- A value read is answered with its number and bytes, and nothing else happens (R161). -/
theorem exec_getParam_done {body : List Byte} {n : Nat} {channel : Option Byte} {ch : Channel}
    (read : readBody isParam .getParam body = .ok (.getParam n channel)) (named : channelOf (channel.getD 0#8) = some ch) :
    request .getParam tag body s = .next (s.heard.replied .getParam tag (.done (paramBytes s.params n ch))) := by
  have answered : s.heard.answer (.getParam n channel) = (.done (paramBytes s.params n ch), s.heard) := by
    show s.heard.answerGetParam n channel = _
    unfold State.answerGetParam
    rw [named]
    rfl
  obtain ⟨idle, pending⟩ := h.1.heard
  exact (request_served h tag read answered (by simp) pending).trans (completed_of_nil idle _ _ _)

/-- GET_PARAM of a parameter but P96 (R161). -/
theorem exec_getParam {n : Byte} (param : isParam n.toNat = true) (other : n.toNat ≠ 96) :
    exec (.getParam tag n none) s = .next (s.heard.replied .getParam tag (.done (paramBytes s.params n.toNat 0))) := by
  exact exec_getParam_done h tag (body := [n]) (channel := none) (ch := 0) (readGetParam_param param other) rfl

/-- GET_PARAM of P96 names a channel, above 7 none (R161). -/
theorem exec_getParam_calibration (b : Byte) :
    (∀ ch : Channel, b.toNat = ch.val → exec (.getParam tag 96#8 (some b)) s =
      .next (s.heard.replied .getParam tag (.done (paramBytes s.params 96 ch)))) ∧
    (8 ≤ b.toNat → exec (.getParam tag 96#8 (some b)) s = s.refusedWith .getParam tag .badArgument) := by
  have read : readBody isParam .getParam [96#8, b] = .ok (.getParam 96 (some b)) := rfl
  refine ⟨fun ch named => exec_getParam_done h tag read (channelOf_eq named), fun beyond => ?_⟩
  refine request_refused_by_owner h tag read ?_
  show s.heard.answerGetParam 96 (some b) = _
  unfold State.answerGetParam
  rw [show channelOf ((some b).getD 0#8) = none from channelOf_none beyond]

/-- GET_PARAM of a number that is no parameter (R161). -/
theorem exec_getParam_unknown {n : Byte} (unknown : isParam n.toNat = false) (ch : Option Byte) :
    exec (.getParam tag n ch) s = s.refusedWith .getParam tag .badArgument := by
  cases ch with
  | none => exact request_refused_by_reading h (k := .getParam) (body := [n]) tag (readGetParam_unknown unknown [])
  | some b =>
    exact request_refused_by_reading h (k := .getParam) (body := [n, b]) tag (readGetParam_unknown unknown [b])

/-- A SET_PARAM of the allowed length goes through the steps of R170. -/
theorem exec_setParam {n : Byte} {value : List Byte} (param : isParam n.toNat = true)
    (fits : valueLengthFits n.toNat value.length = true) :
    match (propose s.params s.isRunning n.toNat value).bind (acceptProposal s.params s.isRunning n.toNat) with
    | .ok (p, ch, moved) => exec (.setParam tag n value) s =
        (s.heard.replaceConfig (some n.toNat) p).completed .setParam tag
          (if moved then .clamped (paramBytes p n.toNat ch) else .done (paramBytes p n.toNat ch))
    | .error reason => exec (.setParam tag n value) s = s.refusedWith .setParam tag reason := by
  have read : readBody isParam .setParam (n :: value) = .ok (.setParam n.toNat value) :=
    readSetParam_param param fits
  have answered : s.heard.answerSetParam n.toNat value =
      match (propose s.params s.isRunning n.toNat value).bind (acceptProposal s.params s.isRunning n.toNat) with
      | .error reason => (.refused reason, s.heard)
      | .ok (p, ch, moved) => (.taken moved (paramBytes p n.toNat ch), s.heard.replaceConfig (some n.toNat) p) := rfl
  cases steps : (propose s.params s.isRunning n.toNat value).bind (acceptProposal s.params s.isRunning n.toNat) with
  | error reason =>
    rw [steps] at answered
    exact request_refused_by_owner h tag read answered
  | ok accepted =>
    obtain ⟨p, ch, moved⟩ := accepted
    rw [steps] at answered
    exact request_served h tag read answered (by cases moved <;> exact fun _ => Answer.noConfusion)
      (ConfigClosed.replaceConfig_closed noRestart_closed _ _ h.1.heard.2)

end requests

end Sys2Proof.Machine
end

section
namespace Sys2Proof.Machine

/-! ### The ranges of R169 and the values of a SET_PARAM (O54) -/

/-- The ranges of the unsigned numeric parameters, each with its number (R169). -/
def unsignedRanges : List (Nat × Nat × Nat) := [
  (1, 2, 3), (10, 150, 450), (11, 150, 450), (12, 100, 300), (13, 300, 480), (14, 80, 250), (15, 4, 40),
  (16, 2, 20), (17, 0, 10000), (18, 0, 2000), (19, 4, 128), (20, 4, 128), (21, 5, 40), (30, 450, 750),
  (31, 20, 150), (32, 300, 700), (33, 20, 200), (34, 400, 1000), (35, 500, 1100), (36, 10, 250), (37, 10, 250),
  (38, 40, 500), (39, 200, 3000), (40, 200, 5000), (41, 200, 3000), (42, 1, 10), (43, 2, 30), (44, 5, 60),
  (45, 1000, 30000), (50, 0, 1000), (53, 100, 500), (54, 400, 1000), (55, 0, 20), (56, 40, 120), (60, 5, 80),
  (61, 10, 150), (62, 30, 3600), (63, 10, 300), (64, 1, 500), (65, 10, 2000), (66, 20, 300), (67, 5, 100),
  (68, 50, 1000), (69, 500, 5000), (70, 100, 2000), (71, 100, 2000), (72, 200, 5000), (73, 1, 20), (74, 10, 100),
  (75, 5, 600), (80, 500, 5000), (81, 500, 5000), (82, 100, 600), (83, 5, 60), (85, 200, 3000), (91, 500, 10000),
  (92, 0, 60)]

/-- The model's numeric parameters have these ranges. -/
theorem numericParam_ranges : ∀ r ∈ unsignedRanges,
    (numericParam r.1).map (fun e => (e.lo, e.hi)) = some ((r.2.1 : Int), (r.2.2 : Int)) ∧ r.1 ≠ 76 := by
  decide

/-- A word of a parameter of R169 is clamped into its range (R170 step 2). -/
theorem propose_range (p : Params) (running : Bool) (hi lo : Byte) :
    let v := hi.toNat * 256 + lo.toNat
    ∀ r ∈ unsignedRanges, (isGuarded r.1 = true → running = false) →
      let held := max r.2.1 (min r.2.2 v)
      ∃ q, propose p running r.1 [hi, lo] = .ok (q, 0, decide (held ≠ v)) ∧ readWord r.1 q = held ∧
        KeptBut r.1 p q := by
  intro v r listed free
  obtain ⟨range, unsigned⟩ := numericParam_ranges r listed
  obtain ⟨e, found, bounds⟩ := Option.map_eq_some_iff.mp range
  obtain ⟨low, high⟩ := Prod.mk.inj bounds
  exact propose_numeric found low high unsigned hi lo p running free

/-- A code above 1 is refused (R161). -/
theorem propose_code_none {n : Nat} (code : n ∈ [2, 3, 84]) {hi lo : Byte} (p : Params) (running : Bool)
    (beyond : 1 < hi.toNat * 256 + lo.toNat) : propose p running n [hi, lo] = .error .badArgument := by
  have apart : n ≠ 51 ∧ n ≠ 52 := by
    simp only [List.mem_cons, List.not_mem_nil, or_false] at code
    omega
  rw [← word2_toNat] at beyond
  exact propose_word_none apart.1 apart.2 ((writeWord_code code _ p).2 beyond)

/-- The guarded numeric parameters wait for a suspension (R170 step 1). -/
theorem propose_guarded_numeric (p : Params) (hi lo : Byte) :
    ∀ n ∈ [1, 12, 13, 30, 32, 53, 54, 80, 81], propose p true n [hi, lo] = .error .notSuspended := by
  intro n listed
  have known : ∀ n ∈ [1, 12, 13, 30, 32, 53, 54, 80, 81],
      isGuarded n = true ∧ n ≠ 51 ∧ n ≠ 52 ∧ (numericParam n).isSome = true := by decide
  obtain ⟨guarded, areas, loads, numeric⟩ := known n listed
  obtain ⟨e, found⟩ := Option.isSome_iff_exists.mp numeric
  refine propose_word_guarded guarded areas loads ?_
  rw [writeWord_numeric found]
  exact Option.some_ne_none _

/-- A calibration is clamped value by value, and the channel's alone is replaced (R170 step 2). -/
theorem propose_calibration (p : Params) (running : Bool) (ch : Channel) (a b c d e f : Byte) :
    propose p running 96 [byteOf ch.val, a, b, c, d, e, f] =
      let z := a.toNat * 256 + b.toNat
      let u := c.toNat * 256 + d.toNat
      let w := e.toNat * 256 + f.toNat
      let held : Calibration := ⟨min 4095 z, min 4095 u, max 1 (min (if ch.val ≤ 4 then 1200 else 2000) w)⟩
      .ok ({ p with p96 := p.p96.set ch.val held }, ch, decide (held ≠ ⟨z, u, w⟩)) := by
  have named : channelOf (byteOf ch.val) = some ch :=
    channelOf_eq ((byteOf_toNat ch.val).trans (Nat.mod_eq_of_lt (by omega)))
  show (match channelOf (byteOf ch.val) with
    | none => _
    | some ch => _) = _
  rw [named]
  show Except.ok (_, ch, _) = _
  unfold writeCalibration
  rw [clampCalibration_eq]
  rfl

/-- A channel above 7 is refused in a SET_PARAM (R161). -/
theorem propose_calibration_none (p : Params) (running : Bool) {g : Byte} (a b c d e f : Byte) (beyond : 8 ≤ g.toNat) :
    propose p running 96 [g, a, b, c, d, e, f] = .error .badArgument := by
  show (match channelOf g with
    | none => _
    | some ch => _) = _
  rw [channelOf_none beyond]

/-- The points of P51 and P52 clamped and tested (R169, R170 step 3). -/
theorem propose_tables (p : Params) (value : List Byte) :
    let areas := (readPoints value).map fun x => (max 50 (min 500 x.1), max 200 (min 1500 x.2))
    let loads := (readPoints value).map fun x => (max 100 (min 5000 x.1), max 100 (min 1000 x.2))
    propose p true 51 value = .error .notSuspended ∧ propose p true 52 value = .error .notSuspended ∧
    propose p false 51 value =
      (if 2 ≤ areas.length ∧ areas.length ≤ 8 ∧ areas.Pairwise (fun x y => x.1 < y.1) then
        .ok ({ p with p51 := areas }, 0, decide (areas ≠ readPoints value))
      else .error .badArgument) ∧
    propose p false 52 value =
      (if 2 ≤ loads.length ∧ loads.length ≤ 12 ∧ loads.Pairwise (fun x y => x.1 < y.1 ∧ x.2 ≤ y.2) then
        .ok ({ p with p52 := loads }, 0, decide (loads ≠ readPoints value))
      else .error .badArgument) := by
  intro areas loads
  obtain ⟨areasGuarded, areasFree⟩ := propose_table (.inl rfl) p value
  obtain ⟨loadsGuarded, loadsFree⟩ := propose_table (.inr rfl) p value
  exact ⟨areasGuarded, loadsGuarded, areasFree.trans (if_congr (tableSound_areas areas) rfl rfl),
    loadsFree.trans (if_congr (tableSound_loads loads) rfl rfl)⟩

/-- The values of a SET_PARAM of one word: refused, moved into their ranges, or taken as they are. -/
theorem propose_values (p : Params) (running : Bool) (hi lo : Byte) :
    let v := hi.toNat * 256 + lo.toNat
    (15 < v → propose p running 93 [hi, lo] = .error .badArgument ∧
      propose p running 94 [hi, lo] = .error .badArgument) ∧
    (v ≤ 15 → propose p running 93 [hi, lo] = .ok ({ p with p93 := BitVec.ofNat 4 v }, 0, false) ∧
      propose p running 94 [hi, lo] = .ok ({ p with p94 := BitVec.ofNat 4 v }, 0, false)) ∧
    (v ≤ 1 → ∀ n ∈ [2, 3, 84], (isGuarded n = true → running = false) →
      ∃ q, propose p running n [hi, lo] = .ok (q, 0, false) ∧ readWord n q = v ∧ KeptBut n p q) ∧
    (1 < v → propose p running 2 [hi, lo] = .error .badArgument ∧ propose p running 3 [hi, lo] = .error .badArgument ∧
      propose p running 84 [hi, lo] = .error .badArgument) ∧
    (∀ n ∈ [1, 12, 13, 30, 32, 53, 54, 80, 81], propose p true n [hi, lo] = .error .notSuspended) := by
  intro v
  obtain ⟨flagsBeyond, flagsWithin⟩ := propose_flags hi lo p running
  exact ⟨flagsBeyond, flagsWithin, fun within n code free => propose_code code p running within free,
    fun beyond => ⟨propose_code_none (by decide) p running beyond, propose_code_none (by decide) p running beyond,
      propose_code_none (by decide) p running beyond⟩,
    propose_guarded_numeric p hi lo⟩

/-- Steps 4 and 5 of R170 with the three height parameters written out. -/
theorem acceptProposal_heights (p q : Params) (n : Nat) (ch : Channel) (moved running : Bool) :
    let held : Params :=
      if running = false then q
      else if n = 10 then { q with p10 := max q.p12 (min q.p13 q.p10) }
      else if n = 11 then { q with p11 := max q.p12 (min q.p13 q.p11) }
      else if n = 14 then { q with p14 := max q.p12 (min q.p13 q.p14) }
      else q
    (consistent p = true → consistent held = false → acceptProposal p running n (q, ch, moved) = .error .badConfig) ∧
    ((consistent p = false ∨ consistent held = true) →
      acceptProposal p running n (q, ch, moved) = .ok (held, ch, moved || decide (held ≠ q))) := by
  intro held
  have clamped : (if running then clampHeights n q else q) = held := by
    cases running with
    | false => rfl
    | true => exact clampHeights_eq n q
  rw [← clamped]
  exact acceptProposal_eq p q n ch moved running

/-- Settles O54: the requests by the steps of R170, and a changed configuration block by block. -/
theorem paramRequests : Obligations.ParamRequests := by
  refine ⟨fun tag n s serving param other => exec_getParam serving tag param other,
    fun tag b ch s serving named => (exec_getParam_calibration serving tag b).1 ch named,
    fun tag n ch s serving unknown => exec_getParam_unknown serving tag unknown ch,
    fun tag n value s serving param fits => exec_setParam serving tag param fits,
    fun p n hi lo guarded areas loads writable => propose_word_guarded guarded areas loads writable,
    fun p q n w _ written => ?readBack,
    fun s old n moved side same => State.changedStages_same same n moved side,
    fun s old moved side same => State.changedStages_unwritten same moved side,
    fun p running hi lo => ?values,
    propose_calibration, propose_tables, acceptProposal_heights, consistent_iff,
    fun tag b s serving beyond => (exec_getParam_calibration serving tag b).2 beyond,
    fun p running g a b c d e f beyond => propose_calibration_none p running a b c d e f beyond,
    State.replaceConfig_eq, State.changeCircuits_eq, State.changedStages_eq, State.changeSensing_eq,
    fun s ch => ⟨State.recomputeChannel_of_status, State.recomputeChannel_of_status, State.recomputeChannel_valid⟩,
    State.changeHeight_eq, State.changeUpkeep_eq, fun s t => ?interval, State.changeOthers_eq,
    State.rejudgeReserve_eq, fun s c => ⟨fun idle => ?unlisted, fun d held => State.promote_of_demand held⟩,
    fun s => ?link⟩
  case readBack =>
    rw [readWord_of_unmoved written]
    exact signed2_wordValue n w
  case values =>
    intro v ranges kept
    obtain ⟨timeout, step⟩ := propose_raised hi lo p running
    exact ⟨propose_range p running hi lo, propose_signed hi lo p running, timeout, step,
      propose_values p running hi lo⟩
  case interval =>
    intro r limit late
    have expired : s.intervalExpired t = true ↔ late := s.intervalExpired_iff t
    exact ⟨fun h => if_pos (expired.mpr h), fun h => if_neg (mt expired.mp h)⟩
  case unlisted =>
    unfold State.promote
    rw [idle]
  case link =>
    intro late lost
    have timedOut : s.linkTimedOut = true ↔ late := s.linkTimedOut_iff
    exact ⟨fun h => (if_pos (timedOut.mpr h)).trans s.loseLink_eq, fun h => if_neg (mt timedOut.mp h)⟩

end Sys2Proof.Machine
end

section
/-! The lookup in an ascending table: at the points, at the ends and between, and its use by stages C and F (O59). -/

namespace Sys2Proof.Machine

open State

/-! ### The lookup in an ascending table -/

/-- The lookup in an ascending table is the interpolation in it (R46, R51). -/
theorem lookup_of_ascending {pts : List (Nat × Nat)} (nonempty : pts ≠ []) (up : ascending pts = true) (x : Nat) :
    lookup pts x = interpolate pts x := if_pos ⟨nonempty, up⟩

/-- At or below the first point the value is held there. -/
theorem interpolate_of_le_head {a : Nat × Nat} {x : Nat} (low : x ≤ a.1) (pts : List (Nat × Nat)) :
    interpolate (a :: pts) x = a.2 := by
  cases pts with
  | nil => rfl
  | cons b rest => exact if_pos low

/-- From a point on, the points before it play no part. -/
theorem interpolate_append {pre rest : List (Nat × Nat)} {a : Nat × Nat} {x : Nat}
    (up : ascending (pre ++ a :: rest) = true) (beyond : a.1 ≤ x) :
    interpolate (pre ++ a :: rest) x = interpolate (a :: rest) x := by
  have step {c d : Nat × Nat} (post : List (Nat × Nat)) (cd : c.1 < d.1) (dx : d.1 ≤ x) :
      interpolate (c :: d :: post) x = interpolate (d :: post) x :=
    (if_neg (by omega)).trans (if_neg (by omega))
  rw [ascending_iff] at up
  induction pre with
  | nil => rfl
  | cons c pre ih =>
    obtain ⟨first, up⟩ := List.pairwise_cons.mp up
    rw [← ih up]
    cases pre with
    | nil => exact step rest (first a List.mem_cons_self) beyond
    | cons d pre =>
      have before : d.1 < a.1 := (List.pairwise_cons.mp up).1 a (by simp)
      exact step _ (first d List.mem_cons_self) (by omega)

/-- From a point on, the lookup reads the rest of the table (R46, R51). -/
theorem lookup_append {pre rest : List (Nat × Nat)} {a : Nat × Nat} {x : Nat}
    (up : ascending (pre ++ a :: rest) = true) (beyond : a.1 ≤ x) :
    lookup (pre ++ a :: rest) x = interpolate (a :: rest) x := by
  rw [lookup_of_ascending (by simp) up, interpolate_append up beyond]

theorem lookup_of_mem {pts : List (Nat × Nat)} {pt : Nat × Nat} (up : ascending pts = true) (listed : pt ∈ pts) :
    lookup pts pt.1 = pt.2 := by
  obtain ⟨pre, post, rfl⟩ := List.append_of_mem listed
  rw [lookup_append up le_rfl, interpolate_of_le_head le_rfl]

/-! ### Between two points -/

/-- The rounded quotient reaches a bound that the exact one reaches. -/
theorem le_roundDiv {n d b : Nat} (hd : 0 < d) (h : b * d ≤ n) : b ≤ roundDiv n d := by
  unfold roundDiv
  rw [Nat.le_div_iff_mul_le (by omega)]
  linarith

/-- The line through two points, as the mean of their second values weighted by the distances. -/
theorem weighted_eq {a b : Nat × Nat} {x : Nat} (above : a.1 < x) (below : x < b.1) :
    ((a.2 * (b.1 - x) + b.2 * (x - a.1) : Nat) : Int) =
      a.2 * (b.1 - a.1) + (x - a.1) * ((b.2 : Int) - a.2) := by
  push_cast [above.le, below.le]
  ring

theorem between_eq {a b : Nat × Nat} {x : Nat} (above : a.1 < x) (below : x < b.1) :
    between a b x = roundDiv (a.2 * (b.1 - x) + b.2 * (x - a.1)) (b.1 - a.1) := by
  unfold between
  rw [← weighted_eq above below, Int.toNat_natCast]

/-- Between two points the lookup is the value on their line, rounded (R46, R51). -/
theorem lookup_between {pre post : List (Nat × Nat)} {a b : Nat × Nat} {x : Nat}
    (up : ascending (pre ++ a :: b :: post) = true) (above : a.1 < x) (below : x < b.1) :
    lookup (pre ++ a :: b :: post) x = roundDiv (a.2 * (b.1 - x) + b.2 * (x - a.1)) (b.1 - a.1) := by
  rw [lookup_append up above.le, ← between_eq above below]
  exact (if_neg (by omega)).trans (if_pos below)

/-- The value between two points lies between theirs. -/
theorem between_bounds {a b : Nat × Nat} {x : Nat} (above : a.1 < x) (below : x < b.1) :
    let y := roundDiv (a.2 * (b.1 - x) + b.2 * (x - a.1)) (b.1 - a.1)
    min a.2 b.2 ≤ y ∧ y ≤ max a.2 b.2 := by
  intro y
  have width : b.1 - a.1 = (b.1 - x) + (x - a.1) := by omega
  have weights (m : Nat) : m * (b.1 - a.1) = m * (b.1 - x) + m * (x - a.1) := by rw [width, Nat.mul_add]
  constructor
  · refine le_roundDiv (by omega) ?_
    rw [weights]
    gcongr <;> omega
  · refine roundDiv_le (by omega) ?_
    rw [weights]
    gcongr <;> omega

/-! ### The stages of a side -/

/-- A live side's record after all of its stages, C to H (R45 to R54). -/
def State.liveRecord (s : State) (side : Side) (r : SideRecord) : SideRecord :=
  let loaded := s.stageE (stageD (s.stageC side r))
  let load := loaded.perTyre.getD 0
  s.stageGH (lookup s.params.p52 load) (s.stageF load loaded)

theorem State.computeRecord_fromC_of_live {r : SideRecord} (live : r.source = .live) (s : State) (side : Side) :
    s.computeRecord side .fromC r = s.liveRecord side r := by
  simp [State.computeRecord, State.liveRecord, Stages.fromC, Stages.runsE, stageC, stageD, stageE, stageF, live]

/-- Stage E runs at a live source alone (R50). -/
theorem Stages.runsE_of_not_live {source : LoadSource} (other : source ≠ .live) (st : Stages) :
    st.runsE source = false := by
  simp [Stages.runsE, other]

/-- Without a live source, an event that asks for neither F nor G runs stage C, and of stage E the axle count alone
while the source is NONE (R48, R50). -/
theorem State.computeRecord_of_not_live {r : SideRecord} {st : Stages} (other : r.source ≠ .live) (noF : st.f = false)
    (noG : st.g = false) (s : State) (side : Side) :
    s.computeRecord side st r =
      let placed := if st.c = true then s.stageC side r else r
      if st.e = true ∧ r.source = .noSource then { placed with axlesDown := s.axlesDown } else placed := by
  have source : (if st.c = true then s.stageC side r else r).source = r.source := by split <;> rfl
  unfold computeRecord
  generalize (if st.c = true then s.stageC side r else r) = placed at source ⊢
  rw [← source] at other ⊢
  by_cases counted : st.e = true ∧ placed.source = .noSource
  · simp only [counted, and_self, if_true, if_false, ne_eq, reduceCtorEq, not_false_eq_true, and_false,
      Stages.runsE_of_not_live, noF, noG, Bool.or_false, Bool.false_eq_true]
    cases placed.perTyre with
    | none => rfl
    | some load => cases placed.base <;> rfl
  · simp only [counted, other, if_false, ne_eq, not_false_eq_true, and_false, Stages.runsE_of_not_live, noF, noG,
      Bool.or_false, Bool.false_eq_true]
    cases placed.perTyre with
    | none => rfl
    | some load => cases placed.base <;> rfl

theorem State.computeRecord_fromC_of_not_live {r : SideRecord} (other : r.source ≠ .live) (s : State) (side : Side) :
    s.computeRecord side .fromC r = s.stageC side r :=
  (computeRecord_of_not_live other rfl rfl s side).trans (if_neg (by simp [Stages.fromC]))

/-- The last point of an ascending table has the largest first value. -/
theorem lastLoad_lt_iff {pts : List (Nat × Nat)} (nonempty : pts ≠ []) (up : pts.Pairwise fun a b => a.1 < b.1)
    (x : Nat) : lastLoad pts < x ↔ ∀ pt ∈ pts, pt.1 < x := by
  obtain ⟨pre, z, rfl⟩ := (List.eq_nil_or_concat' pts).resolve_left nonempty
  obtain ⟨_, _, before⟩ := List.pairwise_append.mp up
  have last : lastLoad (pre ++ [z]) = z.1 := by simp [lastLoad]
  rw [last]
  refine ⟨fun high pt listed => ?_, fun all => all z (by simp)⟩
  obtain inside | ⟨rfl⟩ := by simpa using listed
  · exact (before pt inside z (by simp)).trans high
  · exact high

/-- Stage C at every source, and stages D to F at a live one (R46, R51). -/
theorem State.computeRecord_reads (s : State) (side : Side) (r : SideRecord) :
    let x := s.computeRecord side .fromC r
    x.heightUsed ≠ none ∧ x.area = x.heightUsed.map (lookup s.params.p51) ∧
    (r.source ≠ .live → x.perBellows = r.perBellows) ∧
    (r.source = .live → x.perTyre ≠ none ∧ x.base = x.perTyre.map (lookup s.params.p52)) ∧
    (r.source = .live → consistent s.params = true →
      (x.overload = true ↔ ∀ pt ∈ s.params.p52, pt.1 < x.perTyre.getD 0)) := by
  intro x
  by_cases live : r.source = .live
  · have record : x = s.liveRecord side r := computeRecord_fromC_of_live live s side
    refine ⟨by rw [record]; exact Option.some_ne_none _, by rw [record]; rfl, fun other => absurd live other,
      fun _ => ⟨by rw [record]; exact Option.some_ne_none _, by rw [record]; rfl⟩, fun _ sound => ?_⟩
    obtain ⟨_, _, _, _, _, _, _, two, _, loads⟩ := (consistent_iff _).mp sound
    have nonempty : s.params.p52 ≠ [] := List.ne_nil_of_length_pos (by omega)
    rw [← lastLoad_lt_iff nonempty (loads.imp And.left), record]
    exact decide_eq_true_iff
  · have record : x = s.stageC side r := computeRecord_fromC_of_not_live live s side
    exact ⟨by rw [record]; exact Option.some_ne_none _, by rw [record]; rfl, fun _ => by rw [record]; rfl,
      fun h => absurd h live, fun h => absurd h live⟩

/-- Settles O59: every lookup reads the table from the last point at or below its argument. -/
theorem tableLookup : Obligations.TableLookup := by
  refine ⟨fun pts pt up listed => lookup_of_mem up listed, fun a pts x up low => ?_, fun z pts x up high => ?_,
    by decide, fun pre post a b x up above below => ?_, ⟨rfl, rfl⟩, fun p sound => ?_, computeRecord_reads⟩
  · rw [lookup_of_ascending (List.cons_ne_nil _ _) up, interpolate_of_le_head low]
  · exact lookup_append up high
  · intro y n d
    obtain ⟨low, high⟩ := between_bounds above below
    obtain ⟨near, under⟩ := roundDiv_bounds (n := a.2 * (b.1 - x) + b.2 * (x - a.1)) (d := b.1 - a.1) (by omega)
    rw [← lookup_between up above below] at low high near under
    have line : n = ((a.2 * (b.1 - x) + b.2 * (x - a.1) : Nat) : Int) := (weighted_eq above below).symm
    have width : d = ((b.1 - a.1 : Nat) : Int) := by omega
    have value : y = ((lookup (pre ++ a :: b :: post) x : Nat) : Int) := rfl
    rw [line, width, value]
    exact ⟨by exact_mod_cast near, by exact_mod_cast under, by exact_mod_cast low, by exact_mod_cast high⟩
  · obtain ⟨_, _, _, _, _, _, ⟨few, most, areas⟩, few', most', loads⟩ := (consistent_iff p).mp sound
    exact ⟨few, most, areas, few', most', loads⟩

end Sys2Proof.Machine
end

section
/-! A side's computation by stages C to H, what it hands on, and the targets it writes (O60). -/

namespace Sys2Proof.Machine

open State

/-! ### The targets that are formed -/

/-- A value moved into bounds that do not cross lies within them, and one that does is left alone. -/
theorem clampNat_within {lo hi : Nat} (bounds : lo ≤ hi) (x : Nat) :
    lo ≤ clampNat lo hi x ∧ clampNat lo hi x ≤ hi ∧ (lo ≤ x → x ≤ hi → clampNat lo hi x = x) := by
  unfold clampNat
  omega

namespace State

theorem raisedPressure_of_idle {s : State} (idle : s.estimator.allowance = false) (base : Nat) :
    s.raisedPressure base = base := if_neg (by simp [idle])

theorem raisedPressure_of_allowed {s : State} (allowed : s.estimator.allowance = true) (base : Nat) :
    s.raisedPressure base = roundDiv (base * (100 + s.params.p55)) 100 := if_pos allowed

theorem clampTarget_of_bounds {s : State} (bounds : s.params.p53 ≤ s.params.p54) (x : Nat) :
    s.clampTarget x = some (clampNat s.params.p53 s.params.p54 x) := if_pos bounds

theorem clampTarget_of_crossed {s : State} (crossed : s.params.p54 < s.params.p53) (x : Nat) :
    s.clampTarget x = none := if_neg (Nat.not_le.mpr crossed)

/-- A tyre target lies within its bounds (R54). -/
theorem clampTarget_within {s : State} {x y : Nat} (formed : s.clampTarget x = some y) :
    s.params.p53 ≤ y ∧ y ≤ s.params.p54 := by
  obtain crossed | bounds := Nat.lt_or_ge s.params.p54 s.params.p53
  · rw [clampTarget_of_crossed crossed] at formed
    cases formed
  · rw [clampTarget_of_bounds bounds] at formed
    obtain ⟨low, high, _⟩ := clampNat_within bounds x
    exact Option.some.inj formed ▸ ⟨low, high⟩

theorem clampTarget_eq_none_iff (s : State) (x : Nat) : s.clampTarget x = none ↔ s.params.p54 < s.params.p53 := by
  simp [clampTarget]

/-! ### The height used and the axles down -/

theorem chosenHeight_own {s : State} {side : Side} {h : Nat} (own : s.validValue (heightChannel side) = some h) :
    s.chosenHeight side = (.own, h) := by
  simp only [chosenHeight, own]

theorem chosenHeight_other {s : State} {side : Side} {h : Nat} (own : s.validValue (heightChannel side) = none)
    (other : s.validValue (heightChannel (otherSide side)) = some h) : s.chosenHeight side = (.other, h) := by
  simp only [chosenHeight, own, other]

theorem chosenHeight_target {s : State} {side : Side} {h : Nat} (own : s.validValue (heightChannel side) = none)
    (other : s.validValue (heightChannel (otherSide side)) = none)
    (target : (s.circuit (sideCircuit side)).target = some h) : s.chosenHeight side = (.target, h) := by
  simp only [chosenHeight, own, other, target]

theorem chosenHeight_ride {s : State} {side : Side} (own : s.validValue (heightChannel side) = none)
    (other : s.validValue (heightChannel (otherSide side)) = none)
    (target : (s.circuit (sideCircuit side)).target = none) : s.chosenHeight side = (.ride, s.params.p10) := by
  simp only [chosenHeight, own, other, target]

theorem axlesDown_eq (s : State) : s.axlesDown =
    if s.params.p03 = .fitted ∧ s.position = some .isolated then s.params.p01 - 1 else s.params.p01 := by
  simp [axlesDown, liftFitted]

/-! ### The record of a side -/

/-- While HELD, stage E and the stages after it change nothing (R50, log entry 67). -/
theorem computeRecord_fromE_of_held {r : SideRecord} (held : r.source = .held) (s : State) (side : Side) :
    s.computeRecord side .fromE r = r :=
  (computeRecord_of_not_live (by simp [held]) rfl rfl s side).trans (if_neg (by simp [held]))

/-- A record is computed from itself, not from the one that the estimator holds. -/
theorem computeRecord_setSideRecord (s : State) (side : Side) (held : SideRecord) (st : Stages) (r : SideRecord) :
    (s.setSideRecord side held).computeRecord side st r = s.computeRecord side st r := rfl

/-- A record is stored as computed, and TYRE_OVERLOAD follows its overload field (R52). -/
theorem storeRecord_eq (s : State) (side : Side) (x : SideRecord) :
    let stored := s.setSideRecord side x
    s.storeRecord side x =
      if x.overload = true ∧ (s.sideRecord side).overload = false ∧ (s.circuit (sideCircuit side)).state ≠ .absent then
        stored.raiseOverload side (x.perTyre.getD 0)
      else if (s.sideRecord side).overload = true ∧ x.overload = false then stored.clear (.tyreOverload side)
      else stored := by
  have circuit : (s.setSideRecord side x).circuit (sideCircuit side) = s.circuit (sideCircuit side) := rfl
  simp [storeRecord, isPresent, circuit]

/-- Besides the record, storing it leaves alone what the air control leaves alone. -/
theorem storeRecord_frame (s : State) (side : Side) (x : SideRecord) :
    AirFrame (s.setSideRecord side x) (s.storeRecord side x) := by
  have air := airFrame_closed (s.setSideRecord side x)
  have start := AirFrame.refl (s.setSideRecord side x)
  rw [storeRecord_eq]
  split
  · exact air.logEvent _ _ _ _ (AirClosed.raise_closed air _ _ start)
  · split
    · exact AirClosed.clear_closed air _ start
    · exact start

/-- Of the Load Estimator a computation changes the side's record alone (R44). -/
theorem recompute_frame (s : State) (side : Side) (st : Stages) :
    AirFrame (s.setSideRecord side (s.computeRecord side st (s.sideRecord side))) (s.recompute side st) := by
  have air := airFrame_closed (s.setSideRecord side (s.computeRecord side st (s.sideRecord side)))
  have stored := s.storeRecord_frame side (s.computeRecord side st (s.sideRecord side))
  refine foldl_closed _ (fun _ t k => AirClosed.tyreTargetChanged_closed air t k) _
    (foldl_closed writeTyreTarget (fun _ _ k => air.setCircuit _ _ (Nat.le_max_right _ _) k) _ ?_)
  unfold handLoads
  split
  · exact AirClosed.liftLoads_closed air _ _ stored
  · exact stored

/-- What the air control leaves alone includes the side records. -/
theorem sideRecord_of_frame {a s : State} (frame : AirFrame a s) (side : Side) : s.sideRecord side = a.sideRecord side :=
  congrArg (fun x : Estimator => x.sides.get side) frame.estimator

/-- A new filtered pressure leaves the record of all stages (R44, R47). -/
theorem estimatePressure_sideRecord (s : State) (side : Side) (p : Nat) :
    (s.estimatePressure side p).sideRecord side =
      s.computeRecord side .fromC { s.sideRecord side with source := .live, pressure := some p } := by
  unfold estimatePressure
  rw [sideRecord_of_frame (recompute_frame _ side .fromC), setSideRecord_sideRecord, setSideRecord_sideRecord,
    computeRecord_setSideRecord]

theorem pressureFailed_of_none {s : State} {side : Side} (h : (s.sideRecord side).perTyre = none) :
    s.pressureFailed side = s := if_neg (by simp [h])

/-- A pressure channel that fails holds a side that has a per-tyre load (R50, log entry 16). -/
theorem pressureFailed_sideRecord {s : State} {side : Side} (h : (s.sideRecord side).perTyre ≠ none) :
    (s.pressureFailed side).sideRecord side = { s.sideRecord side with source := .held } := by
  have failed : s.pressureFailed side =
      (s.setSideRecord side { s.sideRecord side with source := .held }).liftLoadsHeld side :=
    if_pos (Option.isSome_iff_ne_none.mpr h)
  rw [failed, sideRecord_of_frame (AirClosed.liftLoadsHeld_closed (airFrame_closed _) side (.refl _)),
    setSideRecord_sideRecord]

/-! ### Loads handed on and targets written -/

theorem runsE_iff (st : Stages) (source : LoadSource) :
    st.runsE source = true ↔ (st.c = true ∨ st.e = true) ∧ source = .live := by
  simp [Stages.runsE]

theorem tyreTargetFor_eq (s : State) (t : TyreId) :
    let r := s.circuit (tyreCircuit t)
    s.tyreTargetFor t = if r.frozen = true ∧ r.target ≠ none then r.target
      else (s.sideRecord (tyreSide s.params t)).target := by
  simp only [tyreTargetFor, Option.isSome_iff_ne_none]

theorem tyresToWrite_eq (s : State) (side : Side) : s.tyresToWrite side = allTyres.filter fun t =>
    decide ((s.circuit (tyreCircuit t)).state ≠ .absent ∧ tyreSide s.params t = side ∧
      (s.circuit (tyreCircuit t)).target ≠ s.tyreTargetFor t) := by
  unfold tyresToWrite
  congr 1
  funext t
  simp only [isPresent, Bool.decide_and, Bool.and_assoc]

end State

/-- Settles O60: each stage by its equation, and a computation by what its parts come to. -/
theorem targetsWithinBounds : Obligations.TargetsWithinBounds := by
  refine ⟨fun s base r => ?formed, fun s bounds => clampNat_within bounds _, fun s => ?held,
    fun s side => ⟨fun h => chosenHeight_own, fun h => chosenHeight_other, fun h => chosenHeight_target,
      chosenHeight_ride⟩, axlesDown_eq, fun s side p => ?live,
    fun s side other => ⟨computeRecord_fromC_of_not_live other s side, fun held => computeRecord_fromE_of_held held s side⟩,
    fun s side => ⟨pressureFailed_sideRecord, pressureFailed_of_none⟩, fun s t => ?tyre,
    fun s base idle => raisedPressure_of_idle idle base, fun s side st => ?computed, fun s side => ?written⟩
  case formed =>
    refine ⟨fun y => clampTarget_within, s.clampTarget_eq_none_iff _, fun idle low high => ?_,
      fun allowed => raisedPressure_of_allowed allowed base, fun bounds => clampTarget_of_bounds bounds _,
      decide_eq_true_iff⟩
    have bounds := low.trans high
    obtain ⟨_, _, kept⟩ := clampNat_within bounds base
    simp [stageGH, raisedPressure_of_idle idle, clampTarget_of_bounds bounds, kept low high]
  case held =>
    obtain ⟨_, _, held⟩ := s.formTarget_controls
    exact held
  case live =>
    intro x area w n total share load
    have record : x = s.liveRecord side { s.sideRecord side with source := .live, pressure := some p } :=
      computeRecord_fromC_of_live rfl s side
    refine ⟨s.estimatePressure_sideRecord side p, ?_⟩
    rw [record]
    exact ⟨rfl, rfl, rfl, rfl, rfl, rfl, rfl, rfl, rfl, rfl, rfl, decide_eq_true_iff⟩
  case tyre =>
    refine ⟨?_, ?_⟩
    · rw [writeTyreTarget, setCircuit_circuit, tyreTargetFor_eq]
    · rw [writeFrozen, setCircuit_circuit, frozenFor_eq]
  case computed =>
    intro c r x stored
    have store : s.recomputeRecord side st =
        if x.overload = true ∧ r.overload = false ∧ (s.circuit c).state ≠ .absent then
          stored.raiseOverload side (x.perTyre.getD 0)
        else if r.overload = true ∧ x.overload = false then stored.clear (.tyreOverload side) else stored :=
      s.storeRecord_eq side x
    refine ⟨fun above was present => store.trans (if_pos ⟨above, was, present⟩), fun above still => ?_,
      fun under was => ?_, fun under was => ?_, fun runs live => ?_, fun stops => ?_, rfl, fun p => rfl⟩
    · rw [store, if_neg, if_neg]
      · simp [above]
      · rintro ⟨_, was, present⟩
        exact still.elim (fun w => absurd (w.symm.trans was) (by decide)) present
    · rw [store, if_neg (by simp [under]), if_pos ⟨was, under⟩]
    · rw [store, if_neg (by simp [under]), if_neg (by simp [was])]
    · exact if_pos ((runsE_iff ..).mpr ⟨runs, live⟩)
    · refine if_neg fun runs => ?_
      obtain ⟨asked, live⟩ := (runsE_iff ..).mp runs
      obtain ⟨noC, noE⟩ | other := stops
      · simp [noC, noE] at asked
      · exact other live
  case written =>
    intro ts
    have selected : s.tyresToWrite side = ts := by
      rw [tyresToWrite_eq]
      simp only [tyreTargetFor_eq]
      rfl
    rw [← selected]
    rfl

end Sys2Proof.Machine
end

section
/-! The two laws of the air control that every step keeps: the Demand List stands in its order (O7, with the places of
O37), and air is moved in RUNNING alone (O6). -/

namespace Sys2Proof.Machine

open State

/-! ### Laws of the air control at the whole unit -/

/-- A place secured for a reply is an item of the Link Port (R157). -/
theorem State.securePlace_setLink {s t : State} (h : s.securePlace = some t) : ∃ x, t = s.setLink x := by
  unfold State.securePlace at h
  split at h
  · cases h; exact ⟨_, rfl⟩
  · split at h
    · cases h; exact ⟨_, rfl⟩
    · split at h
      · cases h; exact ⟨_, rfl⟩
      · cases h

/-- A valve replaced by one that is open exactly when it was leaves the same valves open. -/
theorem State.setValve_isOpen (s : State) (v : ValveId) {x : Valve} (h : x.isOpen = (s.valve v).isOpen) (w : ValveId) :
    ((s.setValve v x).valve w).isOpen = (s.valve w).isOpen := by
  by_cases e : w = v
  · subst e; rw [setValve_valve, h]
  · rw [setValve_valve_of_ne _ _ e]

/-- A law about demands, transactions, open valves and the control state is kept by the whole unit once the air control,
the changes of the control state and the resets keep it: no other block touches what it speaks of. -/
theorem AirClosed.toUnitClosed {P : State → Prop} (air : AirClosed P)
    (reads : ∀ {s t : State}, P s → t.scheduler = s.scheduler → t.engine = s.engine →
      (∀ v, (t.valve v).isOpen = (s.valve v).isOpen) → t.supervisor.control = s.supervisor.control → P t)
    (control : ∀ {s : State} (c : ControlState), (s.isRunning = true → c = .running) → P s → P (s.setControl c))
    (leave : ∀ {s : State} (c : ControlState), c ≠ .running → P s → P (s.leaveRunning c))
    (reset : ∀ {t : State}, t.scheduler = Scheduler.initial → t.engine = [] → t.driver = Driver.initial → P t) :
    UnitClosed P where
  toAirClosed := air
  setEstimator _ h := reads h rfl rfl (fun _ => rfl) rfl
  clearFlag {s} v h := reads h rfl rfl (s.setValve_isOpen v rfl) rfl
  setSupervisor _ same h := reads h rfl rfl (fun _ => rfl) same
  setControl := control
  leaveRunning := leave
  setHeight _ _ _ h := reads h rfl rfl (fun _ => rfl) rfl
  setFlag {s} v h := reads h rfl rfl (s.setValve_isOpen v rfl) rfl
  setChannel _ _ _ h := reads h rfl rfl (fun _ => rfl) rfl
  setComparator _ _ h := reads h rfl rfl (fun _ => rfl) rfl
  setRamp _ h := reads h rfl rfl (fun _ => rfl) rfl
  setPositionInput _ h := reads h rfl rfl (fun _ => rfl) rfl
  setLamp _ h := reads h rfl rfl (fun _ => rfl) rfl
  setLink _ _ _ _ h := reads h rfl rfl (fun _ => rfl) rfl
  setQueue _ _ h := reads h rfl rfl (fun _ => rfl) rfl
  offerNotice {s} k body h := by
    obtain ⟨q, e⟩ := s.offerNotice_eq k body
    rw [e]
    exact reads h rfl rfl (fun _ => rfl) rfl
  setEvents _ _ h := reads h rfl rfl (fun _ => rfl) rfl
  setParams _ h := reads h rfl rfl (fun _ => rfl) rfl
  setStore _ h := reads h rfl rfl (fun _ => rfl) rfl
  setStartUp _ h := reads h rfl rfl (fun _ => rfl) rfl
  setRestart h := reads h rfl rfl (fun _ => rfl) rfl
  setRampState _ h := reads h rfl rfl (fun _ => rfl) rfl
  securePlace e h := by
    obtain ⟨x, rfl⟩ := State.securePlace_setLink e
    exact reads h rfl rfl (fun _ => rfl) rfl
  placeReply _ _ h := reads h rfl rfl (fun _ => rfl) rfl
  powerOn _ := reset rfl rfl rfl
  doRestart _ := reset (logEvent_scheduler ..) (logEvent_engine ..) (logEvent_driver ..)

/-- What every kind of update keeps, and the passing of time and the queue of commands leave alone, every step keeps. -/
theorem UnitClosed.step_keeps {P : State → Prop} (h : UnitClosed P) (now : ∀ t : State, P t → P (t.setNow (t.now + 1)))
    (pending : ∀ (t : State) q, P t → P (t.setPending q)) {s t : State} (hs : P s) (k : step s = .next t) : P t := by
  obtain ⟨u, e, kept⟩ := h.step_closed now pending hs
  rw [e] at k
  cases k
  exact kept

/-! ### The order of the Demand List -/

/-- R62 in the terms of class and mark. -/
theorem Demand.before_iff (d e : Demand) : d.before e = true ↔
    d.cls.number < e.cls.number ∨ (e.cls = d.cls ∧ d.mark < e.mark) := by
  rw [Demand.before, Bool.or_eq_true, Bool.and_eq_true, decide_eq_true_eq, decide_eq_true_eq, decide_eq_true_eq,
    eq_comm (a := d.cls)]

theorem DemandClass.number_injective {a b : DemandClass} (h : a.number = b.number) : a = b := by
  revert h
  cases a <;> cases b <;> decide

/-- A demand that does not go before another stands after it: a more urgent class, or an earlier or equal mark. -/
theorem Demand.not_before_iff (d e : Demand) : d.before e = false ↔
    e.cls.number < d.cls.number ∨ (e.cls = d.cls ∧ e.mark ≤ d.mark) := by
  rw [Bool.eq_false_iff, ne_eq, before_iff]
  by_cases same : e.cls = d.cls
  · simp [same]
  · have : e.cls.number ≠ d.cls.number := fun k => same (DemandClass.number_injective k)
    simp only [same, false_and, or_false]
    omega

/-- Of two demands at most one goes before the other. -/
theorem Demand.not_before_of_before {d e : Demand} (h : d.before e = true) : e.before d = false := by
  rw [before_iff] at h
  rw [not_before_iff]
  obtain less | ⟨same, less⟩ := h
  · exact .inl less
  · exact .inr ⟨same.symm, less.le⟩

/-- A demand that goes before another goes before each that does not stand before that one. -/
theorem Demand.before_trans {d e f : Demand} (h : d.before e = true) (k : f.before e = false) : d.before f = true := by
  rw [before_iff] at h ⊢
  rw [not_before_iff] at k
  obtain less | ⟨same, less⟩ := h
  · obtain le | ⟨eq, _⟩ := k
    · exact .inl (less.trans le)
    · exact .inl (eq ▸ less)
  · obtain le | ⟨eq, le⟩ := k
    · exact .inl (same ▸ le)
    · exact .inr ⟨eq.symm.trans same, by omega⟩

/-- Into a list in order a demand is set between those it does not go before and those it goes before (R62). -/
theorem placeDemand_split (d : Demand) {l : List Demand} (h : l.Pairwise fun a b => b.before a = false) :
    ∃ xs ys, l = xs ++ ys ∧ placeDemand d l = xs ++ d :: ys ∧ (∀ e ∈ xs, d.before e = false) ∧
      ∀ e ∈ ys, d.before e = true := by
  induction l with
  | nil => exact ⟨[], [], rfl, rfl, by simp, by simp⟩
  | cons e rest ih =>
    obtain ⟨behind, ordered⟩ := List.pairwise_cons.mp h
    unfold placeDemand
    cases first : d.before e with
    | true =>
      refine ⟨[], e :: rest, rfl, rfl, by simp, fun f mem => ?_⟩
      obtain rfl | mem := List.mem_cons.mp mem
      · exact first
      · exact Demand.before_trans first (behind f mem)
    | false =>
      obtain ⟨xs, ys, split, placed, above, below⟩ := ih ordered
      exact ⟨e :: xs, ys, by rw [split]; rfl, by simp [placed], List.forall_mem_cons.mpr ⟨first, above⟩, below⟩

/-- A list in order stays in order when a demand is set into its place. -/
theorem placeDemand_ordered (d : Demand) {l : List Demand} (h : l.Pairwise fun a b => b.before a = false) :
    (placeDemand d l).Pairwise fun a b => b.before a = false := by
  obtain ⟨xs, ys, rfl, placed, above, below⟩ := placeDemand_split d h
  obtain ⟨front, back, across⟩ := List.pairwise_append.mp h
  rw [placed]
  refine List.pairwise_append.mpr
    ⟨front, List.pairwise_cons.mpr ⟨fun e mem => Demand.not_before_of_before (below e mem), back⟩, fun e mem f k => ?_⟩
  obtain rfl | k := List.mem_cons.mp k
  · exact above e mem
  · exact across e mem f k

/-- The order turns on the Demand List alone. -/
theorem State.DemandsOrdered.of_scheduler {s t : State} (h : s.DemandsOrdered) (same : t.scheduler = s.scheduler) :
    t.DemandsOrdered := by
  unfold State.DemandsOrdered
  rwa [same]

/-- The air control keeps the order: a demand joins at its place, a wait reason decides no place, and a list without one
of its demands is in order still. -/
theorem demandsOrdered_airClosed : AirClosed State.DemandsOrdered := by
  have removed {s : State} (c : CircuitId) (h : s.DemandsOrdered) : (s.removeDemand c).DemandsOrdered := h.filter _
  constructor
  case removeDemand => exact fun c h => removed c h
  case setReason =>
    intro s c r h
    refine List.pairwise_map.mpr (h.imp fun {d e} k => ?_)
    have same (f g : Demand) : (if f.circuit = c then { f with reason := r } else f).before
        (if g.circuit = c then { g with reason := r } else g) = f.before g := by
      split <;> split <;> rfl
    rwa [same]
  case raiseDemand => exact fun d cls c on h => placeDemand_ordered _ (removed d.circuit h)
  case insertDemand => exact fun d _ h => placeDemand_ordered d h
  case clearDemands => exact fun _ => .nil
  case logEvent => exact fun k sev c v h => h.of_scheduler (logEvent_scheduler ..)
  case setConditions => exact fun x h => h.of_scheduler (setConditions_scheduler ..)
  all_goals
    intros
    assumption

theorem demandsOrdered_unitClosed : UnitClosed State.DemandsOrdered :=
  demandsOrdered_airClosed.toUnitClosed (fun h same _ _ _ => h.of_scheduler same) (fun _ _ h => h)
    (fun c _ h => leaveRunning_of demandsOrdered_airClosed (fun _ _ k => k) c h)
    fun {t} fresh _ _ => by
      unfold State.DemandsOrdered
      rw [fresh]
      exact .nil

/-- Settles O7: every kind of update of the unit keeps the order. -/
theorem stepDemandsOrdered : Obligations.StepDemandsOrdered :=
  fun _ _ h k => demandsOrdered_unitClosed.step_keeps (fun _ h => h) (fun _ _ h => h) h k

/-! ### Places and promotions -/

/-- Settles O37: the place of a demand is `placeDemand_split`, and a promotion is a case of the demand's class and
age. -/
theorem placingADemand : Obligations.PlacingADemand := by
  refine ⟨fun d l h => ?place, fun s c d held idle => ?promoted, fun s c held idle => ?absent⟩
  case place =>
    obtain ⟨xs, ys, split, placed, above, below⟩ := placeDemand_split d h
    exact ⟨xs, ys, split, placed, fun e mem => (d.not_before_iff e).mp (above e mem),
      fun e mem => (d.before_iff e).mp (below e mem)⟩
  case promoted =>
    exact (congrArg finish (promote_of_demand held)).trans (finish_of_nil (by split <;> exact idle))
  case absent =>
    have kept : s.promote c = s := by rw [State.promote, held]
    exact (congrArg finish kept).trans (finish_of_nil idle)

/-! ### Air at rest unless RUNNING -/

/-- Of two properties kept each, that one of them holds is kept. -/
theorem AirClosed.or {P Q : State → Prop} (hP : AirClosed P) (hQ : AirClosed Q) : AirClosed fun s => P s ∨ Q s where
  logEvent k sev c v := Or.imp (hP.logEvent k sev c v) (hQ.logEvent k sev c v)
  setConditions x := Or.imp (hP.setConditions x) (hQ.setConditions x)
  setCircuit c r k := Or.imp (hP.setCircuit c r k) (hQ.setCircuit c r k)
  setTyre t x := Or.imp (hP.setTyre t x) (hQ.setTyre t x)
  setSideControl side x := Or.imp (hP.setSideControl side x) (hQ.setSideControl side x)
  setLift x := Or.imp (hP.setLift x) (hQ.setLift x)
  removeDemand c := Or.imp (hP.removeDemand c) (hQ.removeDemand c)
  setReason c r := Or.imp (hP.setReason c r) (hQ.setReason c r)
  raiseDemand d cls c k := Or.imp (hP.raiseDemand d cls c k) (hQ.raiseDemand d cls c k)
  insertDemand d k := Or.imp (hP.insertDemand d k) (hQ.insertDemand d k)
  giveResources a b k := Or.imp (hP.giveResources a b k) (hQ.giveResources a b k)
  freeResources c b g := Or.imp (hP.freeResources c b g) (hQ.freeResources c b g)
  addTransaction t k l := Or.imp (hP.addTransaction t k l) (hQ.addTransaction t k l)
  setTransaction t := Or.imp (hP.setTransaction t) (hQ.setTransaction t)
  dropTransaction c := Or.imp (hP.dropTransaction c) (hQ.dropTransaction c)
  openValve c v k l m := Or.imp (hP.openValve c v k l m) (hQ.openValve c v k l m)
  setValve v x k l := Or.imp (hP.setValve v x k l) (hQ.setValve v x k l)
  setIsolation x := Or.imp (hP.setIsolation x) (hQ.setIsolation x)
  clearDemands := Or.imp hP.clearDemands hQ.clearDemands
  setDeferred d := Or.imp (hP.setDeferred d) (hQ.setDeferred d)

/-- The air control leaves the control state alone. -/
theorem isRunning_airClosed (b : Bool) : AirClosed fun s => s.isRunning = b :=
  airClosed_of_frame fun frame k => by
    unfold State.isRunning
    rw [frame.supervisor]
    exact k

theorem State.quiet_iff (s : State) : s.QuietUnlessRunning ↔ s.isRunning = true ∨ s.RestOn switchedValves := by
  have outputs : ∀ v : ValveId, v ∈ switchedValves ↔ v ≠ isolationValve := by decide
  unfold State.QuietUnlessRunning State.AirAtRest State.RestOn
  simp only [outputs]
  cases s.isRunning <;> simp

/-- Either the unit is RUNNING, or the air is at rest and the air control starts nothing (R63, R74). -/
theorem quiet_airClosed : AirClosed State.QuietUnlessRunning := by
  rw [show State.QuietUnlessRunning = fun s => s.isRunning = true ∨ s.RestOn switchedValves from
    funext fun s => propext s.quiet_iff]
  exact (isRunning_airClosed true).or (restOn_airClosed _)

/-- The law turns on demands, transactions, open valves and the control state alone. -/
theorem State.QuietUnlessRunning.of_same {s t : State} (h : s.QuietUnlessRunning) (sched : t.scheduler = s.scheduler)
    (engine : t.engine = s.engine) (valves : ∀ v, (t.valve v).isOpen = (s.valve v).isOpen)
    (control : t.supervisor.control = s.supervisor.control) : t.QuietUnlessRunning := by
  unfold State.QuietUnlessRunning State.isRunning State.AirAtRest
  simp only [sched, engine, valves, control]
  exact h

theorem quiet_unitClosed : UnitClosed State.QuietUnlessRunning := by
  refine quiet_airClosed.toUnitClosed State.QuietUnlessRunning.of_same (fun c runs h stopped => ?control)
    (fun c ne _ _ => leaveRunning_atRest _ ne) (fun {t} sched engine driver _ => ?reset)
  case control =>
    refine h (Bool.eq_false_iff.mpr fun k => ?_)
    rw [runs k] at stopped
    exact absurd (show true = false from stopped) (by decide)
  case reset =>
    refine ⟨by rw [sched]; rfl, engine, fun v _ => ?_⟩
    simp [State.valve, driver, Driver.initial, Valve.initial]

/-- Settles O6: every kind of update of the unit keeps the air at rest unless RUNNING, and a departure brings it to
rest. -/
theorem stepQuietUnlessRunning : Obligations.StepQuietUnlessRunning :=
  fun _ _ h k => quiet_unitClosed.step_keeps (fun _ h => h) (fun _ _ h => h) h k

end Sys2Proof.Machine
end

section
/-! Demands at the Air Scheduler: joins and withdrawals (O38), the conditions of service (O40) and the grant (O39). -/

namespace Sys2Proof.Machine

open State

/-! ### Joins and withdrawals -/

section
variable {s : State} {c : CircuitId} {a : Action} {cls : DemandClass}

/-- While not RUNNING no demand joins (R63). -/
theorem State.join_of_stopped (stopped : s.isRunning = false) : s.join c a cls = s :=
  if_neg fun k => Bool.false_ne_true (stopped.symm.trans k.2)

/-- The request of an IDLE circuit joins afresh (R63). -/
theorem State.join_of_idle (allowed : actionAllowed c a = true) (running : s.isRunning = true)
    (idle : (s.circuit c).state = .idle) : s.join c a cls = s.joinFresh c a cls := by
  rw [State.join, if_pos ⟨allowed, running⟩, idle]

/-- A circuit that is neither IDLE nor WAITING takes no request (R63). -/
theorem State.join_of_other (idle : (s.circuit c).state ≠ .idle) (waiting : (s.circuit c).state ≠ .waiting) :
    s.join c a cls = s := by
  unfold State.join
  split
  · split
    · exact absurd ‹_› idle
    · exact absurd ‹_› waiting
    · rfl
  · rfl

/-- The request of a WAITING circuit meets its demand: kept or raised for the same action, else replaced (R64). -/
theorem State.join_of_waiting (allowed : actionAllowed c a = true) (running : s.isRunning = true)
    (waiting : (s.circuit c).state = .waiting) {d : Demand} (held : s.demandOf c = some d) : s.join c a cls =
      if d.action = a then (if cls.number < d.cls.number then s.raiseDemand d cls else s)
      else (s.removeDemand c).joinFresh c a cls := by
  rw [State.join, if_pos ⟨allowed, running⟩, waiting, held]

end

/-- Settles O38: each clause is a case of the circuit's state and of the demand it has. -/
theorem joinAndWithdrawal : Obligations.JoinAndWithdrawal := by
  refine ⟨fun s c a cls allowed => ⟨fun idle running => join_of_idle allowed running idle, join_of_stopped,
    join_of_other, fun d waiting running held own => ?_⟩, fun s c => rfl⟩
  subst own
  have met := join_of_waiting (cls := cls) allowed running waiting held
  refine ⟨fun same urgent => ?_, fun same urgent => ?_, fun other => ?_⟩
  · rw [met, if_pos same, if_neg (not_lt.mpr urgent)]
  · rw [met, if_pos same, if_pos urgent]
    rfl
  · rw [met, if_neg other]
    rfl

/-! ### The conditions of service -/

/-- What R72 says of each wait reason; NONE says nothing. -/
def State.Hinders (s : State) (d : Demand) : WaitReason → Prop
  | .supplyFault => (kindFor d.circuit (s.actionAtGrant d)).needsSupply = true ∧ (s.valve supplyValve).fault = true
  | .galleryFault => (kindFor d.circuit (s.actionAtGrant d)).needsGallery = true ∧
      ((s.valve galleryFillValve).fault = true ∨ (s.valve galleryExhaustValve).fault = true)
  | .reserve => (kindFor d.circuit (s.actionAtGrant d)).needsSupply = true ∧ (s.supervisor.reserve ≠ .normal ∨
      s.validValue 0 = none ∨ ∃ r, s.validValue 0 = some r ∧ r < s.params.p30 + s.params.p31)
  | .differential => (kindFor d.circuit (s.actionAtGrant d)).needsSupply = true ∧
      ∃ r, s.validValue 0 = some r ∧ r < s.reportedValue (circuitPressureChannel d.circuit) + s.params.p33
  | .supplyBusy => (kindFor d.circuit (s.actionAtGrant d)).needsSupply = true ∧ s.scheduler.supply ≠ none
  | .galleryBusy => (kindFor d.circuit (s.actionAtGrant d)).needsGallery = true ∧ s.scheduler.gallery ≠ none
  | .noReason => False

open scoped Classical in
/-- The reservoir's part of R72: RESERVE before DIFFERENTIAL. -/
theorem State.reservoirReason_eq (s : State) (p : Nat) : s.reservoirReason p =
    if s.supervisor.reserve ≠ .normal ∨ s.validValue 0 = none ∨
      ∃ r, s.validValue 0 = some r ∧ r < s.params.p30 + s.params.p31 then some .reserve
    else if ∃ r, s.validValue 0 = some r ∧ r < p + s.params.p33 then some .differential else none := by
  unfold State.reservoirReason
  cases s.validValue 0 with
  | none => simp
  | some r => simp

open scoped Classical in
/-- The reason given is the first that holds, in the order of R72. -/
theorem State.whyNot_eq (s : State) (d : Demand) : s.whyNot d =
    if s.Hinders d .supplyFault then some .supplyFault
    else if s.Hinders d .galleryFault then some .galleryFault
    else if s.Hinders d .reserve then some .reserve
    else if s.Hinders d .differential then some .differential
    else if s.Hinders d .supplyBusy then some .supplyBusy
    else if s.Hinders d .galleryBusy then some .galleryBusy else none := by
  unfold State.whyNot
  simp only [reservoirReason_eq, State.Hinders, State.galleryFaulty, Bool.or_eq_true, Option.isSome_iff_ne_none]
  by_cases draws : (kindFor d.circuit (s.actionAtGrant d)).needsSupply = true
  · simp only [draws, true_and, if_true]
    split_ifs <;> simp [*]
  · simp only [draws, Bool.false_eq_true, false_and, if_false]
    split_ifs <;> simp [*]

/-- A demand can be served when no reason of R72 holds. -/
theorem State.whyNot_eq_none (s : State) (d : Demand) : s.whyNot d = none ↔ ∀ r, ¬s.Hinders d r := by
  refine ⟨fun h r => ?_, fun h => by simp [whyNot_eq, h]⟩
  rw [whyNot_eq] at h
  split_ifs at h
  cases r
  case noReason => exact not_false
  all_goals assumption

/-- The reservoir holds a fill back by neither reason: it is judged NORMAL, and its value lies far enough above both. -/
theorem State.reservoir_suffices (s : State) (p : Nat) :
    (¬(s.supervisor.reserve ≠ .normal ∨ s.validValue 0 = none ∨
        ∃ r, s.validValue 0 = some r ∧ r < s.params.p30 + s.params.p31) ∧
      ¬∃ r, s.validValue 0 = some r ∧ r < p + s.params.p33) ↔
    s.supervisor.reserve = .normal ∧
      ∃ r, s.validValue 0 = some r ∧ s.params.p30 + s.params.p31 ≤ r ∧ p + s.params.p33 ≤ r := by
  cases s.validValue 0 with
  | none => simp
  | some r => simp [and_assoc]

/-- Settles O40: a demand can be served when no reason of R72 holds, and is given the first that does. -/
theorem servingConditions : Obligations.ServingConditions := by
  classical
  refine ⟨fun s d => ?served, fun s d => ?first, fun s d => ?examined⟩
  case served =>
    intro k
    rw [whyNot_eq_none]
    refine ⟨fun free => ⟨fun draws => ?_, fun draws => ?_⟩, fun ⟨supply, gallery⟩ r => ?_⟩
    · obtain ⟨normal, enough⟩ := (s.reservoir_suffices _).mp
        ⟨fun short => free .reserve ⟨draws, short⟩, fun short => free .differential ⟨draws, short⟩⟩
      exact ⟨Bool.eq_false_iff.mpr fun fault => free .supplyFault ⟨draws, fault⟩, normal,
        of_not_not fun busy => free .supplyBusy ⟨draws, busy⟩, enough⟩
    · exact ⟨Bool.eq_false_iff.mpr fun fault => free .galleryFault ⟨draws, .inl fault⟩,
        Bool.eq_false_iff.mpr fun fault => free .galleryFault ⟨draws, .inr fault⟩,
        of_not_not fun busy => free .galleryBusy ⟨draws, busy⟩⟩
    · cases r <;> rintro ⟨draws, hindrance⟩
      case supplyFault | supplyBusy =>
        obtain ⟨sound, _, unheld, _⟩ := supply draws
        simp [sound, unheld] at hindrance
      case galleryFault | galleryBusy =>
        obtain ⟨sound, sound', unheld⟩ := gallery draws
        simp [sound, sound', unheld] at hindrance
      case reserve =>
        obtain ⟨_, normal, _, enough⟩ := supply draws
        exact ((s.reservoir_suffices _).mpr ⟨normal, enough⟩).1 hindrance
      case differential =>
        obtain ⟨_, normal, _, enough⟩ := supply draws
        exact ((s.reservoir_suffices _).mpr ⟨normal, enough⟩).2 hindrance
  case first =>
    intro k supplyFault galleryFault reserve differential supplyBusy galleryBusy
    have first := s.whyNot_eq d
    exact ⟨fun h => first.trans (if_pos h), fun n h => first.trans ((if_neg n).trans (if_pos h)),
      fun n n' h => first.trans ((if_neg n).trans ((if_neg n').trans (if_pos h))),
      fun n1 n2 n3 h => first.trans ((if_neg n1).trans ((if_neg n2).trans ((if_neg n3).trans (if_pos h)))),
      fun n1 n2 n3 n4 h => first.trans ((if_neg n1).trans ((if_neg n2).trans ((if_neg n3).trans ((if_neg n4).trans
        (if_pos h))))),
      fun n1 n2 n3 n4 n5 h => first.trans ((if_neg n1).trans ((if_neg n2).trans ((if_neg n3).trans ((if_neg n4).trans
        ((if_neg n5).trans (if_pos h))))))⟩
  case examined =>
    unfold State.examine
    cases s.whyNot d <;> rfl

/-! ### The grant -/

/-- An open request changes the driver and the hand-offs alone (R11). -/
theorem State.requestOpen_eq (s : State) (c : CircuitId) (v : ValveId) :
    ∃ x ds, s.requestOpen c v = (s.setDriver x).setDeferred ds := by
  unfold State.requestOpen
  split
  · split
    · exact ⟨s.driver, _, rfl⟩
    · split
      · exact ⟨s.driver, s.deferred, rfl⟩
      · exact ⟨{ s.driver with
          valves := s.driver.valves.set v.val { s.valve v with isOpen := true, check := some s.now } }, s.deferred, rfl⟩
  · exact ⟨s.driver, s.deferred, rfl⟩

theorem State.requestOpenAll_eq (s : State) (c : CircuitId) (vs : List ValveId) :
    ∃ x ds, s.requestOpenAll c vs = (s.setDriver x).setDeferred ds := by
  induction vs generalizing s with
  | nil => exact ⟨s.driver, s.deferred, rfl⟩
  | cons v rest ih =>
    obtain ⟨x, ds, first⟩ := s.requestOpen_eq c v
    obtain ⟨y, es, others⟩ := ih (s.requestOpen c v)
    exact ⟨y, es, by rw [State.requestOpenAll, List.foldl_cons]; exact others.trans (by rw [first]; rfl)⟩

/-- The record of a transaction turns on time, configuration, readings, height control, and the targets and readings of
the circuits (R80 to R83). -/
theorem State.newTransaction_congr {s u : State} (now : u.now = s.now) (params : u.params = s.params)
    (sensing : u.sensing = s.sensing) (height : u.height = s.height)
    (target : ∀ c, (u.circuit c).target = (s.circuit c).target)
    (measured : ∀ c, (u.circuit c).measured = (s.circuit c).measured) (c : CircuitId) (k : TransactionKind) :
    u.newTransaction c k = s.newTransaction c k := by
  have value (ch : Channel) : u.validValue ch = s.validValue ch := by
    unfold State.validValue State.isValid State.channel
    rw [sensing]
  have side (x : Side) : u.sidePulse x k = s.sidePulse x k := by
    unfold State.sidePulse State.sideError State.evaluationHeight
    simp only [params, target, value]
  have tyre : u.tyrePulse c = s.tyrePulse c := by
    unfold State.tyrePulse
    rw [target, measured, params]
  unfold State.newTransaction State.leadTimeFor State.pulseTimeFor State.afterTimeFor
  simp only [now, params, height, side, tyre, value, measured]

/-- A grant up to the open requests of its first phase (R74, R80, R81). -/
def State.granted (s : State) (d : Demand) : State :=
  let k := kindFor d.circuit (s.actionAtGrant d)
  ((s.setScheduler {
      demands := s.scheduler.demands.filter fun e => e.circuit ≠ d.circuit
      supply := if k.needsSupply then some d.circuit else s.scheduler.supply
      gallery := if k.needsGallery then some d.circuit else s.scheduler.gallery }).setCircuit d.circuit
        { s.circuit d.circuit with state := .active }).setEngine (s.engine ++ [s.newTransaction d.circuit k])

/-- A circuit made ACTIVE keeps the rest of its record, and the others theirs. -/
theorem State.setCircuitState_circuit (s : State) (c : CircuitId) (st : CircuitState) (d : CircuitId) :
    (s.setCircuitState c st).circuit d = { s.circuit d with state := if d = c then st else (s.circuit d).state } := by
  by_cases e : d = c
  · subst e
    rw [State.setCircuitState, setCircuit_circuit, if_pos rfl]
  · rw [State.setCircuitState, setCircuit_circuit_of_ne _ _ e, if_neg e]

theorem State.grant_eq (s : State) (d : Demand) : s.grant d = (s.granted d).requestOpenAll d.circuit
    (phaseValves d.circuit (kindFor d.circuit (s.actionAtGrant d))
      (kindFor d.circuit (s.actionAtGrant d)).firstPhase) := by
  have record := newTransaction_congr (s := s) (u := (s.removeDemand d.circuit).setCircuitState d.circuit .active) rfl
    rfl rfl rfl (fun c => by rw [setCircuitState_circuit]; rfl) (fun c => by rw [setCircuitState_circuit]; rfl)
    d.circuit (kindFor d.circuit (s.actionAtGrant d))
  unfold State.granted
  dsimp only
  rw [← record]
  rfl

/-- The valves asked for in the first phase of each kind (R84 to R88). -/
theorem phaseValves_firstPhase (c : CircuitId) :
    (∀ k : TransactionKind, k = .sideFill ∨ k = .liftFill →
      phaseValves c k k.firstPhase = [supplyValve, inletValve c]) ∧
    (∀ k : TransactionKind, k = .sideExhaust ∨ k = .liftExhaust → phaseValves c k k.firstPhase = [outletValve c]) ∧
    phaseValves c .probe TransactionKind.probe.firstPhase = [galleryExhaustValve] ∧
    phaseValves c .inflate TransactionKind.inflate.firstPhase = [supplyValve, galleryFillValve] ∧
    phaseValves c .deflate TransactionKind.deflate.firstPhase = [inletValve c, galleryExhaustValve] := by
  refine ⟨?_, ?_, rfl, rfl, rfl⟩
  all_goals rintro k (rfl | rfl) <;> rfl

theorem clampPulse_of_le {lo hi : Nat} (h : lo ≤ hi) (x : Nat) : clampPulse lo hi x = max lo (min hi x) := if_pos h

/-- Settles O39: a grant is `State.granted` with the open requests of its first phase, and the record of its transaction
is computed kind by kind. -/
theorem grantIsOneAct : Obligations.GrantIsOneAct := by
  refine ⟨fun s d => ?act, fun s c k => ?record, fun s side k level => ?side, fun s c k inflates => ?tyre,
    fun s d => ?action, ?kinds, fun s d => ?valves⟩
  case act =>
    intro k t
    obtain ⟨x, ds, opened⟩ := (s.granted d).requestOpenAll_eq d.circuit (phaseValves d.circuit k k.firstPhase)
    have grant : t = ((s.granted d).setDriver x).setDeferred ds := (s.grant_eq d).trans opened
    rw [grant]
    exact ⟨rfl, setCircuit_circuit .., fun c ne => setCircuit_circuit_of_ne _ _ ne, rfl, rfl, rfl⟩
  case record =>
    refine ⟨rfl, rfl, rfl, rfl, rfl, rfl, ?_, ?_, ?_, ?_, ?_, ?_, fun notProbe notInflate p fixed => ?_, fun tyre => ?_,
      fun other => ?_⟩
    · rintro (rfl | rfl | rfl | rfl) <;> exact ⟨rfl, rfl⟩
    · rintro rfl; exact ⟨rfl, rfl, rfl, rfl, rfl⟩
    · rintro rfl; exact ⟨rfl, rfl, rfl, rfl⟩
    · rintro rfl; exact ⟨rfl, rfl, rfl⟩
    · rintro (rfl | rfl) <;> rfl
    · rintro (rfl | rfl) <;> exact ⟨rfl, rfl⟩
    · have lead : s.leadTimeFor k = none := by
        cases k <;> first | rfl | contradiction
      have pulse : s.pulseTimeFor c k = some p := fixed
      simp [State.newTransaction, lead, pulse]
    · refine ⟨?_, if_pos tyre, if_pos tyre⟩
      have side : circuitSide c = none := by
        have := (circuitKind_eq_tyre c).mp tyre
        simp [circuitSide, show ¬c.val = 0 by omega, show ¬c.val = 1 by omega]
      simp [State.newTransaction, side]
    · exact ⟨if_neg other, if_neg other⟩
  case side =>
    intro t target
    have pulse : t.pulseTime = some (s.sidePulse side k) := by
      rcases level with rfl | rfl <;> simp [t, State.newTransaction, State.pulseTimeFor, circuitSide_sideCircuit]
    refine ⟨by simp [t, State.newTransaction, circuitSide_sideCircuit], fun g h has height bounds => ?_,
      fun lacks => ?_⟩
    · have error : s.sideError side = some (absDiff g h) := by
        unfold State.sideError
        rw [show (s.circuit (sideCircuit side)).target = some g from has, height]
      rw [pulse, State.sidePulse, error]
      exact congrArg some (clampPulse_of_le bounds _)
    · have error : s.sideError side = none := by
        unfold State.sideError
        split
        · simp_all [target]
        · rfl
      rw [pulse, State.sidePulse, error]
  case tyre =>
    have pulse : (s.newTransaction c k).pulseTime = some (s.tyrePulse c) := by
      rcases inflates with rfl | rfl <;> rfl
    refine ⟨fun g m has read bounds => ?_, fun lacks => ?_⟩
    · rw [pulse, State.tyrePulse, has, read]
      exact congrArg some (clampPulse_of_le bounds _)
    · rw [pulse, State.tyrePulse, lacks]
  case action =>
    unfold State.actionAtGrant
    simp only [circuitKind_eq_tyre]
  case kinds =>
    exact ⟨fun side => by cases side <;> decide, rfl, rfl, rfl, rfl, by decide, fun k => by cases k <;> decide⟩
  case valves =>
    intro c k taken
    have opens (vs : List ValveId) (first : phaseValves c k k.firstPhase = vs) :
        s.grant d = taken.requestOpenAll c vs := by
      rw [← first]
      exact s.grant_eq d
    obtain ⟨fills, exhausts, probe, inflate, deflate⟩ := phaseValves_firstPhase c
    refine ⟨fun h => opens _ (fills k h), fun h => opens _ (exhausts k h), fun h => ?_, fun h => ?_, fun h => ?_⟩
    · exact opens [galleryExhaustValve] (by rw [h]; exact probe)
    · exact opens [supplyValve, galleryFillValve] (by rw [h]; exact inflate)
    · exact opens [inletValve c, galleryExhaustValve] (by rw [h]; exact deflate)

end Sys2Proof.Machine
end

section
/-! The evaluation of a side and of LIFT, and the moments of both (O43). -/

namespace Sys2Proof.Machine

open State

/-! ### The table of R113 -/

theorem roundDiv_two (n : Nat) : roundDiv n 2 = (n + 1) / 2 := by
  unfold roundDiv
  omega

theorem State.band_eq (s : State) (side : Side) : s.band side =
    if (s.sideControl side).adjusting then (s.deadband + 1) / 2 else s.deadband := by
  rw [State.band, roundDiv_two]

/-- The rows of R113 in their order. -/
theorem State.sideResult_of_some {s : State} {side : Side} {h t : Nat} (height : s.evaluationHeight side = some h)
    (target : s.height.target = some t) : s.sideResult side =
      if h < s.params.p14 then .safety .fill
      else if s.params.p13 < h ∧ (s.sideControl side).atLimit = false then .safety .exhaust
      else if h + s.band side < t then .level .fill
      else if t + s.band side < h ∧ (s.sideControl side).atLimit = false then .level .exhaust
      else .nothing := by
  rw [State.sideResult, height, target]
  simp only [Bool.not_eq_true']

theorem State.sideResult_of_none {s : State} {side : Side}
    (lacks : s.evaluationHeight side = none ∨ s.height.target = none) : s.sideResult side = .nothing := by
  unfold State.sideResult
  split
  · simp_all
  · rfl

/-- The height evaluated is the own channel's, else the other's (R112). -/
theorem State.evaluationHeight_eq (s : State) (side : Side) : s.evaluationHeight side =
    (s.validValue (heightChannel side)).or (s.validValue (heightChannel (otherSide side))) := by
  unfold State.evaluationHeight
  cases s.validValue (heightChannel side) <;> rfl

/-- Half the deadband is reached (R113). -/
theorem State.withinHalfBand_eq (s : State) (side : Side) : s.withinHalfBand side =
    (s.evaluationHeight side).any fun h => s.height.target.any fun g =>
      decide ((g - h) + (h - g) ≤ (s.deadband + 1) / 2) := by
  unfold State.withinHalfBand
  rw [roundDiv_two]
  cases s.evaluationHeight side <;> cases s.height.target <;> rfl

/-- A demand with another action than the need is withdrawn (R113). -/
theorem State.withdrawOther_eq (s : State) (side : Side) (need : Option SideNeed) : s.withdrawOther side need =
    if (s.demandOf (sideCircuit side)).all fun d => decide (need.map SideNeed.action = some d.action) then s
    else s.withdraw (sideCircuit side) := by
  unfold State.withdrawOther
  cases s.demandOf (sideCircuit side) <;> simp

theorem State.withdrawOther_some (s : State) (side : Side) (need : SideNeed) : s.withdrawOther side (some need) =
    if (s.demandOf (sideCircuit side)).all fun d => decide (d.action = need.action) then s
    else s.withdraw (sideCircuit side) := by
  rw [withdrawOther_eq]
  simp only [Option.map_some, Option.some.injEq, eq_comm (a := need.action)]

theorem State.withdrawOther_none (s : State) (side : Side) : s.withdrawOther side none =
    if s.demandOf (sideCircuit side) = none then s else s.withdraw (sideCircuit side) := by
  rw [withdrawOther_eq]
  cases s.demandOf (sideCircuit side) <;> simp

/-- The need of a result starts the timer, or lets it run on (R114). -/
theorem State.pendingSince_some (s : State) (side : Side) (need : SideNeed) : s.pendingSince side (some need) =
    some (if (s.sideControl side).pendingDir = some need then (s.sideControl side).pendingSince.getD s.now
      else s.now) := by
  unfold State.pendingSince
  dsimp only
  split_ifs <;> rfl

/-- Without a need the timer ends, and adjusting ends within half the deadband (R113, R114). -/
theorem State.sideAfter_nothing (s : State) (side : Side) : s.sideAfter side .nothing = { s.sideControl side with
    adjusting := (s.sideControl side).adjusting && !s.withinHalfBand side
    pendingDir := none, pendingSince := none, targetChanged := false, expiry := none } := by
  simp [State.sideAfter, State.sideRequest, State.pendingSince, SideResult.need, Bool.and_comm]

/-- With a class 0 need the side joins at once: it is adjusting, and no expiry is set (R113, R114). -/
theorem State.sideAfter_safety (s : State) (side : Side) (need : SideNeed) :
    s.sideAfter side (.safety need) = { s.sideControl side with
      adjusting := !s.withinHalfBand side, pendingDir := some need, pendingSince := s.pendingSince side (some need)
      targetChanged := false, expiry := none } := by
  simp [State.sideAfter, State.sideRequest, SideResult.need]

/-- A class 1 need is timed from its mark (R114). -/
theorem State.persisted_level {s : State} {side : Side} {need : SideNeed} {m : Nat}
    (since : s.pendingSince side (some need) = some m) :
    s.persisted side (.level need) = decide (m + s.persistence side ≤ s.now) := by
  unfold State.persisted SideResult.need
  rw [since]

/-- A class 1 need that has persisted joins, as one of class 0 does (R113, R114). -/
theorem State.sideAfter_persisted {s : State} {side : Side} {need : SideNeed}
    (persisted : s.persisted side (.level need) = true) :
    s.sideAfter side (.level need) = s.sideAfter side (.safety need) := by
  have timed : s.sideAfter side (.level need) = { s.sideAfter side (.safety need) with
      expiry := (s.sideAfter side (.level need)).expiry } := by
    simp [State.sideAfter, State.sideRequest, persisted, SideResult.need]
  have ended : (s.sideAfter side (.level need)).expiry = none := by
    simp only [State.sideAfter, persisted]
    split <;> simp_all
  rw [timed, ended, sideAfter_safety]

/-- A class 1 need that has not persisted sets the expiry (R114). -/
theorem State.sideAfter_pending {s : State} {side : Side} {need : SideNeed} {m : Nat}
    (since : s.pendingSince side (some need) = some m) (early : s.persisted side (.level need) = false) :
    s.sideAfter side (.level need) = { s.sideControl side with
      adjusting := (s.sideControl side).adjusting && !s.withinHalfBand side, pendingDir := some need
      pendingSince := some m, targetChanged := false, expiry := some (m + s.persistence side) } := by
  simp [State.sideAfter, State.sideRequest, early, SideResult.need, since, Bool.and_comm]

/-- The evaluation of a present side: flags and timer, the withdrawal, and the request (R113, R114). -/
theorem State.evaluateSide_of_present {s : State} {side : Side}
    (present : (s.circuit (sideCircuit side)).state ≠ .absent) :
    s.evaluateSide side =
      let r := s.sideResult side
      let t := (s.setSideControl side (s.sideAfter side r)).withdrawOther side r.need
      (s.sideRequest side r).elim t fun q => t.join (sideCircuit side) q.1.action q.2 := by
  refine (if_pos (by simpa [State.isPresent] using present)).trans ?_
  dsimp only
  cases s.sideRequest side (s.sideResult side) <;> rfl

theorem State.evaluateSide_of_absent {s : State} {side : Side}
    (absent : (s.circuit (sideCircuit side)).state = .absent) :
    s.evaluateSide side = s := if_neg (by simp [State.isPresent, absent])

/-! ### LIFT -/

section
variable {s : State}

theorem State.evaluateLift_of_idle (h : s.liftFitted = false ∨ s.lift.reconciled = false) : s.evaluateLift = s :=
  if_neg fun k => by
    obtain ⟨fitted, reconciled⟩ := s.liftActs_iff.mp k
    simp [fitted, reconciled] at h

theorem State.evaluateLift_of_filling (acts : s.liftActs = true) (state : s.lift.state = .raising)
    (step : s.lift.step = .filling) : s.evaluateLift = s.evaluateFilling := by
  rw [State.evaluateLift, if_pos acts, state, step]

theorem State.evaluateLift_of_up (acts : s.liftActs = true) (state : s.lift.state = .up) :
    s.evaluateLift = s.evaluateUp := by
  rw [State.evaluateLift, if_pos acts, state]

theorem State.evaluateLift_of_venting (acts : s.liftActs = true) (state : s.lift.state = .lowering)
    (step : s.lift.step = .venting) : s.evaluateLift = s.evaluateVenting := by
  rw [State.evaluateLift, if_pos acts, state, step]

/-- In DOWN, ISOLATING and CONNECTING a demand of LIFT is withdrawn (R119). -/
theorem State.evaluateLift_of_switching (acts : s.liftActs = true) (h : s.lift.state = .down ∨
    (s.lift.state = .raising ∧ s.lift.step = .isolating) ∨ (s.lift.state = .lowering ∧ s.lift.step = .connecting)) :
    s.evaluateLift = s.withdraw liftCircuit := by
  rw [State.evaluateLift, if_pos acts]
  obtain down | ⟨state, step⟩ | ⟨state, step⟩ := h
  · rw [down]
  · rw [state, step]
  · rw [state, step]

theorem State.evaluateVenting_of_free (free : s.lift.ventHeld = false) : s.evaluateVenting = s.ventingRows :=
  if_neg (by simp [free])

theorem State.evaluateVenting_of_held (held : s.lift.ventHeld = true) :
    s.evaluateVenting = if s.isRunning then s.releaseVenting else s := if_pos held

theorem State.ventingRows_of_bag {b : Nat} (bag : s.validValue 3 = some b) : s.ventingRows =
    if s.params.p83 < b then s.join liftCircuit .exhaust (s.lift.loweringClass.getD .lift) else s.startConnecting := by
  rw [State.ventingRows, State.bag, bag]
  rfl

theorem State.ventingRows_of_blind (bag : s.validValue 3 = none) : s.ventingRows =
    if s.lift.blindVentDone then s else s.join liftCircuit .exhaust (s.lift.loweringClass.getD .lift) := by
  rw [State.ventingRows, State.bag, bag]
  rfl

/-- A withdrawal leaves the Lift Axle Controller alone (R65). -/
theorem State.withdraw_lift (s : State) (c : CircuitId) : (s.withdraw c).lift = s.lift := by
  unfold State.withdraw
  split <;> rfl

/-- The lowering goes on to CONNECTING: one switch to CONNECTED is requested, and is outstanding (R119, R120). -/
theorem State.startConnecting_eq (s : State) : s.startConnecting = ((s.withdraw liftCircuit).setLift
    { s.lift with step := .connecting, switchOutstanding := true }).requestSwitch .connected := rfl

theorem State.evaluateFilling_of_low {b : Nat} (bag : s.validValue 3 = some b) (low : b < s.params.p82) :
    s.evaluateFilling = s.join liftCircuit .fill .lift := by
  rw [State.evaluateFilling, State.bag, bag]
  exact if_pos low

/-- UP is reached at P82 with LIFT IDLE or WAITING (R119, log entry 30). -/
theorem State.evaluateFilling_of_full {b : Nat} (bag : s.validValue 3 = some b) (full : s.params.p82 ≤ b)
    (free : (s.circuit liftCircuit).state = .idle ∨ (s.circuit liftCircuit).state = .waiting)
    (state : s.lift.state = .raising) : s.evaluateFilling =
      (((s.withdraw liftCircuit).setLift { s.lift with state := .up, step := .noStep }).logEvent .liftChanged .advisory
        none (some 2)).setLift { s.lift with state := .up, step := .noStep, refilling := false } := by
  have raised := setLiftState_of_ne (s := s.withdraw liftCircuit) (st := .up)
    (by rw [withdraw_lift, state]; decide) .noStep
  rw [State.evaluateFilling, State.bag, bag]
  dsimp only
  rw [if_neg (not_lt.mpr full), if_pos free, raised, logEvent_lift, setLift_lift, withdraw_lift]
  rfl

theorem State.evaluateFilling_of_busy {b : Nat} (bag : s.validValue 3 = some b) (full : s.params.p82 ≤ b)
    (idle : (s.circuit liftCircuit).state ≠ .idle) (waiting : (s.circuit liftCircuit).state ≠ .waiting) :
    s.evaluateFilling = s := by
  rw [State.evaluateFilling, State.bag, bag]
  dsimp only
  rw [if_neg (not_lt.mpr full), if_neg (not_or.mpr ⟨idle, waiting⟩)]

theorem State.evaluateFilling_of_blind (bag : s.validValue 3 = none) : s.evaluateFilling = s.lower .lift := by
  rw [State.evaluateFilling, State.bag, bag]

theorem State.evaluateUp_of_bag {b : Nat} (bag : s.validValue 3 = some b) : s.evaluateUp =
    if b + 30 < s.params.p82 then (s.setLift { s.lift with refilling := true }).join liftCircuit .fill .lift
    else if b < s.params.p82 then (if s.lift.refilling then s.join liftCircuit .fill .lift else s)
    else (s.setLift { s.lift with refilling := false }).withdraw liftCircuit := by
  rw [State.evaluateUp, State.bag, bag]
  rfl

theorem State.evaluateUp_of_blind (bag : s.validValue 3 = none) : s.evaluateUp = s.lower .lift := by
  rw [State.evaluateUp, State.bag, bag]

end

/-! ### The moments -/

/-- HOLDOFF_END in its time (R96). -/
theorem exec_holdoffEnd_of_due {s : State} {c : CircuitId} {m : Nat} (state : (s.circuit c).state = .holdoff)
    (ends : (s.circuit c).holdoffEnd = some m) (due : m ≤ s.now) :
    exec (.holdoffEnd c) s = finish (s.endHoldoff c) := by
  have now : s.holdoffDue c = true := by simpa [State.holdoffDue, state, ends, State.reached] using due
  exact congrArg finish (if_pos now)

/-- PERSISTENCE_EXPIRY in its time (R114). -/
theorem exec_persistenceExpiry_of_due {s : State} {side : Side} {m : Nat} (ends : (s.sideControl side).expiry = some m)
    (due : m ≤ s.now) : exec (.persistenceExpiry side) s = finish (s.endPersistence side) := by
  have now : s.persistenceDue side = true := by simpa [State.persistenceDue, ends, State.reached] using due
  exact congrArg finish (if_pos now)

/-- Settles O43: the tables by their rows, the evaluations by what they find, the moments in their time. -/
theorem sideEvaluation : Obligations.SideEvaluation := by
  refine ⟨fun s side h t height target => ?table, fun s side => rfl,
    fun s side m ends due => exec_persistenceExpiry_of_due ends due,
    fun s c m state ends due => exec_holdoffEnd_of_due state ends due, fun s fitted reconciled => ?lift,
    fun s => evaluateLift_of_idle, fun s side => ?height, fun s side present => ?side,
    fun s b fitted reconciled state step bag full idle waiting => ?busy,
    fun s fitted reconciled state step held => ?held, fun s k => ?returned⟩
  case table =>
    intro deadband band free
    have rows : s.sideResult side = if h < s.params.p14 then .safety .fill
        else if s.params.p13 < h ∧ free then .safety .exhaust
        else if h + band < t then .level .fill
        else if t + band < h ∧ free then .level .exhaust else .nothing := by
      rw [sideResult_of_some height target, State.band_eq]
      rfl
    refine ⟨fun low => rows.trans (if_pos low), fun low high limit => ?_, fun low high below => ?_,
      fun low high limit above => ?_, fun low high below above => ?_⟩
    · rw [rows, if_neg (not_lt.mpr low), if_pos ⟨high, limit⟩]
    · rw [rows, if_neg (not_lt.mpr low), if_neg fun k => high.elim (not_le.mpr k.1) fun shut => shut k.2, if_pos below]
    · rw [rows, if_neg (not_lt.mpr low), if_neg fun k => not_lt.mpr high k.1, if_neg (by omega),
        if_pos ⟨above, limit⟩]
    · rw [rows, if_neg (not_lt.mpr low), if_neg fun k => high.elim (not_le.mpr k.1) fun shut => shut k.2,
        if_neg (not_lt.mpr below), if_neg fun k => above.elim (not_le.mpr k.1) fun shut => shut k.2]
  case lift =>
    intro filling venting cls
    have acts := s.liftActs_iff.mpr ⟨fitted, reconciled⟩
    have rising (h : filling) : s.evaluateLift = s.evaluateFilling := evaluateLift_of_filling acts h.1 h.2
    have sinking (h : venting) : s.evaluateLift = s.ventingRows := by
      obtain ⟨state, step, free⟩ := h
      rw [evaluateLift_of_venting acts state step, evaluateVenting_of_free free]
    refine ⟨fun b bag => ⟨fun h low => ?_, fun h full free => ?_, fun up low => ?_, fun up low less => ?_,
      fun up full => ?_, fun h beyond => ?_, fun h low => ?_⟩,
      fun bag => ⟨fun h => ?_, fun h first => ?_, fun h done => ?_⟩,
      evaluateLift_of_switching acts⟩
    · rw [rising h, evaluateFilling_of_low bag low]
    · rw [rising h, evaluateFilling_of_full bag full free h.1]
    · rw [evaluateLift_of_up acts up, evaluateUp_of_bag bag, if_pos low]
    · rw [evaluateLift_of_up acts up, evaluateUp_of_bag bag, if_neg (not_lt.mpr low), if_pos less]
    · rw [evaluateLift_of_up acts up, evaluateUp_of_bag bag, if_neg (by omega), if_neg (not_lt.mpr full)]
    · rw [sinking h, ventingRows_of_bag bag, if_pos beyond]
    · rw [sinking h, ventingRows_of_bag bag, if_neg (not_lt.mpr low), startConnecting_eq]
    · obtain h | up := h
      · rw [rising h, evaluateFilling_of_blind bag]
      · rw [evaluateLift_of_up acts up, evaluateUp_of_blind bag]
    · rw [sinking h, ventingRows_of_blind bag, if_neg (by simp [first])]
    · rw [sinking h, ventingRows_of_blind bag, if_pos done]
  case height =>
    refine ⟨fun h own => ?_, fun lacks => ?_, sideResult_of_none, evaluateSide_of_absent⟩
    · rw [evaluationHeight_eq, own]
      rfl
    · rw [evaluationHeight_eq, lacks]
      rfl
  case side =>
    intro c x deadband near unlessAction
    have half : s.withinHalfBand side = near := s.withinHalfBand_eq side
    have evaluated := evaluateSide_of_present present
    refine ⟨fun nothing => ?_, fun need => ?_⟩
    · intro u
      have after : s.setSideControl side (s.sideAfter side .nothing) = u := by rw [sideAfter_nothing, half]
      rw [evaluated, nothing]
      exact (congrArg (fun t : State => t.withdrawOther side none) after).trans (u.withdrawOther_none side)
    · intro action since timed
      have asked : need.action = action := by cases need <;> rfl
      have mark : s.pendingSince side (some need) = some since := s.pendingSince_some side need
      have kept (y : SideControl) : (s.setSideControl side y).withdrawOther side (some need) =
          unlessAction (s.setSideControl side y) action := by
        rw [withdrawOther_some, asked]
        rfl
      have safe : s.sideAfter side (.safety need) = timed := by rw [sideAfter_safety, half, mark]
      have due := persisted_level mark
      refine ⟨fun safety => ?_, fun level passed => ?_, fun level early => ?_⟩
      · rw [evaluated, safety]
        show ((s.setSideControl side (s.sideAfter side (.safety need))).withdrawOther side (some need)).join c
          need.action .safety = _
        rw [kept, safe, asked]
      · have persisted : s.persisted side (.level need) = true := by rw [due]; exact decide_eq_true passed
        rw [evaluated, level]
        simp only [State.sideRequest, persisted, if_true, Option.elim_some, SideResult.need]
        rw [kept, sideAfter_persisted persisted, safe, asked]
      · have waits : s.persisted side (.level need) = false := by rw [due]; exact decide_eq_false (by omega)
        rw [evaluated, level]
        simp only [State.sideRequest, waits, if_false, Option.elim_none, SideResult.need, Bool.false_eq_true]
        rw [kept, sideAfter_pending mark waits, half]
  case busy =>
    rw [evaluateLift_of_filling (s.liftActs_iff.mpr ⟨fitted, reconciled⟩) state step]
    exact evaluateFilling_of_busy bag full idle waiting
  case held =>
    intro free
    have acts := s.liftActs_iff.mpr ⟨fitted, reconciled⟩
    have eval : s.evaluateLift = if s.isRunning then s.releaseVenting else s :=
      (evaluateLift_of_venting acts state step).trans (evaluateVenting_of_held held)
    refine ⟨fun stopped => ?_, fun running goesOn => ?_, fun running bag blind => ?_⟩
    · rw [eval, if_neg (by simpa [State.isRunning] using stopped)]
    · have released : (s.setLift free).evaluateLift = (s.setLift free).ventingRows := by
        rw [evaluateLift_of_venting (s := s.setLift free) acts state step, evaluateVenting_of_free rfl]
      rw [eval, if_pos (by simpa [State.isRunning] using running), released]
      refine if_neg ?_
      rintro ⟨bag, blind⟩
      exact goesOn.elim (fun valid => valid bag) fun notDone => by simp [notDone] at blind
    · rw [eval, if_pos (by simpa [State.isRunning] using running)]
      exact if_pos ⟨bag, blind⟩
  case returned =>
    intro blind done
    have found : (s.liftActs = true ∧ k = .liftExhaust ∧ s.bag = none ∧ s.lift.state = .lowering ∧
        s.lift.step = .venting) ↔ blind := by
      rw [s.liftActs_iff, and_assoc, State.bag]
    refine ⟨fun other => if_neg fun h => other (found.mp h), fun h held => ?_, fun h free => ?_⟩
    · exact (if_pos (found.mpr h)).trans (if_pos held)
    · exact (if_pos (found.mpr h)).trans (if_neg (by simpa using free))

end Sys2Proof.Machine
end

section
/-! What the end of a transaction leaves standing while the unit is not RUNNING, and the departure from RUNNING in its
parts (O52). -/

namespace Sys2Proof.Machine

open State

/-! ### Evaluations while not RUNNING -/

/-- `P` is kept by the updates that the evaluation of a side or a tyre makes while the unit is not RUNNING: no demand
joins, and no record changes its last outcome. -/
structure StoppedClosed (P : State → Prop) : Prop where
  stopped : ∀ {s : State}, P s → s.isRunning = false
  /-- an event is taken (R164) -/
  logEvent : ∀ {s : State} (k sev c v), P s → P (s.logEvent k sev c v)
  /-- the condition set is replaced and the lamp derived (R167, R168) -/
  setConditions : ∀ {s : State} (conds), P s → P (s.setConditions conds)
  /-- a circuit record is replaced, its last outcome kept -/
  setCircuit : ∀ {s : State} (c) (r : CircuitRecord), r.lastOutcome = (s.circuit c).lastOutcome → P s →
    P (s.setCircuit c r)
  /-- the items of a tyre are replaced -/
  setTyre : ∀ {s : State} (t x), P s → P (s.setTyre t x)
  /-- the flags and the timer of a side are replaced -/
  setSideControl : ∀ {s : State} (side x), P s → P (s.setSideControl side x)
  /-- a demand leaves the list (R62) -/
  removeDemand : ∀ {s : State} (c), P s → P (s.removeDemand c)

/-- `P` is kept by the updates above and by those of the evaluation of LIFT. -/
structure StoppedLiftClosed (P : State → Prop) : Prop extends StoppedClosed P where
  /-- the items of the Lift Axle Controller are replaced -/
  setLift : ∀ {s : State} (x), P s → P (s.setLift x)
  /-- a switch is requested (R16) -/
  requestSwitch : ∀ {s : State} (pos), P s → P (s.requestSwitch pos)

namespace StoppedClosed

variable {P : State → Prop} {s : State}

theorem join_closed (h : StoppedClosed P) (c a cls) (hs : P s) : P (s.join c a cls) := by
  rwa [join_of_stopped (h.stopped hs)]

theorem withdraw_closed (h : StoppedClosed P) (c) (hs : P s) : P (s.withdraw c) := by
  unfold State.withdraw
  split
  · exact h.setCircuit _ _ rfl (h.removeDemand _ hs)
  · exact hs

theorem evaluateSide_closed (h : StoppedClosed P) (side) (hs : P s) : P (s.evaluateSide side) := by
  unfold State.evaluateSide
  dsimp only
  split
  · have evaluated : P ((s.setSideControl side (s.sideAfter side (s.sideResult side))).withdrawOther side
        (s.sideResult side).need) := by
      unfold State.withdrawOther
      repeat' split
      all_goals first
        | exact h.setSideControl _ _ hs
        | exact withdraw_closed h _ (h.setSideControl _ _ hs)
    split
    · exact join_closed h _ _ _ evaluated
    · exact evaluated
  · exact hs

theorem evaluateTyre_closed (h : StoppedClosed P) (t) (hs : P s) : P (s.evaluateTyre t) := by
  unfold State.evaluateTyre
  repeat' split
  all_goals first
    | exact hs
    | exact join_closed h _ _ _ hs
    | exact withdraw_closed h _ hs

theorem judgeInterval_closed (h : StoppedClosed P) (t) (hs : P s) : P (s.judgeInterval t) := by
  unfold State.judgeInterval
  split
  · exact evaluateTyre_closed h _ (h.setCircuit _ _ rfl hs)
  · exact hs

theorem judgeLow_closed (h : StoppedClosed P) (t) (hs : P s) : P (s.judgeLow t) := by
  unfold State.judgeLow
  dsimp only
  repeat' split
  all_goals first
    | exact hs
    | exact h.setConditions _ (h.setTyre _ _ hs)
    | exact h.logEvent _ _ _ _ (h.setConditions _ (h.setTyre _ _ hs))

theorem testIsolation_closed (h : StoppedClosed P) (t rate) (hs : P s) : P (s.testIsolation t rate) := by
  have isolated (cause value) : P (s.isolate t cause value) :=
    h.logEvent _ _ _ _ (h.setConditions _ (h.setTyre _ _ (h.setCircuit _ _ rfl (h.removeDemand _ hs))))
  unfold State.testIsolation
  repeat' split
  all_goals first
    | exact hs
    | exact isolated _ _

/-- A tyre handed back by an ABORTED transaction computes no leak rate (R129). -/
theorem tyreReturned_closed (h : StoppedClosed P) (t k read) (hs : P s) : P (s.tyreReturned t k .aborted read) := by
  unfold State.tyreReturned
  extract_lets probed rate s1 s2 s3 s4 s5
  have unmeasured : probed = none := if_neg (by simp)
  have unrated : rate = none := by simp only [rate, unmeasured, Option.bind_none]
  have k2 : P s2 := by
    simp only [s2, s1, unmeasured, unrated]
    exact hs
  have k3 : P s3 := by
    show P (if read.isSome then s2.judgeLow t else s2)
    split
    · exact judgeLow_closed h t k2
    · exact k2
  have k5 : P s5 := judgeInterval_closed h t (testIsolation_closed h t _ k3)
  split
  · exact evaluateTyre_closed h t k5
  · exact k5

end StoppedClosed

namespace StoppedLiftClosed

variable {P : State → Prop} {s : State}

theorem setLiftState_closed (h : StoppedLiftClosed P) (st step) (hs : P s) : P (s.setLiftState st step) := by
  unfold State.setLiftState
  dsimp only
  split
  · exact h.logEvent _ _ _ _ (h.setLift _ hs)
  · exact h.setLift _ hs

theorem startConnecting_closed (h : StoppedLiftClosed P) (hs : P s) : P s.startConnecting :=
  h.requestSwitch _ (h.setLift _ (h.setLift _ (h.toStoppedClosed.withdraw_closed _ hs)))

/-- A lowering held in VENTING stays there while the unit is not RUNNING (R145). -/
theorem evaluateVenting_closed (h : StoppedLiftClosed P) (hs : P s) : P s.evaluateVenting := by
  unfold State.evaluateVenting
  rw [h.stopped hs]
  split
  · exact hs
  · unfold State.ventingRows
    repeat' split
    all_goals first
      | exact hs
      | exact h.toStoppedClosed.join_closed _ _ _ hs
      | exact startConnecting_closed h hs

theorem lower_closed (h : StoppedLiftClosed P) (cls) (hs : P s) : P (s.lower cls) := by
  have begun : P (s.beginLowering cls) := evaluateVenting_closed h (h.setLift _ (setLiftState_closed h _ _ hs))
  unfold State.lower
  dsimp only
  repeat' split
  all_goals first
    | exact hs
    | exact begun
    | exact evaluateVenting_closed h (h.setLift _ hs)
    | exact h.toStoppedClosed.withdraw_closed _ (h.setLift _ hs)

theorem evaluateLift_closed (h : StoppedLiftClosed P) (hs : P s) : P s.evaluateLift := by
  have withdrawn := h.toStoppedClosed.withdraw_closed liftCircuit hs
  have filling : P s.evaluateFilling := by
    unfold State.evaluateFilling
    dsimp only
    repeat' split
    all_goals first
      | exact hs
      | exact lower_closed h _ hs
      | exact h.toStoppedClosed.join_closed _ _ _ hs
      | exact h.setLift _ (setLiftState_closed h _ _ withdrawn)
  have up : P s.evaluateUp := by
    unfold State.evaluateUp
    repeat' split
    all_goals first
      | exact hs
      | exact lower_closed h _ hs
      | exact h.toStoppedClosed.join_closed _ _ _ (h.setLift _ hs)
      | exact h.toStoppedClosed.join_closed _ _ _ hs
      | exact h.toStoppedClosed.withdraw_closed _ (h.setLift _ hs)
  unfold State.evaluateLift
  repeat' split
  all_goals first
    | exact hs
    | exact filling
    | exact up
    | exact evaluateVenting_closed h hs
    | exact withdrawn

theorem liftReturned_closed (h : StoppedLiftClosed P) (k) (hs : P s) : P (s.liftReturned k) := by
  unfold State.liftReturned
  dsimp only
  repeat' split
  all_goals first
    | exact evaluateLift_closed h hs
    | exact h.setLift _ hs
    | exact startConnecting_closed h (h.setLift _ hs)

end StoppedLiftClosed

/-! ### The end of a transaction while not RUNNING -/

/-- Valves closed in turn change the outputs alone (R11). -/
theorem State.closeAll_setDriver (s : State) (vs : List ValveId) :
    ∃ valves, s.closeAll vs = s.setDriver { s.driver with valves := valves } := by
  induction vs generalizing s with
  | nil => exact ⟨s.driver.valves, rfl⟩
  | cons v rest ih =>
    have first : ∃ valves, s.closeValve v = s.setDriver { s.driver with valves := valves } := by
      unfold State.closeValve
      split
      · exact ⟨s.driver.valves.set v.val { s.valve v with isOpen := false, check := none }, rfl⟩
      · exact ⟨s.driver.valves, rfl⟩
    obtain ⟨x, closed⟩ := first
    obtain ⟨y, others⟩ := ih (s.closeValve v)
    exact ⟨y, by rw [State.closeAll, List.foldl_cons]; exact others.trans (by rw [closed]; rfl)⟩

/-- A transaction ended ABORTED up to the hand-back of its circuit: valves closed, resources free, the outcome written,
the slot free (R97, R101). -/
def State.cut (s : State) (t : Transaction) : State :=
  let freed := (s.closeAll (phaseValves t.circuit t.kind t.phase)).freeResources t.circuit t.holdsSupply t.holdsGallery
  let written := freed.setCircuit t.circuit
    (recordAfter (freed.circuit t.circuit) t .aborted .idle (freed.now + freed.params.p45))
  written.setEngine (written.engine.filter fun u => u.circuit ≠ t.circuit)

/-- What the cut leaves standing: control state, lift, isolation valve, and every last outcome but the circuit's own. -/
theorem State.cut_frame (s : State) (t : Transaction) : (s.cut t).supervisor = s.supervisor ∧
    (s.cut t).lift = s.lift ∧ (s.cut t).driver.isolation = s.driver.isolation ∧
    ((s.cut t).circuit t.circuit).lastOutcome = .aborted ∧
    ∀ c, c ≠ t.circuit → (s.cut t).circuit c = s.circuit c := by
  obtain ⟨valves, closed⟩ := s.closeAll_setDriver (phaseValves t.circuit t.kind t.phase)
  unfold State.cut
  rw [closed]
  exact ⟨rfl, rfl, rfl, congrArg CircuitRecord.lastOutcome (setCircuit_circuit ..), fun c ne =>
    setCircuit_circuit_of_ne _ _ ne⟩

/-- While not RUNNING the release of an ended transaction grants nothing: its circuit is handed back at once (R97). -/
theorem State.endTransaction_aborted {s : State} (stopped : s.isRunning = false) (t : Transaction) :
    s.endTransaction t .aborted false = (s.cut t).handBack t .aborted .idle := by
  have still : (s.cut t).isRunning = false := by
    unfold State.isRunning at *
    rwa [(s.cut_frame t).1]
  have unserved : (s.cut t).pass = s.cut t := if_neg (by simp [still])
  have ended : s.endTransaction t .aborted false =
      (if (s.closeAll (phaseValves t.circuit t.kind t.phase)).holdsResource t.circuit t.holdsSupply t.holdsGallery
        then (s.cut t).pass else s.cut t).handBack t .aborted .idle := rfl
  rw [ended, unserved, ite_self]

theorem State.handBack_aborted (s : State) (t : Transaction) :
    (∃ side, s.handBack t .aborted .idle = s.evaluateSide side) ∨
    (∃ tyre, s.handBack t .aborted .idle = s.tyreReturned tyre t.kind .aborted t.readValue) ∨
    s.handBack t .aborted .idle = s.liftReturned t.kind := by
  unfold State.handBack
  split
  · exact .inl ⟨_, rfl⟩
  · exact .inr (.inl ⟨_, rfl⟩)
  · exact .inr (.inr rfl)

/-- The unit is not RUNNING, and a circuit's last outcome stands. -/
def State.StoppedAfter (c : CircuitId) (o : TransactionOutcome) (s : State) : Prop :=
  s.isRunning = false ∧ (s.circuit c).lastOutcome = o

/-- The unit is not RUNNING, and a lowering is held in VENTING with the isolation valve as it is (R145). -/
def State.HeldVenting (x : IsolationValve) (s : State) : Prop :=
  s.isRunning = false ∧ s.lift.state = .lowering ∧ s.lift.step = .venting ∧ s.lift.ventHeld = true ∧
    s.driver.isolation = x

theorem State.startPulse_circuits (s : State) (pos : Position) : (s.startPulse pos).circuits = s.circuits := by
  by_cases read : s.position = some pos
  · rw [startPulse_of_read read]
    rfl
  · rw [startPulse_of_ne read]
    rfl

theorem State.beginSwitch_circuits (s : State) (pos : Position) : (s.beginSwitch pos).circuits = s.circuits := by
  unfold State.beginSwitch
  split
  · rfl
  · exact s.startPulse_circuits pos

/-- A switch changes no circuit record (R16). -/
theorem State.requestSwitch_circuits (s : State) (pos : Position) : (s.requestSwitch pos).circuits = s.circuits := by
  have cut : ((s.abandonCheck isolationValve).beginSwitch pos).circuits = s.circuits := beginSwitch_circuits _ pos
  unfold State.requestSwitch
  repeat' split
  all_goals first
    | exact s.beginSwitch_circuits pos
    | exact cut
    | rfl

/-- A property that reads the control state and the last outcomes alone is kept by every such evaluation. -/
theorem stoppedAfter_closed (c : CircuitId) (o : TransactionOutcome) : StoppedLiftClosed (State.StoppedAfter c o) := by
  have same {s t : State} (h : s.StoppedAfter c o) (sup : t.supervisor = s.supervisor)
      (circuits : t.circuits = s.circuits) : t.StoppedAfter c o := by
    unfold State.StoppedAfter State.isRunning State.circuit
    rw [sup, circuits]
    exact h
  exact {
    stopped := fun h => h.1
    logEvent := fun k sev x v h => same h (logEvent_supervisor ..) (logEvent_circuits ..)
    setConditions := fun x h => same h (setConditions_supervisor ..) (setConditions_circuits ..)
    setCircuit := fun {s} d r kept h => by
      obtain ⟨stopped, last⟩ := h
      refine ⟨stopped, ?_⟩
      by_cases e : c = d
      · subst e
        rw [setCircuit_circuit, kept, last]
      · rw [setCircuit_circuit_of_ne _ _ e, last]
    setTyre := fun _ _ h => same h rfl rfl
    setSideControl := fun _ _ h => same h rfl rfl
    removeDemand := fun _ h => same h rfl rfl
    setLift := fun _ h => same h rfl rfl
    requestSwitch := fun {s} pos h =>
      same h ((supervisor_airClosed s.supervisor).requestSwitch_closed pos rfl) (s.requestSwitch_circuits pos) }

theorem heldVenting_closed (x : IsolationValve) : StoppedClosed (State.HeldVenting x) := by
  have same {s t : State} (h : s.HeldVenting x) (sup : t.supervisor = s.supervisor) (lift : t.lift = s.lift)
      (isolation : t.driver.isolation = s.driver.isolation) : t.HeldVenting x := by
    unfold State.HeldVenting State.isRunning
    rw [sup, lift, isolation]
    exact h
  exact {
    stopped := fun h => h.1
    logEvent := fun k sev c v h => same h (logEvent_supervisor ..) (logEvent_lift ..) (by rw [logEvent_driver])
    setConditions := fun c h =>
      same h (setConditions_supervisor ..) (setConditions_lift ..) (setConditions_driver_isolation ..)
    setCircuit := fun _ _ _ h => same h rfl rfl rfl
    setTyre := fun _ _ h => same h rfl rfl rfl
    setSideControl := fun _ _ h => same h rfl rfl rfl
    removeDemand := fun _ h => same h rfl rfl rfl }

theorem State.cut_isRunning (s : State) (t : Transaction) : (s.cut t).isRunning = s.isRunning := by
  unfold State.isRunning
  rw [(s.cut_frame t).1]

/-- A transaction ended ABORTED leaves that outcome on its circuit, and on every circuit that has it (R97, R101). -/
theorem State.endTransaction_lastOutcome {s : State} (stopped : s.isRunning = false) (t : Transaction) {c : CircuitId}
    (h : c = t.circuit ∨ (s.circuit c).lastOutcome = .aborted) :
    (s.endTransaction t .aborted false).StoppedAfter c .aborted := by
  obtain ⟨_, _, _, own, others⟩ := s.cut_frame t
  have cut : (s.cut t).StoppedAfter c .aborted := by
    refine ⟨(s.cut_isRunning t).trans stopped, ?_⟩
    by_cases e : c = t.circuit
    · rw [e, own]
    · rw [others c e]
      exact h.resolve_left e
  have closed := stoppedAfter_closed c .aborted
  rw [endTransaction_aborted stopped]
  obtain ⟨side, e⟩ | ⟨tyre, e⟩ | e := (s.cut t).handBack_aborted t
  · rw [e]; exact closed.toStoppedClosed.evaluateSide_closed _ cut
  · rw [e]; exact closed.toStoppedClosed.tyreReturned_closed _ _ _ cut
  · rw [e]; exact closed.liftReturned_closed _ cut

/-- LIFT handed back to a held lowering leaves it held, with no switch requested (R145, log entry 65). -/
theorem State.HeldVenting.liftReturned {s : State} {x : IsolationValve} (h : s.HeldVenting x) (k : TransactionKind) :
    (s.liftReturned k).HeldVenting x := by
  obtain ⟨stopped, state, step, held, isolation⟩ := h
  have stays : s.evaluateLift = s := by
    by_cases acts : s.liftActs = true
    · rw [evaluateLift_of_venting acts state step, evaluateVenting_of_held held, stopped]
      rfl
    · exact if_neg acts
  unfold State.liftReturned
  dsimp only
  split
  · rw [if_pos (by exact held)]
    exact ⟨stopped, state, step, held, isolation⟩
  · rw [stays]
    exact ⟨stopped, state, step, held, isolation⟩

theorem State.HeldVenting.endTransaction {s : State} {x : IsolationValve} (h : s.HeldVenting x) (t : Transaction) :
    (s.endTransaction t .aborted false).HeldVenting x := by
  obtain ⟨_, lift, isolation, _, _⟩ := s.cut_frame t
  have cut : (s.cut t).HeldVenting x := by
    unfold State.HeldVenting
    rw [cut_isRunning, lift, isolation]
    exact h
  rw [endTransaction_aborted h.1]
  obtain ⟨side, e⟩ | ⟨tyre, e⟩ | e := (s.cut t).handBack_aborted t
  · rw [e]; exact (heldVenting_closed x).evaluateSide_closed _ cut
  · rw [e]; exact (heldVenting_closed x).tyreReturned_closed _ _ _ cut
  · rw [e]; exact cut.liftReturned _

/-- With transactions ended ABORTED in turn each leaves that outcome on its circuit. -/
theorem State.abort_lastOutcome {s : State} (stopped : s.isRunning = false) (l : List Transaction) {c : CircuitId}
    (h : (∃ t ∈ l, c = t.circuit) ∨ (s.circuit c).lastOutcome = .aborted) :
    ((l.foldl (fun s t => s.endTransaction t .aborted false) s).circuit c).lastOutcome = .aborted := by
  induction l generalizing s with
  | nil => exact h.resolve_left fun ⟨_, mem, _⟩ => nomatch mem
  | cons t rest ih =>
    have still := (AirClosed.endTransaction_closed (isRunning_airClosed false) t .aborted false stopped)
    refine ih still ?_
    by_cases later : ∃ u ∈ rest, c = u.circuit
    · exact .inl later
    · refine .inr (endTransaction_lastOutcome stopped t (h.imp_left ?_)).2
      rintro ⟨u, mem, e⟩
      obtain rfl | mem := List.mem_cons.mp mem
      · exact e
      · exact absurd ⟨u, mem, e⟩ later

/-! ### The departure in its parts -/

/-- A record on leaving RUNNING: WAITING and HOLDOFF become IDLE with no holdoff (R77). -/
def rested (r : CircuitRecord) : CircuitRecord :=
  if r.state = .waiting ∨ r.state = .holdoff then { r with state := .idle, holdoffEnd := none } else r

theorem rested_rested (r : CircuitRecord) : rested (rested r) = rested r := by
  unfold rested
  split_ifs <;> simp_all

theorem rested_lastOutcome (r : CircuitRecord) : (rested r).lastOutcome = r.lastOutcome := by
  unfold rested
  split <;> rfl

theorem State.idleCircuit_circuit (s : State) (c d : CircuitId) :
    (s.idleCircuit c).circuit d = if d = c then rested (s.circuit d) else s.circuit d := by
  unfold State.idleCircuit rested
  dsimp only
  by_cases e : d = c
  · subst e
    rw [if_pos rfl]
    split
    · exact setCircuit_circuit ..
    · rfl
  · rw [if_neg e]
    split
    · exact setCircuit_circuit_of_ne _ _ e
    · rfl

theorem State.foldl_idleCircuit_circuit (L : List CircuitId) (s : State) (c : CircuitId) :
    (L.foldl State.idleCircuit s).circuit c = if c ∈ L then rested (s.circuit c) else s.circuit c := by
  induction L generalizing s with
  | nil => rfl
  | cons d rest ih =>
    rw [List.foldl_cons, ih, idleCircuit_circuit]
    by_cases e : c = d
    · simp [e, rested_rested]
    · simp [e]

/-- Emptying the list changes demands and circuit records alone, each record to the one it rests with (R77). -/
theorem State.emptyDemands_eq (s : State) : ∃ cs, s.emptyDemands = (s.setDemands []).setCircuits cs ∧
    ∀ c, s.emptyDemands.circuit c = rested (s.circuit c) := by
  have records (L : List CircuitId) (u : State) : ∃ cs, L.foldl State.idleCircuit u = u.setCircuits cs := by
    induction L generalizing u with
    | nil => exact ⟨u.circuits, rfl⟩
    | cons d rest ih =>
      have first : ∃ cs, u.idleCircuit d = u.setCircuits cs := by
        unfold State.idleCircuit
        dsimp only
        split
        · exact ⟨_, rfl⟩
        · exact ⟨u.circuits, rfl⟩
      obtain ⟨cs, e⟩ := first
      obtain ⟨ds, e'⟩ := ih (u.setCircuits cs)
      exact ⟨ds, by rw [List.foldl_cons, e, e']; rfl⟩
  obtain ⟨cs, e⟩ := records allCircuits (s.setDemands [])
  refine ⟨cs, e, fun c => ?_⟩
  exact (foldl_idleCircuit_circuit allCircuits (s.setDemands []) c).trans (if_pos (mem_allCircuits c))

/-- The dwell ends while the unit is not RUNNING (R121). -/
theorem State.testDwell_of_stopped {s : State} (stopped : s.isRunning = false) :
    s.testDwell = s.setLift { s.lift with dwellSince := none } := by
  have ends : s.dwellHolds = false := by simp [State.dwellHolds, stopped]
  unfold State.testDwell
  rw [ends]
  rfl

/-- The state in which a departure empties the Demand List: a lowering held, the control state moved, and every
transaction ended ABORTED in the order of the grants (R145, R101). -/
def State.departed (s : State) (new : ControlState) : State :=
  s.engine.foldl (fun u t => u.endTransaction t .aborted false)
    ((if s.lift.state = .lowering ∧ s.lift.step = .venting then s.setLift { s.lift with ventHeld := true } else
      s).setSupervisor { s.supervisor with control := new })

theorem State.departed_eq (s : State) (new : ControlState) :
    (s.setControl new).holdVenting.abortAll = s.departed new := by
  unfold State.holdVenting State.abortAll State.departed
  rw [show (s.setControl new).lift = s.lift from rfl]
  split <;> rfl

theorem State.departed_isRunning (s : State) {new : ControlState} (h : new ≠ .running) :
    (s.departed new).isRunning = false := by
  have stopped : (s.setControl new).isRunning = false := decide_eq_false h
  rw [← departed_eq]
  exact AirClosed.abortAll_closed (isRunning_airClosed false) (AirClosed.holdVenting_closed (isRunning_airClosed false)
    stopped)

/-- What comes after the transactions changes demands, circuit records, outputs and the dwell alone (R145). -/
theorem State.rest_eq {s : State} (stopped : s.isRunning = false) : ∃ cs valves,
    (s.emptyDemands.closeAll switchedValves).testDwell = (((s.setDemands []).setCircuits cs).setDriver
      { s.driver with valves := valves }).setLift { s.lift with dwellSince := none } ∧
    ∀ c, (s.emptyDemands.closeAll switchedValves).testDwell.circuit c = rested (s.circuit c) := by
  obtain ⟨cs, emptied, records⟩ := s.emptyDemands_eq
  obtain ⟨valves, closed⟩ := s.emptyDemands.closeAll_setDriver switchedValves
  have still : (s.emptyDemands.closeAll switchedValves).isRunning = false :=
    (isRunning_airClosed false).closeAll_closed _ ((isRunning_airClosed false).emptyDemands_closed stopped)
  rw [testDwell_of_stopped still, closed]
  generalize s.emptyDemands = e at emptied records
  exact ⟨cs, valves, by rw [emptied]; rfl, records⟩

theorem State.leaveRunning_eq (s : State) (new : ControlState) :
    s.leaveRunning new = ((s.departed new).emptyDemands.closeAll switchedValves).testDwell := by
  rw [← departed_eq]
  rfl

end Sys2Proof.Machine
end

section
/-! CONTROL RUN, HOLD and RESTART, and the entries into RUNNING and departures from it (O52). -/

namespace Sys2Proof.Machine

open State

/-! ### Telegrams -/

/-- The characters of a telegram read back as that telegram (R152, R162). -/
theorem validTelegram_frame (kind tag : Byte) {body : List Byte} (short : body.length ≤ 48) :
    validTelegram (frame kind tag body) = some ⟨kind, tag, body⟩ := by
  have len : (byteOf body.length).toNat = body.length := by
    rw [byteOf_toNat]
    omega
  have check (w : Word) : (bytes2 w.toNat).length = 2 := rfl
  simp [validTelegram, frame, len, short, check]

/-- The reception of a request's telegram is its handling (R152, R153). -/
theorem exec_telegramReceived_frame (k : Kind) (tag : Byte) {body : List Byte} (short : body.length ≤ 48) (s : State) :
    exec (.telegramReceived (frame k.code tag body)) s = request k tag body s := by
  show finish (s.receive _) = finish _
  unfold State.receive
  rw [validTelegram_frame k.code tag short]

/-! ### The answers to CONTROL -/

section
variable {s : State}

theorem State.reloadRunning_eq_false (h : ∀ run, s.startUp.loader = some run → run.reload = false) :
    s.reloadRunning = false := by
  unfold State.reloadRunning
  cases loading : s.startUp.loader with
  | none => rfl
  | some run => exact h run loading

theorem State.answerRun_of_reload (loading : s.reloadRunning = true) : s.answerRun = (.refused .storeBusy, s) :=
  if_pos loading

theorem State.answerRun_of_running (still : s.reloadRunning = false) (control : s.supervisor.control = .running) :
    s.answerRun = (s.setCab false).controlDone := by
  rw [State.answerRun, if_neg (by simp [still]), control]

theorem State.answerRun_of_suspended (still : s.reloadRunning = false) (control : s.supervisor.control = .suspended) :
    s.answerRun = if s.supervisor.reasonSupply then (s.setCab false).controlDone
      else (s.setCab false).enterRunning.controlDone := by
  rw [State.answerRun, if_neg (by simp [still]), control]

theorem State.answerRun_of_unconfigured (still : s.reloadRunning = false)
    (control : s.supervisor.control = .unconfigured) : s.answerRun =
      if consistent s.params then (s.setCab false).beginControl.controlDone else (.refused .badConfig, s) := by
  rw [State.answerRun, if_neg (by simp [still]), control]

theorem State.beginControl_setCab (s : State) : (s.setCab false).beginControl =
    if s.supervisor.reasonSupply = true then (s.setCab false).setControl .suspended
    else (s.setCab false).enterRunning := by
  unfold State.beginControl
  simp [State.setCab]

/-- HOLD sets reason CAB, and takes a RUNNING unit to SUSPENDED (R147). -/
theorem State.answerHold_eq (s : State) : s.answerHold =
    if s.supervisor.control = .running then ((s.setCab true).leaveRunning .suspended).controlDone
    else (s.setCab true).controlDone := by
  unfold State.answerHold State.isRunning
  simp only [decide_eq_true_eq]

theorem State.controlData_eq (s : State) : s.controlData = [byteOf s.supervisor.control.code,
    byteOf ((if s.supervisor.reasonCab then 1 else 0) + (if s.supervisor.reasonSupply then 2 else 0))] := rfl

end

section
variable {s : State} {b : Byte} {a : ControlAction}

theorem readBody_control (named : controlActionOf b = some a) : readBody isParam .control [b] = .ok (.control a) := by
  show codeOr ((controlActionOf b).map .control) = _
  rw [named]
  rfl

/-- A CONTROL request taken carries its effect and the control reply data as they stand after it (R147). -/
theorem exec_control_done {t : State} (h : s.Serving) (named : controlActionOf b = some a) (tag : Byte)
    (answered : s.heard.answerControl a = t.controlDone) (stays : t.link.restartPending = false) :
    request .control tag [b] s = t.completed .control tag (.done t.controlData) :=
  request_served h tag (readBody_control named) answered (fun _ => nofun) stays

/-- So of an effect that leaves no hand-off. -/
theorem exec_control_quiet {t : State} (h : s.Serving) (named : controlActionOf b = some a) (tag : Byte)
    (answered : s.heard.answerControl a = t.controlDone) (stays : t.link.restartPending = false)
    (quiet : t.deferred = []) : request .control tag [b] s = .next (t.replied .control tag (.done t.controlData)) :=
  (exec_control_done h named tag answered stays).trans (completed_of_nil quiet ..)

theorem exec_control_refused {reason : Reason} (h : s.Serving) (named : controlActionOf b = some a) (tag : Byte)
    (answered : s.heard.answerControl a = (.refused reason, s.heard)) :
    request .control tag [b] s = s.refusedWith .control tag reason :=
  request_refused_by_owner h tag (readBody_control named) answered

end

theorem State.leaveRunning_restartPending {s : State} (c : ControlState) (h : s.link.restartPending = false) :
    (s.leaveRunning c).link.restartPending = false := noRestart_closed.toAirClosed.leaveRunning_from c h

/-- What follows a completed request leaves the Supervisor as its act left it. -/
theorem completed_supervisor (t : State) (k : Kind) (tag : Byte) (a : Answer) :
    ∃ u, t.completed k tag a = .next u ∧ u.supervisor = t.supervisor :=
  ⟨_, rfl, (State.settle_supervisor _).trans (t.settle_supervisor)⟩

/-- And with the unit not RUNNING it leaves the air at rest. -/
theorem completed_atRest {t : State} (stopped : t.isRunning = false) (rest : t.AirAtRest) (k : Kind) (tag : Byte)
    (a : Answer) : ∃ u, t.completed k tag a = .next u ∧ u.supervisor = t.supervisor ∧ u.AirAtRest := by
  obtain ⟨u, done, kept⟩ := completed_supervisor t k tag a
  refine ⟨u, done, kept, ?_⟩
  have quiet : t.settle.QuietUnlessRunning := quiet_airClosed.settle_closed fun _ => rest
  have quiet' : u.QuietUnlessRunning := by
    cases done
    exact quiet_airClosed.settle_closed (quiet.of_same rfl rfl (fun _ => rfl) rfl)
  refine quiet' ?_
  unfold State.isRunning at *
  rwa [kept]

/-- A CONTROL RESTART heard: the restart is pending (R148). -/
def State.restarting (s : State) : State := s.heard.setLink { s.heard.link with restartPending := true }

/-- RESTART becomes pending as its reply takes its place in the Transmit Queue, told apart (R147, R148). -/
theorem exec_controlRestart {s : State} (h : s.Serving) (tag : Byte) : exec (.controlRestart tag) s =
    .next (s.setLink { s.link with
      lastValid := some s.now, seen := true, restartPending := true, secured := false
      queue := s.link.queue ++ [⟨.restartReply, frame 0xB3#8 tag (0#8 :: 0#8 :: s.controlData)⟩] }) := by
  obtain ⟨up, _, _, idle⟩ := h.1
  have answered : s.heard.answer (.control .restart) = (.done s.controlData, s.restarting) := rfl
  have done : exec (.controlRestart tag) s =
      .next ((s.restarting.placeReply (replyTo 0x33#8 tag (.done s.controlData) .restartReply)).settle) := by
    refine (request_of_ready h.1 .control tag [2#8]).trans ?_
    rw [judgeAndCarryOut_of_read (fun starting => absurd starting h.2)
      (readBody_control (b := 2#8) (a := .restart) rfl), answered]
    dsimp only
    rw [settle_of_nil (s := s.restarting) idle]
    rfl
  rw [done, settle_of_nil (by exact idle)]
  simp only [State.restarting, State.heard, State.placeReply, ← up]
  rfl

/-- Settles O52: the table of R147 by the state the request meets, and the entry and the departure by their parts. -/
theorem controlRequests : Obligations.ControlRequests := by
  refine ⟨fun tag s ready starting c mem => ?starting, fun tag code s h high => ?unnamed,
    fun tag s run h loading reload => ?loading, fun tag s h notLoading => ?run, fun tag s h => ?hold,
    fun tag s h => exec_controlRestart h tag, fun s => rfl, fun s => ?enter, fun s => ?evaluators,
    fun s new ne => ?leave⟩
  case starting =>
    have refused (body : List Byte) := request_refused_while_starting ready starting (k := .control) rfl rfl tag body
    simp only [List.mem_cons, List.not_mem_nil, or_false] at mem
    obtain rfl | rfl | rfl := mem <;> exact refused _
  case unnamed =>
    have unknown : controlActionOf code = none := by
      unfold controlActionOf
      split
      all_goals first
        | omega
        | rfl
    refine (exec_telegramReceived_frame .control tag (by simp) s).trans (request_refused_by_reading h tag ?_)
    show codeOr ((controlActionOf code).map .control) = _
    rw [unknown]
    rfl
  case loading =>
    refine exec_control_refused (a := .run) h rfl tag (answerRun_of_reload (s := s.heard) ?_)
    show s.reloadRunning = true
    rw [State.reloadRunning, loading]
    exact reload
  case run =>
    intro cleared
    obtain ⟨quiet, stays⟩ := h.1.heard
    have still : s.heard.reloadRunning = false := reloadRunning_eq_false (s := s.heard) notLoading
    have entered (answered : s.heard.answerControl .run = cleared.enterRunning.controlDone) :
        exec (.controlRun tag) s =
          cleared.enterRunning.completed .control tag (.done cleared.enterRunning.controlData) :=
      exec_control_done h rfl tag answered (noRestart_closed.toAirClosed.enterRunning_from stays)
    refine ⟨fun control => ?_, fun control supply => ?_, fun control bad => ?_, fun control good supply => ?_,
      fun supply control => ?_⟩
    · exact exec_control_quiet (a := .run) h rfl tag (answerRun_of_running still control) stays quiet
    · exact exec_control_quiet (a := .run) h rfl tag ((answerRun_of_suspended still control).trans (if_pos supply))
        stays quiet
    · have inconsistent : ¬consistent s.heard.params = true := fun good => Bool.false_ne_true (bad.symm.trans good)
      exact exec_control_refused (a := .run) h rfl tag ((answerRun_of_unconfigured still control).trans
        (if_neg inconsistent))
    · intro held
      refine exec_control_quiet (a := .run) h rfl tag ((answerRun_of_unconfigured still control).trans ?_) stays quiet
      refine (if_pos (by exact good)).trans (congrArg State.controlDone ?_)
      exact (s.heard.beginControl_setCab).trans (if_pos supply)
    · have unheld : ¬s.heard.supervisor.reasonSupply = true := fun k =>
        Bool.false_ne_true (supply.symm.trans k)
      have answered : s.heard.answerControl .run = cleared.enterRunning.controlDone := by
        obtain suspended | ⟨unconfigured, good⟩ := control
        · exact (answerRun_of_suspended still suspended).trans (if_neg unheld)
        · refine (answerRun_of_unconfigured still unconfigured).trans ((if_pos (by exact good)).trans ?_)
          exact congrArg State.controlDone ((s.heard.beginControl_setCab).trans (if_neg unheld))
      obtain ⟨u, done, kept⟩ := completed_supervisor cleared.enterRunning .control tag
        (.done cleared.enterRunning.controlData)
      exact ⟨entered answered, u, (entered answered).trans done, kept.trans (enterRunning_supervisor cleared)⟩
  case hold =>
    obtain ⟨quiet, stays⟩ := h.1.heard
    refine ⟨fun control => ?_, fun other => ?_⟩
    · intro left
      have answered : s.heard.answerControl .hold = left.controlDone := s.heard.answerHold_eq.trans (if_pos control)
      have unrestarted : left.link.restartPending = false := by
        rw [show left =
          (s.heard.setSupervisor { s.supervisor with reasonCab := true }).leaveRunning .suspended from rfl]
        exact leaveRunning_restartPending .suspended stays
      have held : exec (.controlHold tag) s = left.completed .control tag (.done left.controlData) :=
        exec_control_done (a := .hold) h rfl tag answered unrestarted
      have supervisor : left.supervisor = { s.supervisor with control := .suspended, reasonCab := true } :=
        leaveRunning_supervisor (s.heard.setSupervisor { s.supervisor with reasonCab := true }) .suspended
      have stopped : left.isRunning = false := by
        unfold State.isRunning
        rw [supervisor]
        rfl
      obtain ⟨u, done, kept, rest⟩ := completed_atRest stopped (leaveRunning_atRest _ (by decide)) .control tag
        (.done left.controlData)
      refine ⟨held, ?_, u, held.trans done, kept.trans supervisor, rest⟩
      rw [controlData_eq, supervisor]
      cases s.supervisor.reasonSupply <;> rfl
    · exact exec_control_quiet (a := .hold) h rfl tag (s.heard.answerHold_eq.trans (if_neg other)) stays quiet
  case enter =>
    unfold State.enterRunning
    congr 1
    funext u c
    unfold State.evaluatePresent State.isPresent
    by_cases absent : (u.circuit c).state = .absent <;> simp [absent]
  case evaluators =>
    refine ⟨fun side => ?_, rfl, fun w => ?_⟩
    · unfold State.evaluateCircuit
      rw [circuitSide_sideCircuit]
    · unfold State.evaluateCircuit
      rw [circuitSide_tyreCircuit, circuitTyre_tyreCircuit]
  case leave =>
    intro venting held aborted left
    obtain ⟨cs, valves, parts, records⟩ := rest_eq (s.departed_isRunning ne)
    rw [← leaveRunning_eq] at parts records
    have start : (held.setSupervisor { s.supervisor with control := new }).isRunning = false := decide_eq_false ne
    refine ⟨fun vents => ?_, leaveRunning_atRest s ne, leaveRunning_supervisor s new, fun t mem => ?_,
      fun c waits => ?_, fun c waiting holdoff => ?_, ?_, ?_, ?_, ?_, ?_⟩
    · have held : (s.departed new).HeldVenting s.driver.isolation := by
        refine foldl_closed _ (fun u t k => k.endTransaction t) s.engine ?_
        rw [if_pos vents]
        exact ⟨start, vents.1, vents.2, rfl, rfl⟩
      obtain ⟨_, state, step, vent, isolation⟩ := held
      rw [show left = _ from parts]
      exact ⟨state, step, vent, isolation⟩
    · have last := abort_lastOutcome start s.engine (.inl ⟨t, mem, rfl⟩)
      rw [show left.circuit t.circuit = _ from records t.circuit, rested_lastOutcome]
      exact last
    · exact (records c).trans (if_pos waits)
    · exact (records c).trans (if_neg (not_or.mpr ⟨waiting, holdoff⟩))
    all_goals
      rw [show left = _ from parts, show aborted = s.departed new from rfl]
      rfl

end Sys2Proof.Machine
end

section
/-! The counts with a limit: strikes (O9), and the engine, the Event Queue and the Transmit Queue (O10). Both laws come
from one relation to an earlier state, which every kind of update of the unit keeps. -/

namespace Sys2Proof.Machine

open State

/-- The places of the Transmit Queue that are taken, the one secured for a reply counted (R157). -/
def LinkPort.taken (x : LinkPort) : Nat := x.queue.length + bitAt 0 x.secured

/-- No count of `s` lies above the greater of its limit and what it was in `a`. -/
structure CountsLimited (a s : State) : Prop where
  /-- the strikes of a circuit (R95) -/
  strikes : ∀ c, (s.circuit c).strikes ≤ max 2 (a.circuit c).strikes
  /-- the transactions in flight (R80) -/
  engine : s.engine.length ≤ max Fixed.slots a.engine.length
  /-- the records of the Event Queue (R165) -/
  events : s.events.queue.length ≤ max Fixed.eventPlaces a.events.queue.length
  /-- the places of the Transmit Queue (R157) -/
  link : s.link.taken ≤ max Fixed.transmitPlaces a.link.taken

/-! ### The operations that change a count -/

/-- Into a full queue a record takes the place of the oldest (R165). -/
theorem capture_length (r : EventRecord) (e : EventUnit) :
    (capture r e).queue.length ≤ max Fixed.eventPlaces e.queue.length := by
  unfold capture
  split
  · rw [List.length_append, List.length_singleton]
    omega
  · have places : 0 < Fixed.eventPlaces := by decide
    rw [List.length_append, List.length_singleton, List.length_drop]
    omega

theorem dropOldestNotice_length {l : List Telegram} (h : l.any Telegram.isNotice = true) :
    (dropOldestNotice l).length + 1 = l.length := by
  induction l with
  | nil => cases h
  | cons t rest ih =>
    unfold dropOldestNotice
    split
    · rfl
    · rename_i other
      rw [List.any_cons, Bool.eq_false_iff.mpr other, Bool.false_or] at h
      rw [List.length_cons, ih h, List.length_cons]

/-- A notice is queued only while two places are free (R157, R158). -/
theorem State.offerNotice_taken (s : State) (k : Byte) (body : List Byte) :
    (s.offerNotice k body).link.taken ≤ max Fixed.transmitPlaces s.link.taken := by
  unfold State.offerNotice State.noticeFits LinkPort.taken
  split
  · rename_i fits
    rw [Bool.and_eq_true, decide_eq_true_eq] at fits
    simp only [setLink_link, List.length_append, List.length_singleton]
    omega
  · omega

/-- A place secured is a free one, or that of the notice dropped for it (R157). -/
theorem State.securePlace_taken {s t : State} (h : s.securePlace = some t) :
    ∃ x, t = s.setLink x ∧ x.taken ≤ max Fixed.transmitPlaces s.link.taken := by
  have one : bitAt 0 true = 1 := rfl
  have places : 1 ≤ Fixed.transmitPlaces := by decide
  unfold State.securePlace at h
  unfold LinkPort.taken
  split at h
  · cases h
    refine ⟨_, rfl, ?_⟩
    simp only [‹s.link.queue = []›, List.length_nil]
    omega
  · split at h
    · cases h
      refine ⟨_, rfl, ?_⟩
      simp only
      omega
    · split at h
      · cases h
        refine ⟨_, rfl, ?_⟩
        have dropped := dropOldestNotice_length ‹_›
        simp only [‹s.link.queue = _›, List.length_cons]
        omega
      · cases h

/-! ### What keeps the counts limited -/

namespace CountsLimited

variable {a s t : State}

theorem refl (a : State) : CountsLimited a a :=
  ⟨fun _ => Nat.le_max_right _ _, Nat.le_max_right _ _, Nat.le_max_right _ _, Nat.le_max_right _ _⟩

/-- An update that touches no count. -/
theorem of_same (h : CountsLimited a s) (circuits : t.circuits = s.circuits) (engine : t.engine = s.engine)
    (queue : t.events.queue = s.events.queue) (link : t.link = s.link) : CountsLimited a t where
  strikes c := by
    unfold State.circuit
    rw [circuits]
    exact h.strikes c
  engine := engine ▸ h.engine
  events := queue ▸ h.events
  link := link ▸ h.link

theorem setCircuit (h : CountsLimited a s) {c : CircuitId} {r : CircuitRecord}
    (k : r.strikes ≤ max 2 (s.circuit c).strikes) : CountsLimited a (s.setCircuit c r) where
  strikes d := by
    have before := h.strikes d
    by_cases e : d = c
    · subst e
      rw [setCircuit_circuit]
      omega
    · rwa [setCircuit_circuit_of_ne _ _ e]
  engine := h.engine
  events := h.events
  link := h.link

theorem setEngine (h : CountsLimited a s) {l : List Transaction} (k : l.length ≤ max Fixed.slots s.engine.length) :
    CountsLimited a (s.setEngine l) :=
  ⟨h.strikes, k.trans (max_le (le_max_left _ _) h.engine), h.events, h.link⟩

theorem setEvents (h : CountsLimited a s) {x : EventUnit}
    (k : x.queue.length ≤ max Fixed.eventPlaces s.events.queue.length) : CountsLimited a (s.setEvents x) :=
  ⟨h.strikes, h.engine, k.trans (max_le (le_max_left _ _) h.events), h.link⟩

theorem setLink (h : CountsLimited a s) {x : LinkPort} (k : x.taken ≤ max Fixed.transmitPlaces s.link.taken) :
    CountsLimited a (s.setLink x) :=
  ⟨h.strikes, h.engine, h.events, k.trans (max_le (le_max_left _ _) h.link)⟩

theorem offerNotice (h : CountsLimited a s) (k : Byte) (body : List Byte) : CountsLimited a (s.offerNotice k body) := by
  have taken := s.offerNotice_taken k body
  obtain ⟨q, e⟩ := s.offerNotice_eq k body
  rw [e] at taken ⊢
  exact h.setLink taken

theorem offerIf (h : CountsLimited a s) (b : Bool) (k : Byte) (body : List Byte) :
    CountsLimited a (if b = true then s.offerNotice k body else s) := by
  split
  · exact h.offerNotice k body
  · exact h

theorem captureIf (h : CountsLimited a s) (b : Bool) (r : EventRecord) {e : EventUnit}
    (same : e.queue = s.events.queue) : CountsLimited a (s.setEvents (if b = true then capture r e else e)) := by
  refine h.setEvents ?_
  rw [← same]
  split
  · exact capture_length r e
  · exact Nat.le_max_right _ _

theorem logEvent (h : CountsLimited a s) (k : EventKind) (sev : Severity) (c : Option CircuitId) (v : Option Int) :
    CountsLimited a (s.logEvent k sev c v) :=
  (h.captureIf _ _ (e := { s.events with detected := addSeverity s.events.detected sev }) rfl).offerIf _ _ _

/-- A reset empties what is counted (R4, R78, R150, R165). -/
theorem of_reset (now : Nat) (image : Vector Word 512) (no nc : Bool) (pos : Position) (q : List Instr) :
    CountsLimited a (State.afterReset now image no nc pos q) where
  strikes c := by simp [State.circuit, State.afterReset, CircuitRecord.initial]
  engine := Nat.zero_le _
  events := Nat.zero_le _
  link := Nat.zero_le _

end CountsLimited

/-- The air control keeps the counts limited: strikes come up to 2, a transaction takes a free slot, and the Event Unit
captures and offers into its places alone. -/
theorem countsLimited_airClosed (a : State) : AirClosed (CountsLimited a) := by
  constructor
  case logEvent => exact fun k sev c v h => h.logEvent k sev c v
  case setConditions =>
    exact fun x h => h.of_same (setConditions_circuits ..) (setConditions_engine ..) (setConditions_events_queue ..)
      (setConditions_link ..)
  case setCircuit => exact fun c r strikes h => h.setCircuit strikes
  case addTransaction =>
    intro s t _ free h
    refine h.setEngine ?_
    rw [List.length_append, List.length_singleton]
    omega
  case setTransaction => exact fun t h => h.setEngine (by rw [List.length_map]; omega)
  case dropTransaction => exact fun c h => h.setEngine ((List.length_filter_le _ _).trans (Nat.le_max_right _ _))
  all_goals
    intros
    rename_i h
    exact h.of_same rfl rfl rfl rfl

/-- Every kind of update of the unit keeps the counts limited. -/
theorem countsLimited_unitClosed (a : State) : UnitClosed (CountsLimited a) where
  toAirClosed := countsLimited_airClosed a
  setEstimator _ h := h.of_same rfl rfl rfl rfl
  clearFlag _ h := h.of_same rfl rfl rfl rfl
  setSupervisor _ _ h := h.of_same rfl rfl rfl rfl
  setControl _ _ h := h.of_same rfl rfl rfl rfl
  leaveRunning c _ h := leaveRunning_of (countsLimited_airClosed a) (fun _ _ k => k.of_same rfl rfl rfl rfl) c h
  setHeight _ _ _ h := h.of_same rfl rfl rfl rfl
  setFlag _ h := h.of_same rfl rfl rfl rfl
  setChannel _ _ _ h := h.of_same rfl rfl rfl rfl
  setComparator _ _ h := h.of_same rfl rfl rfl rfl
  setRamp _ h := h.of_same rfl rfl rfl rfl
  setPositionInput _ h := h.of_same rfl rfl rfl rfl
  setLamp _ h := h.of_same rfl rfl rfl rfl
  setLink x queue secured _ h := h.setLink (by unfold LinkPort.taken; rw [queue, secured]; omega)
  setQueue q shorter h := h.setLink (by unfold LinkPort.taken; dsimp only; omega)
  offerNotice k body h := h.offerNotice k body
  setEvents _ shorter h := h.setEvents (shorter.trans (Nat.le_max_right _ _))
  setParams _ h := h.of_same rfl rfl rfl rfl
  setStore _ h := h.of_same rfl rfl rfl rfl
  setStartUp _ h := h.of_same rfl rfl rfl rfl
  setRestart h := h.setLink (Nat.le_max_right _ _)
  setRampState _ h := h.of_same rfl rfl rfl rfl
  securePlace e h := by
    obtain ⟨x, rfl, taken⟩ := State.securePlace_taken e
    exact h.setLink taken
  placeReply r secured h := h.setLink (by
    unfold LinkPort.taken
    rw [secured, List.length_append]
    exact Nat.le_max_right _ _)
  powerOn _ := .of_reset ..
  doRestart {s} h := by
    obtain ⟨strikes, engine, _, link⟩ := CountsLimited.of_reset (a := a) s.now (interruptedImage s.store s.now)
      s.sensing.ramp.noClosed s.sensing.ramp.ncClosed s.sensing.position.raw s.pending
    refine CountsLimited.logEvent ?_ _ _ _ _
    exact ⟨strikes, engine, h.events, link⟩

/-- After a step no count lies above the greater of its limit and what it was before. -/
theorem countsLimited_of_step {s t : State} (k : step s = .next t) : CountsLimited s t :=
  (countsLimited_unitClosed s).step_keeps (fun _ h => h.of_same rfl rfl rfl rfl)
    (fun _ _ h => h.of_same rfl rfl rfl rfl) (CountsLimited.refl s) k

/-- Settles O9: a step takes no strike count above the greater of 2 and what it was. -/
theorem stepStrikesBounded : Obligations.StepStrikesBounded := fun _ _ h k c =>
  ((countsLimited_of_step k).strikes c).trans (max_le le_rfl (h c))

/-- Settles O10: a step takes no list above the greater of its places and what it held. -/
theorem stepQueuesBounded : Obligations.StepQueuesBounded := by
  intro s t ⟨engine, events, link⟩ k
  have after := countsLimited_of_step k
  exact ⟨after.engine.trans (max_le le_rfl engine), after.events.trans (max_le le_rfl events),
    after.link.trans (max_le le_rfl link)⟩

end Sys2Proof.Machine
end

section
/-! PHASE_END: what the end of a phase by its time makes of the transaction and the valves (O41). -/

namespace Sys2Proof.Machine

open State

section
variable {s : State} {t : Transaction}

/-- PHASE_END at the end of a phase ends it, and takes the hand-offs it leaves (R84). -/
theorem exec_phaseEnd_of_due {c : CircuitId} (on : s.transactionOn c = some t) (due : t.phaseEnd ≤ s.now) :
    exec (.phaseEnd c) s = .next (s.endPhase t).settle := by
  have phase : s.phaseDue c = some t := by
    rw [State.phaseDue, on]
    exact Option.filter_some_pos (by simpa using due)
  show execPhaseEnd c s = _
  rw [execPhaseEnd, phase]
  rfl

/-- A circuit's fill or wheel valve is none of the shared valves (R10). -/
theorem inletValve_ne : ∀ c : CircuitId,
    inletValve c ≠ supplyValve ∧ inletValve c ≠ galleryFillValve ∧ inletValve c ≠ galleryExhaustValve := by decide

/-- The end of the holder's pulse gives SUPPLY back and leaves GALLERY with its holder (R68). -/
theorem State.freeResources_supply {c : CircuitId} (held : s.scheduler.supply = some c) :
    s.freeResources c true false = s.setScheduler { s.scheduler with supply := none } := by
  unfold State.freeResources
  simp [held]

/-- The valves that close as a transaction goes on to its next phase: those the next phase does not hold open
(R84 to R88). -/
def Transaction.closing (t : Transaction) (next : Phase) : List ValveId :=
  (phaseValves t.circuit t.kind t.phase).filter fun v => !(phaseValves t.circuit t.kind next).contains v

/-- SETTLE holds no valve open, so the valves of the phase before it all close. -/
theorem Transaction.closing_settle (t : Transaction) : t.closing .settle = phaseValves t.circuit t.kind t.phase :=
  List.filter_eq_self.mpr fun _ _ => rfl

/-- Valves closed change the driver alone, so the record of the next phase is formed of the state before. -/
theorem State.endPlainPhase_eq (s : State) (t : Transaction) (next : Phase) : s.endPlainPhase t next =
    ((s.closeAll (t.closing next)).setTransaction { t with
      phase := next, phaseEnd := s.now + t.afterTime
      wheelOpened := t.wheelOpened || decide (t.kind = .probe) }).requestOpenAll t.circuit
        (phaseValves t.circuit t.kind next) := by
  obtain ⟨valves, closed⟩ := s.closeAll_setDriver (t.closing next)
  unfold State.endPlainPhase
  dsimp only
  rw [← Transaction.closing, closed]
  rfl

/-- The fill pulse of SUPPLY's holder ends: its valves close, SUPPLY is free, and the pass of the release runs
(R84, R85, R87). -/
theorem State.endFillPulse_of_holder (holds : t.holdsSupply = true) (held : s.scheduler.supply = some t.circuit)
    (next : Phase) : s.endFillPulse t next =
    (((s.closeAll (t.closing next)).setScheduler { s.scheduler with supply := none }).setTransaction { t with
        supplyAtEnd := some (s.pulseEndSupply t.circuit)
        phase := next, phaseEnd := s.now + t.afterTime, holdsSupply := false }).pass := by
  have released : s.holdsResource t.circuit t.holdsSupply false = true :=
    (s.holdsResource_iff ..).mpr (.inl ⟨holds, held⟩)
  obtain ⟨valves, closed⟩ := s.closeAll_setDriver (t.closing next)
  have freed := freeResources_supply (s := s.setDriver { s.driver with valves := valves }) held
  unfold State.endFillPulse
  dsimp only
  rw [if_pos released, ← Transaction.closing, closed, holds, freed]
  rfl

/-! ### Each phase -/

/-- The exhaust pulse of a side or of LIFT ends (R84, R85). -/
theorem State.endPhase_exhaust (phase : t.phase = .pulse) (kind : t.kind = .sideExhaust ∨ t.kind = .liftExhaust) :
    s.endPhase t = (s.closeValve (outletValve t.circuit)).setTransaction
      { t with phase := .settle, phaseEnd := s.now + t.afterTime } := by
  have dry : t.kind.needsSupply = false := by obtain e | e := kind <;> rw [e] <;> rfl
  have closing : t.closing .settle = [outletValve t.circuit] := by
    rw [t.closing_settle, phase, phaseValves, dry]
    rfl
  have unprobed : decide (t.kind = .probe) = false := by obtain e | e := kind <;> rw [e] <;> rfl
  rw [State.endPhase, phase]
  simp only [dry, endPlainPhase_eq, closing, unprobed, Bool.or_false]
  rfl

/-- The fill pulse of a side or of LIFT ends (R84, R85). -/
theorem State.endPhase_fill (phase : t.phase = .pulse) (kind : t.kind = .sideFill ∨ t.kind = .liftFill)
    (holds : t.holdsSupply = true) (held : s.scheduler.supply = some t.circuit) :
    s.endPhase t = ((((s.closeValve supplyValve).closeValve (inletValve t.circuit)).setScheduler
      { s.scheduler with supply := none }).setTransaction { t with
        supplyAtEnd := some (s.pulseEndSupply t.circuit)
        phase := .settle, phaseEnd := s.now + t.afterTime, holdsSupply := false }).pass := by
  have fills : t.kind.needsSupply = true := by obtain e | e := kind <;> rw [e] <;> rfl
  have closing : t.closing .settle = [supplyValve, inletValve t.circuit] := by
    rw [t.closing_settle, phase, phaseValves, fills]
    rfl
  rw [State.endPhase, phase]
  simp only [fills, if_true, endFillPulse_of_holder holds held, closing]
  rfl

/-- INFLATE ends with the wheel valve left open for EQUALIZE (R87). -/
theorem State.endPhase_inflate (phase : t.phase = .inflate) (holds : t.holdsSupply = true)
    (held : s.scheduler.supply = some t.circuit) :
    s.endPhase t = ((((s.closeValve supplyValve).closeValve galleryFillValve).setScheduler
      { s.scheduler with supply := none }).setTransaction { t with
        supplyAtEnd := some (s.pulseEndSupply t.circuit)
        phase := .equalize, phaseEnd := s.now + t.afterTime, holdsSupply := false }).pass := by
  obtain ⟨supply, fill, _⟩ := inletValve_ne t.circuit
  have closing : t.closing .equalize = [supplyValve, galleryFillValve] := by
    simp [Transaction.closing, phase, phaseValves, supply.symm, fill.symm]
  rw [State.endPhase, phase]
  simp only [endFillPulse_of_holder holds held, closing]
  rfl

/-- VENT ends: valve 3 closes, and the wheel valve is asked for (R86). -/
theorem State.endPhase_vent (phase : t.phase = .vent) (kind : t.kind = .probe) :
    s.endPhase t = ((s.closeValve galleryExhaustValve).setTransaction { t with
      phase := .equalize, phaseEnd := s.now + t.afterTime, wheelOpened := true }).requestOpen t.circuit
        (inletValve t.circuit) := by
  obtain ⟨_, _, exhaust⟩ := inletValve_ne t.circuit
  have closing : t.closing .equalize = [galleryExhaustValve] := by
    simp [Transaction.closing, phase, phaseValves, exhaust.symm]
  rw [State.endPhase, phase]
  simp only [endPlainPhase_eq, closing, kind, decide_true, Bool.or_true]
  rfl

/-- BLEED ends: valve 3 closes, and the wheel valve stays for EQUALIZE (R88). -/
theorem State.endPhase_bleed (phase : t.phase = .bleed) (kind : t.kind = .deflate) :
    s.endPhase t = ((s.closeAll ([inletValve t.circuit, galleryExhaustValve].filter fun v =>
      v ≠ inletValve t.circuit)).setTransaction { t with
        phase := .equalize, phaseEnd := s.now + t.afterTime }).requestOpen t.circuit (inletValve t.circuit) := by
  have closing : t.closing .equalize = [inletValve t.circuit, galleryExhaustValve].filter fun v =>
      v ≠ inletValve t.circuit := by
    rw [Transaction.closing, phase]
    exact List.filter_congr fun v _ => by simp [phaseValves]
  have unprobed : decide (t.kind = .probe) = false := by rw [kind]; rfl
  rw [State.endPhase, phase]
  simp only [endPlainPhase_eq, closing, unprobed, Bool.or_false]
  rfl

/-- CHARGE ends: INFLATE asks for the wheel valve beside valves 1 and 2 (R87). -/
theorem State.endPhase_charge (phase : t.phase = .charge) :
    s.endPhase t = (((s.setTransaction { t with
      phase := .inflate, phaseEnd := s.now + t.pulseTime.getD 0, wheelOpened := true }).requestOpen t.circuit
        supplyValve).requestOpen t.circuit galleryFillValve).requestOpen t.circuit (inletValve t.circuit) := by
  rw [State.endPhase, phase]
  rfl

/-- The last phase ends in the READ of a tyre and the judgement (R84, R89). -/
theorem State.endPhase_last (phase : t.phase = .settle ∨ t.phase = .equalize) :
    s.endPhase t = s.finishTransaction t := by
  obtain e | e := phase <;> rw [State.endPhase, e]

end

/-- Settles O41: a phase by the lemma of its end; SETTLE and EQUALIZE end in the judgement. -/
theorem phaseEnds : Obligations.PhaseEnds := by
  intro s c t on due quiet
  rw [exec_phaseEnd_of_due on due]
  refine ⟨fun phase kind => ?exhaust, fun phase kind holds held => ?fill, fun phase _ holds held => ?inflate,
    fun phase kind => ?vent, fun phase _ => ?charge, fun phase kind => ?bleed, fun phase other => ?settle,
    fun phase tyre => ?equalize⟩
  case exhaust =>
    rw [endPhase_exhaust phase kind, settle_of_nil]
    obtain ⟨driver, closed⟩ := s.closeValve_setDriver (outletValve t.circuit)
    rw [closed]
    exact quiet
  case fill =>
    rw [endPhase_fill phase kind holds held]
    rfl
  case inflate =>
    rw [endPhase_inflate phase holds held]
    rfl
  case vent => rw [endPhase_vent phase kind]
  case charge => rw [endPhase_charge phase]
  case bleed => rw [endPhase_bleed phase kind]
  case settle => rw [endPhase_last (.inl phase), State.finishTransaction, if_neg other]
  case equalize =>
    rw [endPhase_last (.inr phase), State.finishTransaction, if_pos tyre]
    rfl

end Sys2Proof.Machine
end

section
/-! The speed record and what it is judged by: return to ride, RAMP_AT_SPEED and allowance in force (O46). -/

namespace Sys2Proof.Machine

open State

/-! ### Allowance in force -/

section
variable (s : State)

theorem State.allowanceNow_iff :
    s.allowanceNow = true ↔ s.height.speed = none ∨ ∃ v, s.height.speed = some v ∧ s.params.p56 ≤ v := by
  unfold State.allowanceNow
  cases s.height.speed <;> simp

/-- A side computed leaves allowance in force alone (R44). -/
theorem State.recomputeRecord_allowance (side : Side) (st : Stages) :
    (s.recomputeRecord side st).estimator.allowance = s.estimator.allowance :=
  (congrArg Estimator.allowance
    (s.storeRecord_frame side (s.computeRecord side st (s.sideRecord side))).estimator).trans rfl

theorem State.handLoads_frame (side : Side) (st : Stages) : AirFrame s (s.handLoads side st) := by
  unfold State.handLoads
  split
  · exact AirClosed.liftLoads_closed (airFrame_closed s) _ _ (.refl s)
  · exact .refl s

theorem State.writeTargets_frame (side : Side) : AirFrame s (s.writeTargets side) :=
  have air := airFrame_closed s
  foldl_closed _ (fun _ _ k => AirClosed.tyreTargetChanged_closed air _ k) _
    (foldl_closed writeTyreTarget (fun _ _ k => air.setCircuit _ _ (Nat.le_max_right _ _) k) _ (.refl s))

/-- Both sides computed leave allowance in force alone: only their records change at the Load Estimator (R44). -/
theorem State.recomputeSides_allowance (st : Stages) :
    (s.recomputeSides st).estimator.allowance = s.estimator.allowance := by
  unfold State.recomputeSides
  dsimp only
  rw [(writeTargets_frame _ _).estimator, (writeTargets_frame _ _).estimator, (handLoads_frame _ _ _).estimator,
    (handLoads_frame _ _ _).estimator, recomputeRecord_allowance, recomputeRecord_allowance]

end

section
variable {s : State}

theorem State.judgeAllowance_of_eq (same : s.estimator.allowance = s.allowanceNow) : s.judgeAllowance = s :=
  if_pos same.symm

/-- A change of allowance in force runs stages G and H for both sides (R53). -/
theorem State.judgeAllowance_of_ne (changed : s.estimator.allowance ≠ s.allowanceNow) : s.judgeAllowance =
    (s.setEstimator { s.estimator with allowance := !s.estimator.allowance }).recomputeSides .fromG := by
  have flipped : s.allowanceNow = !s.estimator.allowance := Bool.eq_not_of_ne changed.symm
  rw [State.judgeAllowance, if_neg changed.symm, flipped]
  rfl

theorem State.judgeAllowance_allowance (s : State) : s.judgeAllowance.estimator.allowance = s.allowanceNow := by
  unfold State.judgeAllowance
  split
  · exact Eq.symm ‹_›
  · exact recomputeSides_allowance _ _

/-! ### Return to ride and RAMP_AT_SPEED -/

theorem State.returnToRide_of_moving (mode : s.height.mode ≠ .ride) (up : s.height.ramp = .up)
    (moving : s.moving = true) : s.returnToRide = s.takeMode .ride := by
  rw [State.returnToRide, State.takeMode, if_pos ⟨mode, up, moving⟩, if_pos mode]

theorem State.returnToRide_of_not (h : s.height.mode = .ride ∨ s.height.ramp ≠ .up ∨ ¬s.moving = true) :
    s.returnToRide = s := if_neg fun ⟨mode, up, moving⟩ => h.elim mode fun k => k.elim (· up) (· moving)

theorem State.rampAtSpeed_iff (s : State) : s.rampAtSpeed = true ↔ s.height.rampRead = true ∧ s.height.ramp ≠ .up ∧
    (s.height.speed = none ∨ ∃ v, s.height.speed = some v ∧ 5 < v) := by
  unfold State.rampAtSpeed Fixed.rampSpeed
  cases s.height.speed <;> simp [and_assoc]

theorem State.judgeRampAtSpeed_of_held (bad : s.rampAtSpeed = true) (active : s.isActive .rampAtSpeed = true) :
    s.judgeRampAtSpeed = s := by
  rw [State.judgeRampAtSpeed, if_pos bad, if_pos active]

theorem State.judgeRampAtSpeed_of_new (bad : s.rampAtSpeed = true) (inactive : s.isActive .rampAtSpeed = false) :
    s.judgeRampAtSpeed = (s.raise .rampAtSpeed .critical).logEvent .rampAtSpeed .critical none
      (some ((s.height.speed.map Int.ofNat).getD (-1))) := by
  rw [State.judgeRampAtSpeed, if_pos bad, if_neg (by simp [inactive])]

theorem State.judgeRampAtSpeed_of_not (h : ¬s.rampAtSpeed = true) : s.judgeRampAtSpeed = s.clear .rampAtSpeed :=
  if_neg h

/-- A condition raised is active (R167). -/
theorem State.raise_isActive_same (s : State) (id : ConditionId) (sev : Severity) :
    (s.raise id sev).isActive id = true := by
  rw [State.raise, setConditions_isActive, insertCondition]
  split
  · rename_i held
    simp only [List.any_map, List.any_eq_true, decide_eq_true_eq, Function.comp_apply] at held ⊢
    obtain ⟨a, mem, own⟩ := held
    exact ⟨a, mem, by split <;> exact own⟩
  · simp

/-- An event leaves the condition set alone (R164). -/
theorem State.logEvent_isActive (s : State) (k sev c v) (id : ConditionId) :
    (s.logEvent k sev c v).isActive id = s.isActive id := by
  rw [State.isActive, logEvent_events_conditions]
  rfl

/-- RAMP_AT_SPEED follows its test (R111). -/
theorem State.judgeRampAtSpeed_isActive (s : State) : s.judgeRampAtSpeed.isActive .rampAtSpeed = s.rampAtSpeed := by
  unfold State.judgeRampAtSpeed
  cases s.rampAtSpeed with
  | false => exact s.clear_isActive_same _
  | true =>
    rw [if_pos rfl]
    split
    · assumption
    · rw [logEvent_isActive, raise_isActive_same]

/-! ### SPEED and its age -/

/-- A speed that changes is told to the Load Estimator first (R53, R109). -/
theorem State.takeSpeed_of_ne {v : Option Nat} (changed : s.height.speed ≠ v) (m : Option Nat) :
    s.takeSpeed v m = ((s.setHeight
      { s.height with speed := v, speedMark := m }).judgeAllowance).returnToRide.judgeRampAtSpeed := by
  simp [State.takeSpeed, changed]

theorem State.takeSpeed_of_eq {v : Option Nat} (same : s.height.speed = v) (m : Option Nat) :
    s.takeSpeed v m = (s.setHeight { s.height with speed := v, speedMark := m }).returnToRide.judgeRampAtSpeed := by
  simp [State.takeSpeed, same]

/-- SPEED as a command: clamped to 150 km/h, and taken with its mark (R109). -/
theorem exec_speed (h : s.Serving) (tag b : Byte) : exec (.speed tag b) s =
    (s.heard.takeSpeed (some (min 150 b.toNat)) (some s.now)).completed .speed tag
      (if 150 < b.toNat then .clamped [] else .done []) := by
  have answered : s.heard.answer (.speed b) = (if 150 < b.toNat then .clamped [] else .done [],
      s.heard.takeSpeed (some (min 150 b.toNat)) (some s.now)) := by
    show (Answer.taken (decide (150 < b.toNat)) [], _) = _
    simp only [Answer.taken, decide_eq_true_eq]
    rfl
  exact request_served h tag rfl answered (fun _ => by split <;> nofun)
    (CoreClosed.takeSpeed_closed noRestart_closed.toCoreClosed _ _ h.1.heard.2)

end

/-- Settles O46: the request by its clamp, the age by its mark, and each judgement by its test. -/
theorem speedRequest : Obligations.SpeedRequest := by
  refine ⟨fun tag b s h => exec_speed h tag b, fun s v m speed mark aged => ?aged, fun s m mark early idle => ?early,
    fun s v m changed => takeSpeed_of_ne changed m, fun s v m same => takeSpeed_of_eq same m, fun s => ?ride,
    fun s => ?ramp, fun s => ?allowance⟩
  case aged =>
    have due : s.speedAged = true := s.speedAged_iff.mpr ⟨by simp [speed], m, mark, aged⟩
    exact congrArg finish (if_pos due)
  case early =>
    have undue : ¬s.speedAged = true := fun due => by
      obtain ⟨_, k, held, aged⟩ := s.speedAged_iff.mp due
      obtain rfl : m = k := Option.some.inj (mark.symm.trans held)
      omega
    exact (congrArg finish (if_neg undue)).trans (finish_of_nil idle)
  case ride =>
    intro moving
    have test : s.moving = true ↔ moving := s.moving_iff
    rw [← test]
    exact ⟨returnToRide_of_moving, returnToRide_of_not⟩
  case ramp =>
    intro bad
    have test : s.rampAtSpeed = true ↔ bad := s.rampAtSpeed_iff
    rw [← test, judgeRampAtSpeed_isActive]
    exact ⟨judgeRampAtSpeed_of_held, judgeRampAtSpeed_of_new, judgeRampAtSpeed_of_not, .rfl⟩
  case allowance =>
    intro high
    have test : s.allowanceNow = true ↔ high := s.allowanceNow_iff
    rw [← test, ← Bool.eq_iff_iff, judgeAllowance_allowance]
    exact ⟨judgeAllowance_of_eq, judgeAllowance_of_ne, .rfl⟩

end Sys2Proof.Machine
end

section
/-! LIFT: its answers, the start of a raise and of a lowering, the AUTO dwell, and a stall (O47). -/

namespace Sys2Proof.Machine

open State

/-! ### Raises and lowerings -/

section
variable {s : State}

/-- A switch leaves the Lift Axle Controller alone (R16). -/
theorem State.requestSwitch_lift (s : State) (pos : Position) : (s.requestSwitch pos).lift = s.lift := by
  have started (t : State) : (t.startPulse pos).lift = t.lift := by
    unfold State.startPulse
    dsimp only
    split <;> rfl
  have begun (t : State) : (t.beginSwitch pos).lift = t.lift := by
    unfold State.beginSwitch
    split
    · rfl
    · exact started t
  unfold State.requestSwitch
  split
  · exact begun s
  · rfl
  all_goals
    split
    · rfl
    · exact begun _

/-- A change of the lift's items, told by an event, leaves it acting (R116). -/
theorem State.liftActs_told {x y : LiftController} (acts : s.liftActs = true)
    (reconciled : y.reconciled = s.lift.reconciled) (k sev c v) :
    (((s.setLift x).logEvent k sev c v).setLift y).liftActs = true := by
  rw [liftActs_iff] at acts ⊢
  simpa [State.liftFitted, reconciled] using acts

/-- A raise from DOWN: told, evaluated in ISOLATING, and the switch requested last (R118, log entry 62). -/
theorem State.startRaise_of_down (acts : s.liftActs = true) (down : s.lift.state = .down) :
    let told := (s.setLift { s.lift with state := .raising, step := .isolating }).logEvent .liftChanged .advisory none
      (some 1)
    let raised := { s.lift with state := .raising, step := .isolating, dwellSince := none }
    s.startRaise = (((told.setLift raised).withdraw liftCircuit).setLift
      { raised with switchOutstanding := true }).requestSwitch .isolated := by
  intro told raised
  have tells : s.setLiftState .raising .isolating = told := setLiftState_of_ne (by rw [down]; decide) .isolating
  have lift : told.lift = { s.lift with state := .raising, step := .isolating } := logEvent_lift ..
  have acting : (told.setLift raised).liftActs = true := liftActs_told acts rfl ..
  have evaluated : (told.setLift raised).evaluateLift = (told.setLift raised).withdraw liftCircuit :=
    evaluateLift_of_switching acting (.inr (.inl ⟨rfl, rfl⟩))
  rw [State.startRaise]
  dsimp only
  rw [tells, lift, evaluated, State.liftSwitch, withdraw_lift, setLift_lift]

theorem State.lower_of_idle (h : s.liftFitted = false ∨ s.lift.reconciled = false) (cls : DemandClass) :
    s.lower cls = s := if_neg fun acts => by
  obtain ⟨fitted, reconciled⟩ := s.liftActs_iff.mp acts
  simp [fitted, reconciled] at h

theorem State.lower_of_down (down : s.lift.state = .down) (cls : DemandClass) : s.lower cls = s := by
  rw [State.lower, down]
  exact ite_self s

/-- A lowering from RAISING or UP is evaluated in VENTING (R120). -/
theorem State.lower_of_high (acts : s.liftActs = true) (high : s.lift.state = .raising ∨ s.lift.state = .up)
    (cls : DemandClass) :
    let told := (s.setLift { s.lift with state := .lowering, step := .venting }).logEvent .liftChanged .advisory none
      (some 3)
    let begun := { s.lift with
      state := .lowering, step := .venting, loweringClass := some cls, refilling := false, blindVentDone := false
      ventHeld := false, dwellSince := none }
    s.lower cls = (told.setLift begun).evaluateLift := by
  intro told begun
  have begins : s.lower cls = s.beginLowering cls := by
    rw [State.lower, if_pos acts]
    obtain e | e := high <;> rw [e]
  have tells : s.setLiftState .lowering .venting = told :=
    setLiftState_of_ne (by obtain e | e := high <;> rw [e] <;> decide) .venting
  have lift : told.lift = { s.lift with state := .lowering, step := .venting } := logEvent_lift ..
  have acting : (told.setLift begun).liftActs = true := liftActs_told acts rfl ..
  rw [evaluateLift_of_venting acting rfl rfl, begins, State.beginLowering]
  dsimp only
  rw [tells, lift]

/-- A class 0 cause hastens the lowering under way, in whichever step it is (R120). -/
theorem State.lower_safety_of_lowering (acts : s.liftActs = true) (lowering : s.lift.state = .lowering) :
    s.lower .safety = (s.setLift { s.lift with loweringClass := some .safety }).evaluateLift := by
  have hastens : s.lower .safety = if s.lift.step = .venting then
      (s.setLift { s.lift with loweringClass := some .safety }).evaluateVenting
      else (s.setLift { s.lift with loweringClass := some .safety }).withdraw liftCircuit := by
    rw [State.lower, if_pos acts, lowering]
    rfl
  have acting : (s.setLift { s.lift with loweringClass := some .safety }).liftActs = true := acts
  rw [hastens, State.evaluateLift, if_pos acting, setLift_lift, lowering]
  cases s.lift.step <;> rfl

theorem State.lower_lift_of_lowering (lowering : s.lift.state = .lowering) : s.lower .lift = s := by
  rw [State.lower, lowering]
  exact ite_self s

/-! ### LIFT_UNAVAILABLE and a stall -/

theorem State.isActiveAt_iff (s : State) (id : ConditionId) (sev : Severity) : s.isActiveAt id sev = true ↔
    ∃ a ∈ s.events.conditions, a.id = id ∧ sev.code ≤ a.severity.code := by
  simp [State.isActiveAt]

theorem State.liftStalled_of_idle (h : s.liftFitted = false ∨ s.lift.reconciled = false) : s.liftStalled = s :=
  if_neg fun ⟨acts, _⟩ => by
    obtain ⟨fitted, reconciled⟩ := s.liftActs_iff.mp acts
    simp [fitted, reconciled] at h

theorem State.liftStalled_of_down (down : s.lift.state = .down) : s.liftStalled = s := if_neg fun k => k.2 down

/-- A stall of LIFT out of DOWN: the switch, DOWN, and LIFT_UNAVAILABLE at the severity of the state left (R122). -/
theorem State.liftStalled_of_moving (acts : s.liftActs = true) (moving : s.lift.state ≠ .down) :
    let asked := { s.lift with switchOutstanding := true }
    let stood := { asked with state := .down, step := .noStep }
    s.liftStalled = (((((s.setLift asked).requestSwitch .connected).setLift stood).logEvent .liftChanged .advisory none
      (some 0)).setLift { stood with loweringClass := none, ventHeld := false }).raiseUnavailable
        (if s.lift.state = .lowering then .critical else .degraded) := by
  intro asked stood
  have switched : ((s.setLift asked).requestSwitch .connected).lift = asked := requestSwitch_lift ..
  have told : (s.liftSwitch .connected).setLiftState .down .noStep =
      (((s.setLift asked).requestSwitch .connected).setLift stood).logEvent .liftChanged .advisory none (some 0) := by
    refine (setLiftState_of_ne (s := (s.setLift asked).requestSwitch .connected) ?_ .noStep).trans ?_
    · rwa [switched]
    · rw [switched]
      rfl
  rw [State.liftStalled, if_pos ⟨acts, moving⟩]
  dsimp only
  rw [told, logEvent_lift]
  rfl

/-! ### The AUTO dwell and the loads handed on -/

theorem State.dwellLoad_iff (s : State) (side : Side) : s.dwellLoad side = true ↔
    (s.lift.loads.get side).source = .live ∧ (s.lift.loads.get side).axlesDown = some s.params.p01 ∧
      ∃ w, (s.lift.loads.get side).perBellows = some w ∧ w < s.params.p81 := by
  unfold State.dwellLoad
  dsimp only
  cases (s.lift.loads.get side).perBellows <;> simp [and_assoc]

theorem State.overLifted_iff (s : State) (side : Side) : s.overLifted side = true ↔
    (s.lift.loads.get side).source = .live ∧
      ∃ w, (s.lift.loads.get side).perBellows = some w ∧ s.params.p80 < w := by
  unfold State.overLifted
  cases (s.lift.loads.get side).perBellows <;> simp

theorem Side.forall_iff {p : Side → Prop} : (∀ side, p side) ↔ p .left ∧ p .right :=
  ⟨fun h => ⟨h _, h _⟩, fun ⟨left, right⟩ side => by cases side <;> assumption⟩

theorem Side.exists_iff {p : Side → Prop} : (∃ side, p side) ↔ p .left ∨ p .right :=
  ⟨fun ⟨side, h⟩ => by cases side <;> simp [h], fun h => h.elim (⟨_, ·⟩) (⟨_, ·⟩)⟩

theorem State.dwellHolds_iff (s : State) : s.dwellHolds = true ↔ s.liftFitted = true ∧ s.lift.reconciled = true ∧
    s.params.p84 = .auto ∧ s.supervisor.control = .running ∧ s.lift.state = .down ∧ s.height.ramp = .up ∧
    s.height.mode = .ride ∧ ∀ side : Side, s.dwellLoad side = true := by
  simp [State.dwellHolds, State.liftActs, State.isRunning, Side.forall_iff, and_assoc]

/-- Tested while its conditions hold, the dwell runs on, or begins now (R121). -/
theorem State.testDwell_of_holds (holds : s.dwellHolds = true) :
    s.testDwell = s.setLift { s.lift with dwellSince := some (s.lift.dwellSince.getD s.now) } := by
  rw [State.testDwell, if_pos holds]
  split
  · rename_i since
    obtain ⟨m, held⟩ := Option.isSome_iff_exists.mp since
    rw [held, Option.getD_some, ← held]
    rfl
  · rename_i absent
    rw [Option.not_isSome_iff_eq_none.mp absent]
    rfl

theorem State.testDwell_of_not (h : ¬s.dwellHolds = true) :
    s.testDwell = s.setLift { s.lift with dwellSince := none } := if_neg h

/-- LIFT_DWELL_END in its time is the end of the dwell (R121). -/
theorem exec_liftDwellEnd_of_due {m : Nat} (since : s.lift.dwellSince = some m) (due : m + 10000 ≤ s.now) :
    exec .liftDwellEnd s = finish s.endDwell :=
  congrArg finish (if_pos ((s.reached_after_iff _ _).mpr ⟨m, since, due⟩))

/-! ### The raise permission -/

theorem State.liftBarred_iff (s : State) : s.liftBarred = true ↔
    (s.circuit liftCircuit).state = .stalled ∨ s.isActive .liftUnavailable = true := by
  simp [State.liftBarred]

theorem State.liftClear_iff (s : State) : s.liftClear = true ↔
    s.height.ramp = .up ∧ s.height.mode = .ride ∧ s.isValid 3 = true := by
  simp [State.liftClear, and_assoc]

theorem State.loadAllows_iff (s : State) (side : Side) : s.loadAllows side = true ↔
    (s.lift.loads.get side).source = .live ∧
      ∃ w, (s.lift.loads.get side).sprung = some w ∧ w < s.params.p80 * (s.params.p01 - 1) := by
  unfold State.loadAllows
  cases (s.lift.loads.get side).sprung <;> simp

/-- The tests of the raise permission in their order (R118). -/
theorem State.tryRaise_eq (s : State) : s.tryRaise =
    if s.liftBarred = true then (.refused .stalled, s) else if ¬s.liftClear = true then (.refused .interlocked, s)
    else if ¬(s.loadAllows .left = true ∧ s.loadAllows .right = true) then (.refused .load, s)
    else (.accepted, s.startRaise) := by
  simp [State.tryRaise, imp_iff_not_or]

/-! ### The answers to LIFT -/

theorem State.answerLift_of_unfitted (absent : s.params.p03 = .notFitted) (a : LiftAction) :
    s.answerLift a = (.refused .noSuchCircuit, s) := if_pos (by simp [State.liftFitted, absent])

section
variable (fitted : s.params.p03 = .fitted)
include fitted

theorem State.liftFitted_of_params : s.liftFitted = true := decide_eq_true fitted

/-- AUTO and MANUAL write P84 (R117). -/
theorem State.answerLift_auto : s.answerLift .auto = (.done [], s.reconfigure { s.params with p84 := .auto }) :=
  if_neg (by simp [liftFitted_of_params fitted])

theorem State.answerLift_manual : s.answerLift .manual = (.done [], s.reconfigure { s.params with p84 := .manual }) :=
  if_neg (by simp [liftFitted_of_params fitted])

theorem State.answerLift_lower_of_low (low : s.lift.state = .down ∨ s.lift.state = .lowering) :
    s.answerLift .lower = (.done [], s) := by
  obtain e | e := low <;> simp [State.answerLift, liftFitted_of_params fitted, e]

theorem State.answerLift_lower_of_high (high : s.lift.state = .raising ∨ s.lift.state = .up) :
    s.answerLift .lower = (.accepted, s.lower .lift) := by
  obtain e | e := high <;> simp [State.answerLift, liftFitted_of_params fitted, e]

theorem State.answerLift_raise_of_unconfigured (control : s.supervisor.control = .unconfigured) :
    s.answerLift .raise = (.refused .unconfigured, s) := by
  simp [State.answerLift, liftFitted_of_params fitted, control]

theorem State.answerLift_raise_of_suspended (control : s.supervisor.control = .suspended) :
    s.answerLift .raise = (.refused .interlocked, s) := by
  simp [State.answerLift, liftFitted_of_params fitted, control]

/-- While RUNNING the answer to RAISE is the one of the lift state (R117). -/
theorem State.answerLift_raise_of_running (control : s.supervisor.control = .running) : s.answerLift .raise =
    if s.lift.state = .lowering then (.refused .busy, s) else if s.lift.state = .down then s.tryRaise
    else (.done [], s) := by
  cases state : s.lift.state <;> simp [State.answerLift, liftFitted_of_params fitted, control, state]

end

section
variable {code : Byte} {a : LiftAction}

theorem readBody_lift (named : liftActionOf code = some a) : readBody isParam .lift [code] = .ok (.lift a) := by
  show codeOr ((liftActionOf code).map .lift) = _
  rw [named]
  rfl

variable (h : s.Serving) (named : liftActionOf code = some a) (tag : Byte)
include h named

/-- A LIFT request as a command: its owner takes it. -/
theorem request_lift_taken {answer : Answer} {t : State} (answered : s.heard.answerLift a = (answer, t))
    (taken : ∀ reason, answer ≠ .refused reason) : request .lift tag [code] s = t.completed .lift tag answer := by
  have stays : (s.heard.answerLift a).2.link.restartPending = false :=
    ConfigClosed.answerLift_closed noRestart_closed a h.1.heard.2
  exact request_served h tag (readBody_lift named) answered taken (by rwa [answered] at stays)

/-- So of a request that finds nothing to do. -/
theorem request_lift_idle (answered : s.heard.answerLift a = (.done [], s.heard)) :
    request .lift tag [code] s = .next (s.heard.replied .lift tag (.done [])) :=
  (request_lift_taken h named tag answered fun _ => nofun).trans (completed_of_nil h.1.heard.1 ..)

theorem request_lift_refused {reason : Reason} (answered : s.heard.answerLift a = (.refused reason, s.heard)) :
    request .lift tag [code] s = s.refusedWith .lift tag reason :=
  request_refused_by_owner h tag (readBody_lift named) answered

end
end

/-- Settles O47: each answer by the state it finds, and each act by what starts it. -/
theorem liftRequests : Obligations.LiftRequests := by
  refine ⟨fun tag s h absent => ?absent, fun tag s h fitted => ?fitted, fun s m since due => ?dwellEnd,
    fun s fitted reconciled => ?starts, fun s cls idle => lower_of_idle idle cls, fun s fitted reconciled => ?stall,
    fun s => liftStalled_of_idle, fun s sev => ?unavailable, fun s => ?dwell, fun s side r => ?loads⟩
  case absent =>
    have answered (a : LiftAction) : s.heard.answerLift a = (.refused .noSuchCircuit, s.heard) :=
      answerLift_of_unfitted (s := s.heard) absent a
    simp only [List.forall_mem_cons, List.not_mem_nil, false_implies, implies_true, and_true]
    exact ⟨request_lift_refused h (code := 0#8) (a := .raise) rfl tag (answered _),
      request_lift_refused h (code := 1#8) (a := .lower) rfl tag (answered _),
      request_lift_refused h (code := 2#8) (a := .auto) rfl tag (answered _),
      request_lift_refused h (code := 3#8) (a := .manual) rfl tag (answered _)⟩
  case fitted =>
    have heardFitted : s.heard.params.p03 = .fitted := fitted
    refine ⟨request_lift_taken h (code := 2#8) rfl tag (answerLift_auto heardFitted) (fun _ => nofun),
      request_lift_taken h (code := 3#8) rfl tag (answerLift_manual heardFitted) (fun _ => nofun),
      fun low => ?lowerIdle, fun high => ?lowers, fun control => ?unconfigured, fun control => ?suspended,
      fun control => ?running⟩
    case lowerIdle => exact request_lift_idle h (code := 1#8) rfl tag (answerLift_lower_of_low heardFitted low)
    case lowers =>
      exact request_lift_taken h (code := 1#8) rfl tag (answerLift_lower_of_high heardFitted high) (fun _ => nofun)
    case unconfigured =>
      exact request_lift_refused h (code := 0#8) rfl tag (answerLift_raise_of_unconfigured heardFitted control)
    case suspended =>
      exact request_lift_refused h (code := 0#8) rfl tag (answerLift_raise_of_suspended heardFitted control)
    case running =>
      have answered := answerLift_raise_of_running heardFitted control
      refine ⟨fun high => ?_, fun lowering => ?_, fun down => ?_⟩
      · refine request_lift_idle h (code := 0#8) (a := .raise) rfl tag (answered.trans ?_)
        obtain e | e := high <;> rw [show s.heard.lift.state = _ from e] <;> rfl
      · exact request_lift_refused h (code := 0#8) rfl tag (answered.trans (if_pos lowering))
      · intro stalled clear light
        have barred : s.heard.liftBarred = true ↔ stalled := s.heard.liftBarred_iff
        have cleared : s.heard.liftClear = true ↔ clear := s.heard.liftClear_iff
        have lit : (s.heard.loadAllows .left = true ∧ s.heard.loadAllows .right = true) ↔ light :=
          Side.forall_iff.symm.trans (forall_congr' s.heard.loadAllows_iff)
        have tried : s.heard.answerLift .raise = s.heard.tryRaise := by
          rw [answered, show s.heard.lift.state = .down from down]
          rfl
        have tested := tried.trans s.heard.tryRaise_eq
        have refuses {reason : Reason} (e : s.heard.answerLift .raise = (.refused reason, s.heard)) :
            exec (.liftRaise tag) s = s.refusedWith .lift tag reason :=
          request_lift_refused h (code := 0#8) rfl tag e
        rw [← barred, ← cleared, ← lit]
        refine ⟨fun bar => refuses (tested.trans (if_pos bar)), fun free shut => refuses ?_,
          fun free way heavy => refuses ?_,
          fun free way allowed => request_lift_taken h (code := 0#8) (a := .raise) rfl tag ?_ (fun _ => nofun)⟩
        · rw [tested, if_neg free, if_pos shut]
        · rw [tested, if_neg free, if_neg (not_not_intro way), if_pos heavy]
        · rw [tested, if_neg free, if_neg (not_not_intro way), if_neg (not_not_intro allowed)]
  case dwellEnd =>
    rw [exec_liftDwellEnd_of_due since due, State.endDwell]
    refine ⟨fun may => ?_, fun barred idle => ?_⟩
    · rw [if_pos may]
      rfl
    · rw [if_neg (by simp [barred])]
      exact finish_of_nil idle
  case starts =>
    have acts := s.liftActs_iff.mpr ⟨fitted, reconciled⟩
    exact ⟨startRaise_of_down acts, fun cls high => lower_of_high acts high cls,
      fun lowering => ⟨lower_safety_of_lowering acts lowering, lower_lift_of_lowering lowering⟩,
      fun cls down => lower_of_down down cls⟩
  case stall =>
    intro asked stood down
    have stalls (moving : s.lift.state ≠ .down) : s.liftStalled =
        down.raiseUnavailable (if s.lift.state = .lowering then .critical else .degraded) :=
      liftStalled_of_moving (s.liftActs_iff.mpr ⟨fitted, reconciled⟩) moving
    refine ⟨fun high => ?_, fun lowering => ?_, liftStalled_of_down⟩
    · rw [stalls (by obtain e | e := high <;> rw [e] <;> decide),
        if_neg (by obtain e | e := high <;> rw [e] <;> decide)]
    · rw [stalls (by rw [lowering]; decide), if_pos lowering]
  case unavailable =>
    intro held
    have active : s.isActiveAt .liftUnavailable sev = true ↔ held := s.isActiveAt_iff ..
    rw [← active]
    exact ⟨fun k => if_pos k, fun k => if_neg k⟩
  case dwell =>
    intro runs
    have holds : s.dwellHolds = true ↔ runs := by
      rw [s.dwellHolds_iff]
      simp only [dwellLoad_iff]
      rfl
    rw [← holds]
    exact ⟨testDwell_of_holds, testDwell_of_not⟩
  case loads =>
    intro kept heavy
    have above : (kept.params.p84 = .auto ∧ (kept.overLifted .left = true ∨ kept.overLifted .right = true)) ↔
        heavy := by
      rw [← Side.exists_iff (p := fun d => kept.overLifted d = true)]
      simp only [overLifted_iff]
      rfl
    rw [← above]
    exact ⟨fun k => congrArg testDwell (if_pos k), fun k => congrArg testDwell (if_neg k), rfl⟩

end Sys2Proof.Machine
end

section
/-! CIRCUIT ISOLATE and PROBE: the tyre a request names, the isolation (O48) and the evaluation of a tyre (O49). -/

namespace Sys2Proof.Machine

open State

/-! ### The tyre a request names -/

theorem circuitTyre_of_le {c : CircuitId} (low : c.val ≤ 2) : circuitTyre c = none := dif_neg (by omega)

section
variable {s : State} {id : Byte} {c : CircuitId} {t : TyreId}

theorem State.namedTyre_of_gt (big : 14 < id.toNat) : s.namedTyre id = .error .badArgument := by
  rw [State.namedTyre, circuitOf_of_gt big]

theorem State.namedTyre_of_absent (e : id.toNat = c.val) (absent : (s.circuit c).state = .absent) :
    s.namedTyre id = .error .noSuchCircuit := by
  rw [State.namedTyre, circuitOf_of_toNat e]
  exact if_pos (by simp [State.isPresent, absent])

/-- A present circuit is named if it is a tyre's (R135, R137). -/
theorem State.namedTyre_of_present (e : id.toNat = c.val) (present : (s.circuit c).state ≠ .absent) :
    s.namedTyre id = (circuitTyre c).elim (.error .badArgument) .ok := by
  rw [State.namedTyre, circuitOf_of_toNat e]
  refine (if_neg (by simp [State.isPresent, present])).trans ?_
  cases circuitTyre c <;> rfl

theorem State.namedTyre_of_le (e : id.toNat = c.val) (present : (s.circuit c).state ≠ .absent) (low : c.val ≤ 2) :
    s.namedTyre id = .error .badArgument := by
  rw [namedTyre_of_present e present, circuitTyre_of_le low, Option.elim_none]

theorem State.namedTyre_of_tyre (e : id.toNat = t.val + 3) (present : (s.circuit (tyreCircuit t)).state ≠ .absent) :
    s.namedTyre id = .ok t := by
  rw [namedTyre_of_present (c := tyreCircuit t) e present, circuitTyre_tyreCircuit, Option.elim_some]

/-- A circuit in one of the states of an isolation, or of an evaluation, is in none of the others (R126, R133). -/
theorem CircuitState.ne_of_working {st : CircuitState} (h : st = .idle ∨ st = .waiting ∨ st = .holdoff) :
    st ≠ .absent ∧ st ≠ .active ∧ st ≠ .stalled ∧ st ≠ .isolated := by
  obtain rfl | rfl | rfl := h <;> decide

/-! ### ISOLATE -/

theorem State.answerIsolate_of_error {reason : Reason} (named : s.namedTyre id = .error reason) :
    s.answerIsolate id = (.refused reason, s) := by
  rw [State.answerIsolate, named]

/-- The answers to ISOLATE of a present tyre, by its state (R135). -/
theorem State.answerIsolate_of_tyre (e : id.toNat = t.val + 3)
    (present : (s.circuit (tyreCircuit t)).state ≠ .absent) : s.answerIsolate id =
      if (s.circuit (tyreCircuit t)).state = .active then (.refused .busy, s)
      else if (s.circuit (tyreCircuit t)).state = .stalled then (.refused .stalled, s)
      else if (s.circuit (tyreCircuit t)).state = .isolated then (.done [], s)
      else (.done [], s.isolate t .request 0) := by
  rw [State.answerIsolate, namedTyre_of_tyre e present]
  dsimp only
  cases (s.circuit (tyreCircuit t)).state <;> rfl

/-- ISOLATE as a command: its owner refuses it. -/
theorem exec_circuitIsolate_refused (h : s.Serving) {reason : Reason} (tag : Byte)
    (answered : s.heard.answerIsolate id = (.refused reason, s.heard)) :
    exec (.circuitIsolate tag id) s = s.refusedWith .circuit tag reason :=
  request_refused_by_owner h (body := [1#8, id]) (r := .circuit .isolate id) tag rfl answered

/-- ISOLATE as a command: its owner answers DONE. -/
theorem exec_circuitIsolate_done (h : s.Serving) {u : State} (tag : Byte)
    (answered : s.heard.answerIsolate id = (.done [], u)) :
    exec (.circuitIsolate tag id) s = u.completed .circuit tag (.done []) := by
  have stays : (s.heard.answerIsolate id).2.link.restartPending = false :=
    CoreClosed.answerIsolate_closed noRestart_closed.toCoreClosed id h.1.heard.2
  exact request_served h (body := [1#8, id]) (r := .circuit .isolate id) tag rfl answered (fun _ => nofun)
    (by rwa [answered] at stays)

end

/-! ### The isolation -/

section
variable (s : State) (t : TyreId) (cause : IsolationCause) (v : Nat)

/-- The isolation in its parts, its severity by its cause (R134). -/
theorem State.isolate_eq :
    let c := tyreCircuit t
    let sev : Severity := if cause = .request then .degraded else .critical
    s.isolate t cause v = ((((s.removeDemand c).setCircuit c
      { s.circuit c with state := .isolated, holdoffEnd := none }).setTyre t
        { s.tyre t with cause := some cause }).raise (.tyreIsolated t) sev).logEvent .tyreIsolated sev (some c)
          (some v) := by
  cases cause <;> rfl

theorem State.isolate_circuits : (s.isolate t cause v).circuits = (s.setCircuit (tyreCircuit t)
    { s.circuit (tyreCircuit t) with state := .isolated, holdoffEnd := none }).circuits := by
  rw [State.isolate_eq, logEvent_circuits]
  exact setConditions_circuits ..

theorem State.isolate_circuit_same : (s.isolate t cause v).circuit (tyreCircuit t) =
    { s.circuit (tyreCircuit t) with state := .isolated, holdoffEnd := none } := by
  unfold State.circuit
  rw [isolate_circuits]
  exact setCircuit_circuit ..

theorem State.isolate_tyres :
    (s.isolate t cause v).tyres = (s.setTyre t { s.tyre t with cause := some cause }).tyres := by
  rw [State.isolate_eq, logEvent_tyres]
  exact setConditions_tyres ..

theorem State.isolate_tyre_same : (s.isolate t cause v).tyre t = { s.tyre t with cause := some cause } := by
  unfold State.tyre
  rw [isolate_tyres]
  exact setTyre_tyre ..

theorem State.removeDemand_demandOf_same (c : CircuitId) : (s.removeDemand c).demandOf c = none := by
  simp [State.demandOf, State.removeDemand, State.setDemands]

theorem State.isolate_demandOf_same : (s.isolate t cause v).demandOf (tyreCircuit t) = none := by
  have same : (s.isolate t cause v).scheduler = (s.removeDemand (tyreCircuit t)).scheduler := by
    rw [State.isolate_eq, logEvent_scheduler]
    exact setConditions_scheduler ..
  rw [State.demandOf, same]
  exact s.removeDemand_demandOf_same _

theorem State.isolate_isActive_same : (s.isolate t cause v).isActive (.tyreIsolated t) = true := by
  rw [State.isolate_eq, logEvent_isActive, raise_isActive_same]

theorem State.isolate_engine : (s.isolate t cause v).engine = s.engine := by
  rw [State.isolate_eq, logEvent_engine]
  exact setConditions_engine ..

theorem State.isolate_valves : (s.isolate t cause v).driver.valves = s.driver.valves := by
  rw [State.isolate_eq, logEvent_driver]
  exact setConditions_driver_valves ..

end

/-- Settles O48: the request by the tyre it names and the state it meets, the isolation part by part. -/
theorem isolateRequest : Obligations.IsolateRequest := by
  refine ⟨fun tag id s ready starting => request_refused_while_starting ready starting rfl rfl tag _,
    fun tag id s h big => exec_circuitIsolate_refused h tag (answerIsolate_of_error (namedTyre_of_gt big)),
    fun tag id c s h e absent =>
      exec_circuitIsolate_refused h tag (answerIsolate_of_error (namedTyre_of_absent e absent)),
    fun tag id c s h e present low =>
      exec_circuitIsolate_refused h tag (answerIsolate_of_error (namedTyre_of_le e present low)),
    fun tag id t s h e => ?tyre,
    fun s t cause v => ⟨isolate_circuit_same .., congrArg _ (s.isolate_tyre_same t cause v), isolate_demandOf_same ..,
      isolate_isActive_same .., isolate_engine .., isolate_valves ..⟩,
    isolate_eq⟩
  intro state
  have answered (present : state ≠ .absent) := answerIsolate_of_tyre (s := s.heard) e present
  refine ⟨fun active => exec_circuitIsolate_refused h tag ?_, fun stalled => exec_circuitIsolate_refused h tag ?_,
    fun isolated => ?_, fun working => exec_circuitIsolate_done h tag ?_⟩
  · exact (answered (by rw [active]; decide)).trans (if_pos active)
  · rw [answered (by rw [stalled]; decide), show (s.heard.circuit (tyreCircuit t)).state = _ from stalled]
    rfl
  · refine (exec_circuitIsolate_done h tag ?_).trans (completed_of_nil h.1.heard.1 ..)
    rw [answered (by rw [isolated]; decide), show (s.heard.circuit (tyreCircuit t)).state = _ from isolated]
    rfl
  · obtain ⟨present, active, stalled, isolated⟩ := CircuitState.ne_of_working working
    exact (answered present).trans ((if_neg active).trans ((if_neg stalled).trans (if_neg isolated)))

/-! ### The evaluation of a tyre -/

section
variable {s : State} {t : TyreId}

theorem State.evaluateTyre_of_resting (h : (s.circuit (tyreCircuit t)).state = .absent ∨
    (s.circuit (tyreCircuit t)).state = .stalled ∨ (s.circuit (tyreCircuit t)).state = .isolated ∨
      (s.circuit (tyreCircuit t)).state = .active) : s.evaluateTyre t = s := by
  unfold State.evaluateTyre
  obtain e | e | e | e := h <;> rw [e]

/-- In IDLE, WAITING and HOLDOFF a tyre asks for what R126 says, or withdraws (R126, R127). -/
theorem State.evaluateTyre_of_working (h : (s.circuit (tyreCircuit t)).state = .idle ∨
    (s.circuit (tyreCircuit t)).state = .waiting ∨ (s.circuit (tyreCircuit t)).state = .holdoff) :
    s.evaluateTyre t = (s.tyreWant t).elim (s.withdraw (tyreCircuit t)) fun a =>
      s.join (tyreCircuit t) a (if (s.tyre t).leaking then .level else .tyre) := by
  unfold State.evaluateTyre
  obtain e | e | e := h <;> rw [e] <;> cases s.tyreWant t <;> rfl

/-- In HOLDOFF neither a join nor a withdrawal takes effect (R63, R65). -/
theorem State.evaluateTyre_of_holdoff (h : (s.circuit (tyreCircuit t)).state = .holdoff) : s.evaluateTyre t = s := by
  rw [evaluateTyre_of_working (.inr (.inr h))]
  cases s.tyreWant t with
  | none => exact if_neg (by rw [h]; decide)
  | some a => exact join_of_other (by rw [h]; decide) (by rw [h]; decide)

theorem State.tyreWant_of_invalid (invalid : s.isValid 4 = false) : s.tyreWant t = none :=
  if_pos (by rw [invalid]; rfl)

section
variable (valid : s.isValid 4 = true)
include valid

theorem State.tyreWant_of_due (h : (s.circuit (tyreCircuit t)).probeDue = true ∨
    (s.circuit (tyreCircuit t)).measured = none) : s.tyreWant t = some .probe := by
  refine (if_neg (by rw [valid]; decide)).trans ?_
  obtain due | unmeasured := h
  · rw [due]
  · rw [unmeasured]
    cases (s.circuit (tyreCircuit t)).probeDue <;> rfl

variable (due : (s.circuit (tyreCircuit t)).probeDue = false)
include due

theorem State.tyreWant_of_untargeted (measured : (s.circuit (tyreCircuit t)).measured ≠ none)
    (untargeted : (s.circuit (tyreCircuit t)).target = none) : s.tyreWant t = none := by
  obtain ⟨m, read⟩ := Option.ne_none_iff_exists'.mp measured
  refine (if_neg (by rw [valid]; decide)).trans ?_
  rw [due, read, untargeted]

/-- Measured and with a target, a tyre asks by its deadband (R126, rows 5 to 9). -/
theorem State.tyreWant_of_targeted {m g : Nat} (measured : (s.circuit (tyreCircuit t)).measured = some m)
    (target : (s.circuit (tyreCircuit t)).target = some g) : s.tyreWant t =
      if m + s.params.p60 < g then (if s.shortfallHeld t m g = true then none else some .fill)
      else if g + s.params.p61 < m ∧ (s.circuit (tyreCircuit t)).frozen = false then some .deflate else none := by
  refine (if_neg (by rw [valid]; decide)).trans ?_
  rw [due, measured, target]
  simp only [Bool.not_eq_true']

end

theorem State.shortfallHeld_iff (s : State) (t : TyreId) (m g : Nat) : s.shortfallHeld t m g = true ↔
    s.params.p53 ≤ m ∧ ((s.circuit (tyreCircuit t)).frozen = true ∨
      ((s.tyre t).watch = true ∧ g ≤ m + s.params.p66)) := by
  simp [State.shortfallHeld]

/-! ### PROBE -/

variable {id : Byte}

theorem State.answerProbe_of_error {reason : Reason} (named : s.namedTyre id = .error reason) :
    s.answerProbe id = (.refused reason, s) := by
  rw [State.answerProbe, named]

/-- The answers to PROBE of a present tyre, by its state (R137). -/
theorem State.answerProbe_of_tyre (e : id.toNat = t.val + 3)
    (present : (s.circuit (tyreCircuit t)).state ≠ .absent) : s.answerProbe id =
      if (s.circuit (tyreCircuit t)).state = .active then (.refused .busy, s)
      else if (s.circuit (tyreCircuit t)).state = .stalled then (.refused .stalled, s)
      else if (s.circuit (tyreCircuit t)).state = .isolated then (.refused .interlocked, s)
      else (.done [], (s.setProbeDue t).evaluateTyre t) := by
  rw [State.answerProbe, namedTyre_of_tyre e present]
  dsimp only
  cases (s.circuit (tyreCircuit t)).state <;> rfl

/-- PROBE as a command: its owner refuses it. -/
theorem exec_circuitProbe_refused (h : s.Serving) {reason : Reason} (tag : Byte)
    (answered : s.heard.answerProbe id = (.refused reason, s.heard)) :
    exec (.circuitProbe tag id) s = s.refusedWith .circuit tag reason :=
  request_refused_by_owner h (body := [2#8, id]) (r := .circuit .probe id) tag rfl answered

/-- PROBE taken: the tyre is probe due and evaluated (R137). -/
theorem exec_circuitProbe_taken (h : s.Serving) (tag : Byte) (e : id.toNat = t.val + 3)
    (working : (s.circuit (tyreCircuit t)).state = .idle ∨ (s.circuit (tyreCircuit t)).state = .waiting ∨
      (s.circuit (tyreCircuit t)).state = .holdoff) : exec (.circuitProbe tag id) s =
        ((s.heard.setProbeDue t).evaluateTyre t).completed .circuit tag (.done []) := by
  obtain ⟨present, active, stalled, isolated⟩ := CircuitState.ne_of_working working
  refine request_served h (body := [2#8, id]) (r := .circuit .probe id) tag rfl ?_ (fun _ => nofun)
    (CoreClosed.demandProbe_closed noRestart_closed.toCoreClosed t h.1.heard.2)
  exact (answerProbe_of_tyre (s := s.heard) e present).trans
    ((if_neg active).trans ((if_neg stalled).trans (if_neg isolated)))

theorem State.setProbeDue_state (s : State) (t : TyreId) :
    ((s.setProbeDue t).circuit (tyreCircuit t)).state = (s.circuit (tyreCircuit t)).state := by
  rw [State.setProbeDue, setCircuit_circuit]

end

/-- Settles O49: the request by the tyre it names and the state it meets, the evaluation by what the tyre wants. -/
theorem probeRequest : Obligations.ProbeRequest := by
  refine ⟨fun tag id s ready starting => request_refused_while_starting ready starting rfl rfl tag _,
    fun tag id s h big => exec_circuitProbe_refused h tag (answerProbe_of_error (namedTyre_of_gt big)),
    fun tag id c s h e absent => exec_circuitProbe_refused h tag (answerProbe_of_error (namedTyre_of_absent e absent)),
    fun tag id c s h e present low =>
      exec_circuitProbe_refused h tag (answerProbe_of_error (namedTyre_of_le e present low)),
    fun tag id t s h e => ?tyre, fun s t => ?evaluation⟩
  case tyre =>
    intro r due
    have answered (present : r.state ≠ .absent) := answerProbe_of_tyre (s := s.heard) e present
    refine ⟨fun active => exec_circuitProbe_refused h tag ?_, fun stalled => exec_circuitProbe_refused h tag ?_,
      fun isolated => exec_circuitProbe_refused h tag ?_,
      fun working => exec_circuitProbe_taken h tag e (or_assoc.mp (.inl working)), fun holdoff => ?_⟩
    · exact (answered (by rw [active]; decide)).trans (if_pos active)
    · rw [answered (by rw [stalled]; decide), show (s.heard.circuit (tyreCircuit t)).state = _ from stalled]
      rfl
    · rw [answered (by rw [isolated]; decide), show (s.heard.circuit (tyreCircuit t)).state = _ from isolated]
      rfl
    · have kept : (s.heard.setProbeDue t).evaluateTyre t = s.heard.setProbeDue t :=
        evaluateTyre_of_holdoff ((setProbeDue_state ..).trans holdoff)
      rw [exec_circuitProbe_taken h tag e (.inr (.inr holdoff)), kept]
      exact completed_of_nil (t := s.heard.setProbeDue t) h.1.heard.1 ..
  case evaluation =>
    intro c r cls
    refine ⟨evaluateTyre_of_resting, fun working => ?_⟩
    have evaluated := evaluateTyre_of_working working
    refine ⟨fun invalid => ?_, fun valid => ⟨fun probes => ?_, fun due measured untargeted => ?_,
      fun m g due measured target => ?_⟩⟩
    · rw [evaluated, tyreWant_of_invalid invalid, Option.elim_none]
    · rw [evaluated, tyreWant_of_due valid probes, Option.elim_some]
    · rw [evaluated, tyreWant_of_untargeted valid due measured untargeted, Option.elim_none]
    · intro heldBack
      have held : s.shortfallHeld t m g = true ↔ heldBack := s.shortfallHeld_iff t m g
      rw [tyreWant_of_targeted valid due measured target] at evaluated
      refine ⟨fun short keep => ?_, fun short go => ?_, fun enough above thawed => ?_, fun enough within => ?_⟩
      · rw [evaluated, if_pos short, if_pos (held.mpr keep), Option.elim_none]
      · rw [evaluated, if_pos short, if_neg (mt held.mp go), Option.elim_some]
      · rw [evaluated, if_neg (not_lt.mpr enough), if_pos ⟨above, thawed⟩, Option.elim_some]
      · have kept : ¬(g + s.params.p61 < m ∧ r.frozen = false) := fun ⟨above, thawed⟩ =>
          within.elim (not_le.mpr above) (by simp [thawed])
        rw [evaluated, if_neg (not_lt.mpr enough), if_neg kept, Option.elim_none]

end Sys2Proof.Machine
end

section
/-! The leak measurement, TYRE_LEAK and TYRE_LOW, the isolation tests, and the hand-over of a tyre's transaction
(O51). -/

namespace Sys2Proof.Machine

open State

/-! ### The leak rate -/

/-- The leak rate is the rounded quotient, held at 32767 (R130). -/
theorem State.leakRateOf_eq (q p e : Nat) : leakRateOf q p e = min 32767 (roundDiv ((q - p) * 600000) e) := by
  rw [State.leakRateOf, Nat.mul_assoc]
  rfl

theorem State.leakRateOf_le (q p e : Nat) : leakRateOf q p e ≤ 32767 := Nat.min_le_left ..

/-- Between the bounds of a rounding, or held at the limit with the exact quotient at least there (R130). -/
theorem State.leakRateOf_bounds (q p : Nat) {e : Nat} (elapsed : 0 < e) :
    (leakRateOf q p e = 32767 ∧ 2 * e * 32767 ≤ 2 * ((q - p) * 600000) + e) ∨
      (2 * e * leakRateOf q p e ≤ 2 * ((q - p) * 600000) + e ∧
        2 * ((q - p) * 600000) + e < 2 * e * (leakRateOf q p e + 1)) := by
  obtain ⟨low, high⟩ := roundDiv_bounds (n := (q - p) * 600000) elapsed
  rw [leakRateOf_eq]
  obtain held | exact_ := Nat.le_total 32767 (roundDiv ((q - p) * 600000) e)
  · rw [Nat.min_eq_left held]
    exact .inl ⟨rfl, (Nat.mul_le_mul_left _ held).trans low⟩
  · rw [Nat.min_eq_right exact_]
    exact .inr ⟨low, high⟩

/-- A rise gives 0 (R130). -/
theorem State.leakRateOf_rise {q p e : Nat} (elapsed : 0 < e) (rise : q ≤ p) : leakRateOf q p e = 0 := by
  have still : roundDiv 0 e ≤ 0 := roundDiv_le elapsed (Nat.zero_le _)
  rw [leakRateOf_eq, Nat.sub_eq_zero_of_le rise, Nat.zero_mul]
  omega

section
variable {s : State} {t : TyreId} {p : Nat}

theorem State.computedRate_of_first (first : (s.circuit (tyreCircuit t)).previousProbe = none) :
    s.computedRate t p = none := by
  rw [State.computedRate, first]

/-- A rate is computed 10 s after the previous probe, not before (R130). -/
theorem State.computedRate_of_later {q : Probe} (later : (s.circuit (tyreCircuit t)).previousProbe = some q) :
    s.computedRate t p =
      if 10000 ≤ s.now - q.mark then some (leakRateOf q.pressure p (s.now - q.mark)) else none := by
  rw [State.computedRate, later]
  rfl

theorem State.measureLeak_of_first (first : (s.circuit (tyreCircuit t)).previousProbe = none) :
    s.measureLeak t p = (s.setCircuit (tyreCircuit t)
      { s.circuit (tyreCircuit t) with previousProbe := some ⟨p, s.now⟩ }).setTyre t
        { s.tyre t with watch := true } := by
  unfold State.measureLeak
  dsimp only
  rw [first]

theorem State.measureLeak_of_early {q : Probe} (later : (s.circuit (tyreCircuit t)).previousProbe = some q)
    (unrated : s.computedRate t p = none) : s.measureLeak t p = s := by
  unfold State.measureLeak
  dsimp only
  rw [later, unrated]

theorem State.measureLeak_of_rate {q : Probe} {rate : Nat}
    (later : (s.circuit (tyreCircuit t)).previousProbe = some q) (rated : s.computedRate t p = some rate) :
    s.measureLeak t p = (s.setCircuit (tyreCircuit t)
      { s.circuit (tyreCircuit t) with previousProbe := some ⟨p, s.now⟩, leakRate := some rate }).setTyre t
        { s.tyre t with watch := false } := by
  unfold State.measureLeak
  dsimp only
  rw [later, rated]

/-! ### TYRE_LEAK and TYRE_LOW -/

/-- TYRE_LEAK is raised at P64 and cleared below half of it (R131). -/
theorem State.judgeLeak_eq (s : State) (t : TyreId) (rate : Nat) : s.judgeLeak t rate =
    if s.params.p64 ≤ rate ∧ (s.tyre t).leaking = false then
      ((s.setTyre t { s.tyre t with leaking := true }).raise (.tyreLeak t) .degraded).logEvent .tyreLeak .degraded
        (some (tyreCircuit t)) (some rate)
    else if 2 * rate < s.params.p64 ∧ (s.tyre t).leaking = true then
      (s.setTyre t { s.tyre t with leaking := false }).clear (.tyreLeak t)
    else s := by
  simp only [State.judgeLeak, Bool.not_eq_true']

theorem State.judgeLow_of_unjudged (h : (s.circuit (tyreCircuit t)).measured = none ∨
    (s.circuit (tyreCircuit t)).target = none) :
    s.judgeLow t = (s.setTyre t { s.tyre t with low := false }).clear (.tyreLow t) := by
  unfold State.judgeLow
  dsimp only
  obtain e | e := h
  · rw [e]
  · rw [e]
    cases (s.circuit (tyreCircuit t)).measured <;> rfl

/-- TYRE_LOW is judged by how far the measured value lies below the target (R132). -/
theorem State.judgeLow_of_target {m g : Nat} (measured : (s.circuit (tyreCircuit t)).measured = some m)
    (target : (s.circuit (tyreCircuit t)).target = some g) : s.judgeLow t =
      if m + s.params.p66 < g then
        if (s.tyre t).low = true then s
        else ((s.setTyre t { s.tyre t with low := true }).raise (.tyreLow t) .degraded).logEvent .tyreLow .degraded
          (some (tyreCircuit t)) (some m)
      else (s.setTyre t { s.tyre t with low := false }).clear (.tyreLow t) := by
  unfold State.judgeLow
  dsimp only
  rw [measured, target]

/-! ### The isolation tests -/

theorem State.isolable_iff (s : State) (t : TyreId) : s.isolable t = true ↔
    (s.circuit (tyreCircuit t)).state = .idle ∨ (s.circuit (tyreCircuit t)).state = .waiting ∨
      (s.circuit (tyreCircuit t)).state = .holdoff := by
  simp [State.isolable, or_assoc]

theorem State.testIsolation_of_not {rate : Option Nat} (h : ¬s.isolable t = true) : s.testIsolation t rate = s :=
  if_neg h

/-- A rate of at least P65 isolates as a leak (R133). -/
theorem State.testIsolation_of_leak {x : Nat} (takes : s.isolable t = true) (leaks : s.params.p65 ≤ x) :
    s.testIsolation t (some x) = s.isolate t .leak x := by
  unfold State.testIsolation
  rw [if_pos takes, Option.filter_some_pos (by simpa using leaks)]

/-- Without such a rate, a pressure below P53 isolates while the reserve is not NORMAL (R133). -/
theorem State.testIsolation_of_no_leak {rate : Option Nat} (takes : s.isolable t = true)
    (sound : ¬∃ x ∈ rate, s.params.p65 ≤ x) : s.testIsolation t rate =
      (s.circuit (tyreCircuit t)).measured.elim s fun m =>
        if m < s.params.p53 ∧ s.supervisor.reserve ≠ .normal then s.isolate t .reserve m else s := by
  have unheld : (rate.filter fun x => s.params.p65 ≤ x) = none := by
    simpa [Option.filter_eq_none_iff] using sound
  unfold State.testIsolation
  rw [if_pos takes, unheld]
  cases (s.circuit (tyreCircuit t)).measured <;> rfl

end

/-- Any other kind or outcome, and a transaction with no read value, gives no value to measure (R129, R130). -/
theorem measuredValue_eq_none {k : TransactionKind} {o : TransactionOutcome} {read : Option Nat}
    (h : k ≠ .probe ∨ o ≠ .effective ∨ read = none) :
    (if k = .probe ∧ o = .effective then read else none) = none := by
  split
  · rename_i probed
    obtain ⟨probe, effective⟩ := probed
    simpa [probe, effective] using h
  · rfl

/-- Settles O51: the measurement by the previous probe, each judgement by its tests, and the hand-over in its order. -/
theorem leakMeasurement : Obligations.LeakMeasurement := by
  refine ⟨fun s t p => ⟨fun first => ⟨computedRate_of_first first, measureLeak_of_first first⟩,
      fun q later early => ?early, fun q later late => ?late⟩,
    fun r t o e m moved opened => ?spoilt, by decide, fun s t p => ?probe, fun s t k o read other => ?other,
    fun s t rate => ?leak, fun s t => ⟨judgeLow_of_unjudged, fun m measured g target => ?low, rfl⟩,
    fun s t rate => ?isolation⟩
  case early =>
    have unrated : s.computedRate t p = none := (computedRate_of_later later).trans (if_neg (by omega))
    exact ⟨unrated, measureLeak_of_early later unrated⟩
  case late =>
    have rated := (computedRate_of_later (p := p) later).trans (if_pos late)
    have elapsed : 0 < s.now - q.mark := by omega
    exact ⟨_, rated, leakRateOf_le .., leakRateOf_bounds _ _ elapsed, leakRateOf_rise elapsed,
      measureLeak_of_rate later rated⟩
  case spoilt =>
    have spoils : t.spoilsProbe = true := by simp [Transaction.spoilsProbe, moved, opened]
    exact if_pos spoils
  case probe =>
    intro measured judged u
    unfold State.tyreReturned
    extract_lets probed rate measuring leaking low tested timed
    have probed_eq : probed = some p := if_pos ⟨rfl, rfl⟩
    have rate_eq : rate = s.computedRate t p := by simp only [rate, probed_eq, Option.bind_some]
    have leaking_eq : leaking = judged := by
      simp only [leaking, measuring, rate_eq, probed_eq]
      rfl
    have low_eq : low = judged.judgeLow t := (if_pos rfl).trans (congrArg (judgeLow · t) leaking_eq)
    have timed_eq : timed = u :=
      congrArg₂ (fun w x => (State.testIsolation w t x).judgeInterval t) low_eq rate_eq
    exact congrArg
      (fun w : State => if (w.circuit (tyreCircuit t)).state = .idle then w.evaluateTyre t else w) timed_eq
  case other =>
    unfold State.tyreReturned
    rw [measuredValue_eq_none other]
    cases read <;> rfl
  case leak =>
    rw [judgeLeak_eq]
    refine ⟨fun high calm => if_pos ⟨high, calm⟩, fun low leaking => ?_, fun low calm => ?_, fun high leaking => ?_⟩
    · rw [if_neg (by simp [leaking]), if_pos ⟨low, leaking⟩]
    · rw [if_neg (by omega), if_neg (by simp [calm])]
    · rw [if_neg (by simp [leaking]), if_neg (by omega)]
  case low =>
    have judged := judgeLow_of_target measured target
    refine ⟨fun short low => ?_, fun short fresh => ?_, fun enough => judged.trans (if_neg (not_lt.mpr enough))⟩
    · rw [judged, if_pos short, if_pos low]
    · rw [judged, if_pos short, if_neg (by simp [fresh])]
  case isolation =>
    intro r takes leaks gone
    have isolable : s.isolable t = true ↔ takes := s.isolable_iff t
    rw [← isolable]
    refine ⟨testIsolation_of_not, fun take leaking => ?_, fun take sound empty => ?_, fun take sound full => ?_⟩
    · obtain ⟨x, computed, high⟩ := leaking
      obtain rfl : rate = some x := computed
      exact testIsolation_of_leak take high
    · obtain ⟨judged, m, measured, low⟩ := empty
      rw [testIsolation_of_no_leak take sound, show (s.circuit (tyreCircuit t)).measured = some m from measured]
      exact if_pos ⟨low, judged⟩
    · rw [testIsolation_of_no_leak take sound]
      cases measured : (s.circuit (tyreCircuit t)).measured with
      | none => rfl
      | some m => exact if_neg fun ⟨low, judged⟩ => full ⟨judged, m, measured, low⟩

end Sys2Proof.Machine
end

section
/-! The two resets (O4, O5): POWER_ON_RESET, and the restart with the four items that it keeps. -/

namespace Sys2Proof.Machine

open State

/-- Settles O4: the reset leaves no hand-off, so it is the whole command. -/
theorem powerOnResetKeepsTheImage : Obligations.PowerOnResetKeepsTheImage := fun s => finish_of_nil (s := s.powerOn) rfl

/-- A capture writes the Event Queue and its overrun flag alone, and reads no other item (R165). -/
theorem capture_of_same {d e : EventUnit} (queue : e.queue = d.queue) (overrun : e.overrun = d.overrun)
    (r : EventRecord) :
    capture r e = { e with queue := (capture r d).queue, overrun := (capture r d).overrun } := by
  unfold capture
  rw [queue]
  split
  · rw [← overrun]
  · rfl

/-- An event of a captured severity whose notice is not selected sets its flag and is captured, and nothing else
(R161, R164). -/
theorem State.logEvent_unnoticed {s : State} {sev : Severity} (captured : hasSeverity s.params.p93 sev = true)
    (unnoticed : hasSeverity s.params.p94 sev = false) (kind : EventKind) (circuit : Option CircuitId)
    (value : Option Int) : s.logEvent kind sev circuit value =
      s.setEvents (capture ⟨s.events.timeTag, kind, sev, circuit, value.map (clampInt (-32768) 32767)⟩
        { s.events with detected := addSeverity s.events.detected sev }) := by
  unfold State.logEvent
  dsimp only
  rw [if_pos captured]
  exact if_neg (by simp [unnoticed])

/-- A restart: RESTARTED is the first event after the values of the reset (R148). -/
theorem State.doRestart_eq (s : State) : s.doRestart =
    (afterReset s.now (interruptedImage s.store s.now) s.sensing.ramp.noClosed s.sensing.ramp.ncClosed
      s.sensing.position.raw s.pending).setEvents
        (capture ⟨s.events.timeTag, .restarted, .advisory, none, some 0⟩
          { timeTag := s.events.timeTag, nextAdvance := s.events.nextAdvance, queue := s.events.queue,
            overrun := s.events.overrun, detected := s.events.detected ||| 1#4, conditions := [], testEnd := none }) :=
  have captured : hasSeverity Params.defaults.p93 .advisory = true := by decide
  have unnoticed : hasSeverity Params.defaults.p94 .advisory = false := by decide
  State.logEvent_unnoticed captured unnoticed ..

/-- Settles O5: each of the two commands finds the reply at the head and the restart pending, and takes effect. -/
theorem restartKeepsFourItems : Obligations.RestartKeepsFourItems := by
  intro s head due kept t
  have restarted : s.doRestart = t := by
    refine s.doRestart_eq.trans (congrArg (setEvents _) ?_)
    exact capture_of_same (d := s.events) (by rfl) (by rfl) _
  have effect (other : State) : finish (if s.restartAtHead ∧ s.link.restartPending then s.doRestart else other) =
      .next t := by
    rw [if_pos ⟨head, due⟩, restarted]
    exact finish_of_nil rfl
  exact ⟨effect s, effect _⟩

end Sys2Proof.Machine
end

section
/-! The check of a telegram and the refusals for its KIND, its length or its codes (O13). -/

namespace Sys2Proof.Machine

open State

/-! ### The check (R152) -/

/-- The two bytes of a word tell it (R162). -/
theorem bytes2_inj {v w : Word} (h : bytes2 v.toNat = bytes2 w.toNat) : v = w := by
  obtain ⟨hi, lo⟩ := List.cons.inj h
  rw [← word2_wordBytes v, hi, (List.cons.inj lo).1, word2_wordBytes]

/-- Any other CHECK makes a telegram invalid (R152). -/
theorem validTelegram_of_wrong_check {kind tag : Byte} {body : List Byte} (short : body.length ≤ 48) {w : Word}
    (wrong : w ≠ checkWord (byteOf body.length :: kind :: tag :: body)) :
    validTelegram ([0xC3#8, byteOf body.length, kind, tag] ++ body ++ bytes2 w.toNat) = none := by
  have len : (byteOf body.length).toNat = body.length := by
    rw [byteOf_toNat]
    omega
  simpa [validTelegram, len] using fun _ _ _ => mt bytes2_inj wrong

/-- The reception of a valid telegram of any KIND is its handling (R152, R153). -/
theorem exec_frame (kind tag : Byte) {body : List Byte} (short : body.length ≤ 48) (s : State) :
    exec (.telegramReceived (frame kind tag body)) s = finish (s.handle kind tag body) := by
  show finish (s.receive _) = _
  unfold State.receive
  rw [validTelegram_frame kind tag short]

/-- A telegram that is not valid changes nothing (R152). -/
theorem exec_telegramReceived_invalid {chars : List Byte} (invalid : validTelegram chars = none) {s : State}
    (idle : s.deferred = []) : exec (.telegramReceived chars) s = .next s := by
  show finish (s.receive chars) = _
  unfold State.receive
  rw [invalid]
  exact finish_of_nil idle

/-- A telegram that arrives while a restart is pending is heard and discarded (R153 step 2). -/
theorem State.handle_of_restartPending {s : State} (pending : s.link.restartPending = true) (kind tag : Byte)
    (body : List Byte) : s.handle kind tag body = s.linkHeard := by
  have heard : s.linkHeard.link.restartPending = true := by
    rw [← pending]
    unfold State.linkHeard State.reportRestored
    dsimp only
    split
    · rfl
    · split
      · simp [startSummary, clear]
      · rfl
  exact if_pos heard

/-! ### The refusals of R153 step 4 -/

/-- A telegram of any KIND handled while the link is ready (R153 steps 1 to 6). -/
theorem State.handle_of_ready {s : State} (h : s.Ready) (kind tag : Byte) (body : List Byte) :
    s.handle kind tag body =
      let x := s.heard.judgeAndCarryOut kind body
      x.2.placeReply (replyTo kind tag x.1 (if x.2.link.restartPending then .restartReply else .reply)) := by
  obtain ⟨up, pending, room, _⟩ := h
  unfold State.handle
  rw [State.linkHeard_of_up up]
  dsimp only
  rw [if_neg (by simpa using pending)]
  unfold State.carryOut
  rw [State.securePlace_of_room (by simpa using room)]
  rfl

/-- A telegram of any KIND that is judged to be refused, with no load to abort: the refusal is noted and replied,
and nothing else happens (R153). -/
theorem exec_frame_refused {s : State} (h : s.Ready) {kind : Byte} {body : List Byte} {reason : Reason} (tag : Byte)
    (short : body.length ≤ 48) (judged : s.heard.judgeRequest kind body = .error reason)
    (spared : s.heard.mustAbortLoad kind = false) :
    exec (.telegramReceived (frame kind tag body)) s = .next ((s.heard.noteRefusal kind (.refused reason)).placeReply
      (replyTo kind tag (.refused reason) .reply)) := by
  obtain ⟨idle, stays⟩ := h.heard
  have judgement : s.heard.judgeAndCarryOut kind body =
      (.refused reason, s.heard.noteRefusal kind (.refused reason)) := by
    unfold State.judgeAndCarryOut
    rw [judged]
    dsimp only
    rw [spared]
    rfl
  have noted : (s.heard.noteRefusal kind (.refused reason)).link.restartPending = false :=
    (s.heard.logEvent_link_restartPending ..).trans stays
  have handled : s.handle kind tag body = (s.heard.noteRefusal kind (.refused reason)).placeReply
      (replyTo kind tag (.refused reason) .reply) := by
    rw [State.handle_of_ready h, judgement]
    dsimp only
    rw [noted]
    rfl
  rw [exec_frame kind tag short, handled]
  exact finish_of_nil ((s.heard.logEvent_deferred ..).trans idle)

/-- The codes of R154 are those of the kinds. -/
theorem kindOf_eq_none {kind : Byte} (unnamed : kind.toNat ∉ allKinds.map fun k => k.code.toNat) :
    kindOf kind = none := by
  refine List.find?_eq_none.mpr fun k listed same => unnamed ?_
  rw [← eq_of_beq same]
  exact List.mem_map_of_mem listed

/-- A KIND that names no kind is refused in every control state, with no load aborted (R155). -/
theorem State.judgeRequest_of_unknown {kind : Byte} (unknown : kindOf kind = none) (s : State) (body : List Byte) :
    s.judgeRequest kind body = .error .unknownKind ∧ s.mustAbortLoad kind = false := by
  unfold State.judgeRequest State.mustAbortLoad
  simp [unknown]

/-- No refusal of a kind served while STARTING aborts the load (R155). -/
theorem Kind.abortsLoad_of_servedStarting {k : Kind} (served : k.servedStarting = true) : k.abortsLoad = false := by
  revert served
  cases k <;> decide

/-- A served kind's body that does not read as a request is refused with the reason of its reading (R153). -/
theorem exec_frame_unread {s : State} (h : s.Ready) {k : Kind} {body : List Byte} {reason : Reason}
    (served : s.supervisor.control = .starting → k.servedStarting = true) (tag : Byte) (short : body.length ≤ 48)
    (read : readBody isParam k body = .error reason) :
    exec (.telegramReceived (frame k.code tag body)) s = s.refusedWith k tag reason := by
  have judged : s.heard.judgeRequest k.code body = .error reason := by
    unfold State.judgeRequest
    rw [kindOf_code]
    exact (if_neg fun c => absurd (served c.1) (by simpa using c.2)).trans read
  have spared : s.heard.mustAbortLoad k.code = false := by
    unfold State.mustAbortLoad
    rw [kindOf_code, Bool.and_eq_false_imp]
    exact fun starting => Kind.abortsLoad_of_servedStarting (served (of_decide_eq_true starting))
  exact exec_frame_refused h tag short judged spared

/-- So of every kind once STARTING is left. -/
theorem exec_frame_unread_of_serving {s : State} (h : s.Serving) {k : Kind} {body : List Byte} {reason : Reason}
    (tag : Byte) (short : body.length ≤ 48) (read : readBody isParam k body = .error reason) :
    exec (.telegramReceived (frame k.code tag body)) s = s.refusedWith k tag reason :=
  exec_frame_unread h.1 (fun starting => absurd starting h.2) tag short read

/-! ### The reading of a body (R154, R161) -/

/-- The lengths R154 allows the bodies of the kinds served while STARTING. -/
def startingLengths : List (Kind × List Nat) :=
  [(.status, [0]), (.readCircuit, [1]), (.readSide, [1]), (.readSensors, [0]), (.events, [0])]

/-- The lengths R154 allows the bodies of the other kinds, but for GET_PARAM, SET_PARAM and PROFILE_PUT. -/
def controlLengths : List (Kind × List Nat) :=
  [(.setMode, [1, 3]), (.stepHeight, [1]), (.lift, [1]), (.circuit, [2]), (.survey, [0]), (.speed, [1]), (.clear, [0]),
    (.time, [4]), (.control, [1]), (.lampTest, [0]), (.profileBegin, [0]), (.profileEnd, [0]), (.profileReload, [0]),
    (.profileRead, [2])]

theorem servedStarting_of_startingLengths : ∀ x ∈ startingLengths, x.1.servedStarting = true := by decide

/-- The lengths R154 allows the body of a kind; none for the kinds whose length goes with what the body holds. -/
def allowedLengths : Kind → Option (List Nat)
  | .getParam | .setParam | .profilePut => none
  | .setMode => some [1, 3]
  | .time => some [4]
  | .circuit | .profileRead => some [2]
  | .readCircuit | .readSide | .stepHeight | .lift | .speed | .control => some [1]
  | .status | .readSensors | .survey | .events | .clear | .lampTest | .profileBegin | .profileEnd | .profileReload =>
    some [0]

theorem allowedLengths_of_mem : ∀ x ∈ startingLengths ++ controlLengths, allowedLengths x.1 = some x.2 := by decide

/-- A body whose length its kind does not allow is not read (R154). -/
theorem readBody_of_length {k : Kind} {lengths : List Nat} {body : List Byte}
    (allowed : allowedLengths k = some lengths) (unfit : body.length ∉ lengths) :
    readBody isParam k body = .error .badLength := by
  cases k
  case getParam | setParam | profilePut => cases allowed
  case setMode =>
    cases allowed
    match body, unfit with
    | [], _ | [_, _], _ | _ :: _ :: _ :: _ :: _, _ => rfl
    | [_], unfit | [_, _, _], unfit => simp at unfit
  case time =>
    cases allowed
    match body, unfit with
    | [], _ | [_], _ | [_, _], _ | [_, _, _], _ | _ :: _ :: _ :: _ :: _ :: _, _ => rfl
    | [_, _, _, _], unfit => simp at unfit
  case circuit | profileRead =>
    cases allowed
    match body, unfit with
    | [], _ | [_], _ | _ :: _ :: _ :: _, _ => rfl
    | [_, _], unfit => simp at unfit
  case readCircuit | readSide | stepHeight | lift | speed | control =>
    cases allowed
    match body, unfit with
    | [], _ | _ :: _ :: _, _ => rfl
    | [_], unfit => simp at unfit
  all_goals
    cases allowed
    match body, unfit with
    | _ :: _, _ => rfl
    | [], unfit => simp at unfit

/-- A GET_PARAM names its channel for P96, and nothing more for the others (R161). -/
theorem readGetParam_of_length {n : Byte} {value : List Byte} (param : isParam n.toNat = true)
    (unfit : value.length ≠ if n.toNat = 96 then 1 else 0) :
    readGetParam isParam (n :: value) = .error .badLength := by
  unfold readGetParam
  simp only [param, Bool.not_true, Bool.false_eq_true, if_false]
  by_cases calibration : n.toNat = 96
  · rw [if_pos calibration] at unfit
    match value, unfit with
    | [], _ => exact if_pos calibration
    | _ :: _ :: _, _ => rfl
  · rw [if_neg calibration] at unfit
    match value, unfit with
    | [_], _ => exact if_neg calibration
    | _ :: _ :: _, _ => rfl

theorem readSetParam_unknown {n : Byte} (unknown : isParam n.toNat = false) (value : List Byte) :
    readSetParam isParam (n :: value) = .error .badArgument := by
  simp [readSetParam, unknown]

theorem readSetParam_of_length {n : Byte} {value : List Byte} (param : isParam n.toNat = true)
    (unfit : valueLengthFits n.toNat value.length = false) :
    readSetParam isParam (n :: value) = .error .badLength := by
  simp [readSetParam, param, unfit]

/-- The lengths of R161 as they are tested. -/
theorem valueLengthFits_iff (n len : Nat) : valueLengthFits n len = true ↔
    if n = 51 ∨ n = 52 then len % 3 = 0 ∧ 2 ≤ len / 3 ∧ len / 3 ≤ (if n = 51 then 8 else 12)
    else if n = 96 then len = 7 else len = 2 := by
  unfold valueLengthFits
  split
  · simp [and_assoc]
  · split <;> simp

/-- The count of a record head stands in the low 6 bits of its second byte (R162). -/
theorem headCount_word2 (a b : Byte) : headCount (word2 a b) = b.toNat % 64 + 1 := by
  simp only [headCount, word2, nat2, BitVec.toNat_ofNat]
  omega

theorem readPut_of_count {a b : Byte} {rest : List Byte} (unfit : rest.length ≠ 2 * (b.toNat % 64 + 1)) (c d : Byte) :
    readPut (a :: b :: c :: d :: rest) = .error .badLength :=
  if_neg (by rwa [headCount_word2])

/-! ### The action codes (R154) -/

theorem liftActionOf_of_gt {a : Byte} (beyond : 3 < a.toNat) : liftActionOf a = none := by
  unfold liftActionOf
  split <;> first | omega | rfl

theorem circuitActionOf_of_gt {a : Byte} (beyond : 2 < a.toNat) : circuitActionOf a = none := by
  unfold circuitActionOf
  split <;> first | omega | rfl

theorem controlActionOf_of_gt {a : Byte} (beyond : 2 < a.toNat) : controlActionOf a = none := by
  unfold controlActionOf
  split <;> first | omega | rfl

/-- A code that names no action is no request (R154). -/
theorem codeOr_of_none {α : Type} {code : Option α} (f : α → Request) (unnamed : code = none) :
    codeOr (code.map f) = .error .badArgument := by
  rw [unnamed]
  rfl

/-- Settles O13: a telegram is valid by its CHECK alone, and each refusal is that of the reading of its body. -/
theorem telegramsAreChecked : Obligations.TelegramsAreChecked := by
  refine ⟨by decide +kernel, fun kind tag body s short => ⟨exec_frame kind tag short s, fun w wrong idle => ?check⟩,
    fun kind tag body s short pending => ?pending, fun kind tag body s short h unnamed => ?kind,
    fun tag body s short h => ⟨fun x listed unfit => ?always, fun started x listed unfit => ?fixed⟩,
    fun tag s h => ?unnumbered, fun tag n value s short h => ⟨fun unknown => ?unknown, fun param unfit => ?get,
      fun param unfit => ?set⟩,
    fun tag a b c d rest s short h => ⟨fun x listed => ?headless, fun unfit => ?count⟩,
    fun tag a b s h => ⟨fun beyond => ?lift, fun beyond => ?circuit, fun beyond => ?control⟩⟩
  case check => exact exec_telegramReceived_invalid (validTelegram_of_wrong_check short wrong) idle
  case pending => rw [exec_frame kind tag short, State.handle_of_restartPending pending, finish]
  case kind =>
    obtain ⟨judged, spared⟩ := s.heard.judgeRequest_of_unknown (kindOf_eq_none unnamed) body
    rw [exec_frame_refused h tag short judged spared]
    rfl
  case always =>
    have served : x.1.servedStarting = true := servedStarting_of_startingLengths x listed
    have allowed : allowedLengths x.1 = some x.2 := allowedLengths_of_mem x (List.mem_append_left _ listed)
    exact exec_frame_unread h (fun _ => served) tag short (readBody_of_length allowed unfit)
  case fixed =>
    have allowed : allowedLengths x.1 = some x.2 := allowedLengths_of_mem x (List.mem_append_right _ listed)
    exact exec_frame_unread_of_serving ⟨h, started⟩ tag short (readBody_of_length allowed unfit)
  case unnumbered =>
    exact ⟨exec_frame_unread_of_serving h (k := .getParam) tag (by simp) rfl,
      exec_frame_unread_of_serving h (k := .setParam) tag (by simp) rfl⟩
  case unknown =>
    have fits : (n :: value).length ≤ 48 := Nat.succ_le_succ short
    exact ⟨exec_frame_unread_of_serving h (k := .getParam) tag fits (readGetParam_unknown unknown value),
      exec_frame_unread_of_serving h (k := .setParam) tag fits (readSetParam_unknown unknown value)⟩
  case get =>
    exact exec_frame_unread_of_serving h (k := .getParam) tag (Nat.succ_le_succ short)
      (readGetParam_of_length param unfit)
  case set =>
    have refused : valueLengthFits n.toNat value.length = false :=
      Bool.eq_false_iff.mpr (mt (valueLengthFits_iff ..).mp unfit)
    exact exec_frame_unread_of_serving h (k := .setParam) tag (Nat.succ_le_succ short)
      (readSetParam_of_length param refused)
  case headless =>
    simp only [List.mem_cons, List.not_mem_nil, or_false] at listed
    obtain rfl | rfl | rfl | rfl := listed
    all_goals exact exec_frame_unread_of_serving h (k := .profilePut) tag (by simp) rfl
  case count =>
    exact exec_frame_unread_of_serving h (k := .profilePut) tag (Nat.add_le_add_right short 4)
      (readPut_of_count unfit c d)
  case lift =>
    exact exec_frame_unread_of_serving h (k := .lift) tag (by simp) (codeOr_of_none _ (liftActionOf_of_gt beyond))
  case circuit =>
    exact exec_frame_unread_of_serving h (k := .circuit) tag (by simp)
      (codeOr_of_none _ (circuitActionOf_of_gt beyond))
  case control =>
    exact exec_frame_unread_of_serving h (k := .control) tag (by simp)
      (codeOr_of_none _ (controlActionOf_of_gt beyond))

end Sys2Proof.Machine
end

section
/-! A telegram at its three levels: a request row and its telegram (O14), the framer by its state (O15), and a frame
taken character by character (O16). -/

namespace Sys2Proof.Machine

open State

/-! ### Request rows (R154) -/

/-- A request row is the handling of the KIND, the TAG and the body of its telegram. -/
theorem exec_of_asTelegram {c : Instr} {x : Incoming} (row : asTelegram c = some x) (s : State) :
    exec c s = finish (s.handle x.kind x.tag x.body) := by
  cases c
  case setMode tag mode height => cases height <;> cases row <;> rfl
  case getParam tag n channel => cases channel <;> cases row <;> rfl
  all_goals cases row <;> rfl

/-- Each word is two bytes (R162). -/
theorem bytesOf_length (ws : List Word) : (bytesOf ws).length = 2 * ws.length := by
  induction ws with
  | nil => rfl
  | cons w rest ih =>
    rw [show bytesOf (w :: rest) = bytes2 w.toNat ++ bytesOf rest from rfl, List.length_append, ih, List.length_cons]
    show 2 + _ = _
    omega

/-- The body of a well-formed request row fits a telegram (R162). -/
theorem asTelegram_body_length {c : Instr} {x : Incoming} (fits : c.wellFormed = true) (row : asTelegram c = some x) :
    x.body.length ≤ 48 := by
  cases c
  case setMode tag mode height => cases height <;> cases row <;> exact Nat.le_of_ble_eq_true rfl
  case getParam tag n channel => cases channel <;> cases row <;> exact Nat.le_of_ble_eq_true rfl
  case setParam tag n value =>
    cases row
    exact Nat.succ_le_succ (of_decide_eq_true fits)
  case profilePut tag head first values =>
    cases row
    have few : values.length ≤ 22 := of_decide_eq_true fits
    have head4 : (bytes2 head.toNat ++ bytes2 first.toNat).length = 4 := rfl
    rw [List.length_append, bytesOf_length, head4]
    omega
  all_goals cases row <;> exact Nat.le_of_ble_eq_true rfl

/-- Settles O14: the row and its telegram are the same request. -/
theorem requestRowsAreTelegrams : Obligations.RequestRowsAreTelegrams := by
  intro c x s fits row
  have short := asTelegram_body_length fits row
  exact ⟨short, (exec_of_asTelegram row s).trans (exec_frame x.kind x.tag short s).symm⟩

/-! ### The framer (R151) -/

section
variable {s : State} {c : Byte} (f : FramerState) (p : List Byte)

/-- The Link Port as a character taken now leaves its framer: the framer state and the partial telegram. -/
def State.framed (s : State) (f : FramerState) (p : List Byte) : State :=
  s.setLink { s.link with lastChar := some s.now, framer := f, partialTelegram := p }

/-- A character just taken ends no gap. -/
theorem State.framed_gapPassed (s : State) : (s.framed f p).gapPassed = false :=
  decide_eq_false (show ¬s.now + Fixed.characterGap < s.now by omega)

/-- A character taken after no gap goes to the framer with its end noted. -/
theorem State.takeChar_of_no_gap (gap : s.gapPassed = false) : s.takeChar c = s.noteChar.frameChar c := by
  unfold State.takeChar
  rw [gap]
  rfl

/-- The character that ends a gap is taken in HUNT. -/
theorem State.takeChar_of_gap (gap : s.gapPassed = true) (c : Byte) : s.takeChar c =
    (s.setLink { s.link with lastChar := none, framer := .hunt, partialTelegram := [] }).takeChar c := by
  unfold State.takeChar
  rw [gap]
  rfl

theorem State.takeChar_hunt_sync (gap : s.gapPassed = false) (state : s.link.framer = .hunt) (sync : c = 0xC3#8) :
    s.takeChar c = s.framed .length [c] := by
  rw [State.takeChar_of_no_gap gap]
  unfold State.frameChar
  rw [show s.noteChar.link.framer = .hunt from state]
  exact if_pos sync

theorem State.takeChar_hunt_other (gap : s.gapPassed = false) (state : s.link.framer = .hunt) (other : c ≠ 0xC3#8) :
    s.takeChar c = s.framed .hunt s.link.partialTelegram := by
  rw [State.takeChar_of_no_gap gap]
  unfold State.frameChar
  rw [show s.noteChar.link.framer = .hunt from state]
  refine (if_neg other).trans ?_
  rw [State.framed, ← state]
  rfl

theorem State.takeChar_length (gap : s.gapPassed = false) (state : s.link.framer = .length) : s.takeChar c =
    if c.toNat ≤ 48 then s.framed .kind (s.link.partialTelegram ++ [c]) else s.framed .hunt [] := by
  rw [State.takeChar_of_no_gap gap]
  unfold State.frameChar
  rw [show s.noteChar.link.framer = .length from state]
  rfl

theorem State.takeChar_kind (gap : s.gapPassed = false) (state : s.link.framer = .kind) :
    s.takeChar c = s.framed .tag (s.link.partialTelegram ++ [c]) := by
  rw [State.takeChar_of_no_gap gap]
  unfold State.frameChar
  rw [show s.noteChar.link.framer = .kind from state]
  rfl

theorem State.takeChar_tag (gap : s.gapPassed = false) (state : s.link.framer = .tag) : s.takeChar c =
    s.framed (if partialLength (s.link.partialTelegram ++ [c]) = 0 then .check else .body)
      (s.link.partialTelegram ++ [c]) := by
  rw [State.takeChar_of_no_gap gap]
  unfold State.frameChar
  rw [show s.noteChar.link.framer = .tag from state]
  rfl

theorem State.takeChar_body (gap : s.gapPassed = false) (state : s.link.framer = .body) : s.takeChar c =
    s.framed (if (s.link.partialTelegram ++ [c]).length = partialLength (s.link.partialTelegram ++ [c]) + 4
      then .check else .body) (s.link.partialTelegram ++ [c]) := by
  rw [State.takeChar_of_no_gap gap]
  unfold State.frameChar
  rw [show s.noteChar.link.framer = .body from state]
  rfl

theorem State.takeChar_check (gap : s.gapPassed = false) (state : s.link.framer = .check) : s.takeChar c =
    if (s.link.partialTelegram ++ [c]).length = partialLength (s.link.partialTelegram ++ [c]) + 6
      then (s.framed .hunt []).receive (s.link.partialTelegram ++ [c])
      else s.framed .check (s.link.partialTelegram ++ [c]) := by
  rw [State.takeChar_of_no_gap gap]
  unfold State.frameChar
  rw [show s.noteChar.link.framer = .check from state]
  rfl

/-- A character that leaves the framer as given, as a command. -/
theorem exec_characterReceived_framed (idle : s.deferred = []) {f : FramerState} {p : List Byte}
    (taken : s.takeChar c = s.framed f p) : exec (.characterReceived c) s = .next (s.framed f p) := by
  show finish (s.takeChar c) = _
  rw [taken]
  exact finish_of_nil idle

end

/-- Settles O15: each row of R151's table, and the three ways the partial telegram is dropped. -/
theorem framerTable : Obligations.FramerTable := by
  refine ⟨fun c s idle gap => ?table, fun c s gap => congrArg finish (takeChar_of_gap gap c),
    fun s idle => finish_of_nil (s := s.noteChar.dropPartial) idle,
    fun s idle => finish_of_nil (s := s.dropPartial) idle⟩
  case table =>
    intro part put
    have row {f : FramerState} {p : List Byte} : s.takeChar c = s.framed f p →
        exec (.characterReceived c) s = put f p := exec_characterReceived_framed idle
    refine ⟨fun state sync => row (takeChar_hunt_sync gap state sync),
      fun state other => row (takeChar_hunt_other gap state other),
      fun state short => row ((takeChar_length gap state).trans (if_pos short)),
      fun state long => row ((takeChar_length gap state).trans (if_neg (Nat.not_le.mpr long))),
      fun state => row (takeChar_kind gap state), fun state empty => row ?tag0, fun state full => row ?tag,
      fun state last => row ?body0, fun state more => row ?body, fun state more => row ?check,
      fun state last => congrArg finish ((takeChar_check gap state).trans (if_pos last))⟩
    case tag0 => rw [takeChar_tag gap state, if_pos empty]
    case tag => rw [takeChar_tag gap state, if_neg full]
    case body0 => rw [takeChar_body gap state, if_pos last]
    case body => rw [takeChar_body gap state, if_neg more]
    case check => rw [takeChar_check gap state, if_neg more]

/-! ### A frame in characters (R151, R162) -/

/-- LENGTH stands in the second character, whatever follows. -/
theorem State.partialLength_append {p : List Byte} (two : 2 ≤ p.length) (q : List Byte) :
    partialLength (p ++ q) = partialLength p := by
  match p, two with
  | _ :: _ :: _, _ => rfl

/-- The rest of a BODY, taken to its last character. -/
theorem State.foldl_takeChar_body (s : State) {rest : List Byte} (nonempty : rest ≠ []) {p : List Byte}
    (two : 2 ≤ p.length) (whole : p.length + rest.length = partialLength p + 4) :
    rest.foldl takeChar (s.framed .body p) = s.framed .check (p ++ rest) := by
  induction rest generalizing p with
  | nil => exact absurd rfl nonempty
  | cons c rest ih =>
    have len : (p ++ [c]).length = p.length + 1 := by simp
    have step : (s.framed .body p).takeChar c =
        s.framed (if p.length + 1 = partialLength p + 4 then .check else .body) (p ++ [c]) := by
      rw [takeChar_body (s.framed_gapPassed ..) rfl, ← partialLength_append two [c], ← len]
      rfl
    rw [List.length_cons] at whole
    rw [List.foldl_cons, step]
    cases rest with
    | nil =>
      rw [if_pos (by simpa using whole)]
      rfl
    | cons d rest =>
      rw [List.length_cons] at whole
      rw [if_neg (by omega), ih (by simp) (by omega) (by rw [partialLength_append two, len, List.length_cons]; omega)]
      simp

/-- The characters from SYNC to the last of BODY bring the framer to CHECK. -/
theorem State.foldl_takeChar_to_check {s : State} (state : s.link.framer = .hunt) (gap : s.gapPassed = false)
    (kind tag : Byte) {body : List Byte} (short : body.length ≤ 48) :
    (0xC3#8 :: byteOf body.length :: kind :: tag :: body).foldl takeChar s =
      s.framed .check (0xC3#8 :: byteOf body.length :: kind :: tag :: body) := by
  have len : (byteOf body.length).toNat = body.length := by
    rw [byteOf_toNat]
    omega
  have head : [0xC3#8, byteOf body.length, kind, tag].foldl takeChar s =
      s.framed (if (byteOf body.length).toNat = 0 then .check else .body) [0xC3#8, byteOf body.length, kind, tag] := by
    rw [List.foldl_cons, takeChar_hunt_sync gap state rfl, List.foldl_cons, takeChar_length (s.framed_gapPassed ..) rfl,
      if_pos (by omega), List.foldl_cons, takeChar_kind (State.framed_gapPassed ..) rfl, List.foldl_cons,
      takeChar_tag (State.framed_gapPassed ..) rfl]
    rfl
  rw [len] at head
  rw [show ∀ l, 0xC3#8 :: byteOf body.length :: kind :: tag :: l = [0xC3#8, byteOf body.length, kind, tag] ++ l from
    fun _ => rfl, List.foldl_append, head]
  by_cases empty : body = []
  · subst empty
    rfl
  · rw [if_neg (by simpa using empty), foldl_takeChar_body s empty (by simp)]
    show 4 + body.length = (byteOf body.length).toNat + 4
    omega

/-- The two characters of CHECK complete the telegram. -/
theorem State.takeChar_takeChar_check (s : State) {p : List Byte} (two : 2 ≤ p.length)
    (whole : p.length = partialLength p + 4) (hi lo : Byte) :
    ((s.framed .check p).takeChar hi).takeChar lo = (s.framed .hunt []).receive (p ++ [hi] ++ [lo]) := by
  have first : (s.framed .check p).takeChar hi = s.framed .check (p ++ [hi]) := by
    rw [takeChar_check (s.framed_gapPassed ..) rfl]
    refine if_neg ?_
    show (p ++ [hi]).length ≠ partialLength (p ++ [hi]) + 6
    rw [partialLength_append two, List.length_append, List.length_singleton]
    omega
  rw [first, takeChar_check (s.framed_gapPassed ..) rfl]
  refine if_pos ?_
  show (p ++ [hi] ++ [lo]).length = partialLength (p ++ [hi] ++ [lo]) + 6
  rw [List.append_assoc, partialLength_append two, List.length_append, whole]
  rfl

/-- Settles O16: the framer is brought to CHECK, and the two characters of CHECK complete the telegram. -/
theorem frameArrivesCharacterByCharacter : Obligations.FrameArrivesCharacterByCharacter := by
  intro kind tag body s short state gap
  have len : (byteOf body.length).toNat = body.length := by
    rw [byteOf_toNat]
    omega
  have whole : frame kind tag body = (0xC3#8 :: byteOf body.length :: kind :: tag :: body) ++
      [byteOf ((checkWord (byteOf body.length :: kind :: tag :: body)).toNat / 256)] ++
      [byteOf (checkWord (byteOf body.length :: kind :: tag :: body)).toNat] := by
    simp [frame, bytes2, syncChar]
  have received : (s.framed .hunt []).receive (frame kind tag body) = (s.framed .hunt []).handle kind tag body := by
    unfold State.receive
    rw [validTelegram_frame kind tag short]
  refine Eq.trans ?_ received
  rw [whole, List.foldl_append, List.foldl_append, foldl_takeChar_to_check state gap kind tag short]
  refine takeChar_takeChar_check s (Nat.le_add_left 2 _) ?_ _ _
  show body.length + 4 = (byteOf body.length).toNat + 4
  rw [len]

end Sys2Proof.Machine
end

section
/-! The Event Unit: an event taken and its block (O22), the records handed over (O23), and the time tag (O24). -/

namespace Sys2Proof.Machine

open State

/-! ### Captures and notices (R157, R158, R165) -/

/-- Into a queue within its 48 places a record is captured at the newest end, in place of the oldest when the queue is
full (R165). -/
theorem capture_of_bounded (r : EventRecord) {e : EventUnit} (bounded : e.queue.length ≤ 48) : capture r e =
    { e with
      queue := e.queue.drop (e.queue.length - 47) ++ [r]
      overrun := e.overrun || decide (e.queue.length = 48) } := by
  unfold capture
  by_cases full : e.queue.length = 48
  · rw [if_neg (show ¬e.queue.length < Fixed.eventPlaces by rw [full]; decide), full]
    simp [Fixed.eventPlaces]
  · rw [if_pos (show e.queue.length < Fixed.eventPlaces from Nat.lt_of_le_of_ne bounded full),
      show e.queue.length - 47 = 0 by omega]
    simp [full]

/-- With no place secured a notice takes the tail while the link is UP and two places are free (R157, R158). -/
theorem State.offerNotice_of_unsecured {s : State} (unsecured : s.link.secured = false) (kind : Byte)
    (body : List Byte) : s.offerNotice kind body = s.setLink { s.link with
      queue := s.link.queue ++ (if s.link.up && decide (s.link.queue.length ≤ 6) then
        [⟨.notice, frame kind 0#8 body⟩] else []) } := by
  have fits : s.noticeFits = (s.link.up && decide (s.link.queue.length ≤ 6)) := by
    simp [noticeFits, unsecured, bitAt, Fixed.transmitPlaces]
  unfold State.offerNotice
  rw [fits]
  split
  · rfl
  · rw [List.append_nil]
    rfl

/-- A notice offered on a condition takes the tail when the condition holds as well. -/
theorem State.offerIf_of_unsecured {s : State} (unsecured : s.link.secured = false) (b : Bool) (kind : Byte)
    (body : List Byte) : (if b then s.offerNotice kind body else s) = s.setLink { s.link with
      queue := s.link.queue ++ (if b && s.link.up && decide (s.link.queue.length ≤ 6) then
        [⟨.notice, frame kind 0#8 body⟩] else []) } := by
  cases b with
  | true => exact offerNotice_of_unsecured unsecured kind body
  | false => simp only [Bool.false_and, Bool.false_eq_true, if_false, List.append_nil]; rfl

/-- An event taken, part by part: its flag, its capture and its notice (R158, R164). -/
theorem State.logEvent_of_bounded {s : State} (bounded : s.events.queue.length ≤ 48)
    (unsecured : s.link.secured = false) (k : EventKind) (sev : Severity) (c : Option CircuitId) (v : Option Int) :
    let r : EventRecord := ⟨s.events.timeTag, k, sev, c, v.map (clampInt (-32768) 32767)⟩
    let captured := hasSeverity s.params.p93 sev
    let noticed := hasSeverity s.params.p94 sev && s.link.up && decide (s.link.queue.length ≤ 6)
    s.logEvent k sev c v =
      (s.setEvents { s.events with
        detected := s.events.detected ||| (1#4 <<< sev.code)
        queue := if captured then s.events.queue.drop (s.events.queue.length - 47) ++ [r] else s.events.queue
        overrun := s.events.overrun || (captured && decide (s.events.queue.length = 48)) }).setLink
        { s.link with queue :=
          s.link.queue ++ (if noticed then [⟨.notice, frame 0x50#8 0#8 (eventBlock r)⟩] else []) } := by
  intro r captured noticed
  have taken : (if captured then capture r { s.events with detected := addSeverity s.events.detected sev }
      else { s.events with detected := addSeverity s.events.detected sev }) =
      { s.events with
        detected := s.events.detected ||| (1#4 <<< sev.code)
        queue := if captured then s.events.queue.drop (s.events.queue.length - 47) ++ [r] else s.events.queue
        overrun := s.events.overrun || (captured && decide (s.events.queue.length = 48)) } := by
    cases captured with
    | true => exact capture_of_bounded r bounded
    | false => simp [addSeverity]
  unfold State.logEvent
  dsimp only
  rw [taken]
  refine offerIf_of_unsecured (s := s.setEvents _) ?_ _ _ _
  exact unsecured

/-! ### The event block (R162) -/

/-- A signed value is sent in two's complement. -/
theorem signed2_eq (v : Int) : signed2 v = bytes2 (BitVec.ofInt 16 v).toNat := by
  rw [BitVec.toNat_ofInt]
  rfl

theorem eventBlock_length (r : EventRecord) : (eventBlock r).length = 10 := rfl

theorem eventBlock_eq (r : EventRecord) : eventBlock r =
    bytes4 r.timeTag.toNat ++ [byteOf r.kind.code, byteOf r.severity.code,
      (r.circuit.map fun c => byteOf c.val).getD 0xFF#8, if r.value = none then 0#8 else 1#8] ++
      bytes2 (BitVec.ofInt 16 (r.value.getD 0)).toNat := by
  unfold eventBlock
  rw [circuitByte_eq, signed2_eq]
  cases r.value <;> rfl

/-- Settles O22: an event is taken as `State.logEvent_of_bounded` says, and its block is read off. -/
theorem eventTaken : Obligations.EventTaken :=
  ⟨fun _ k sev c v bounded unsecured => logEvent_of_bounded bounded unsecured k sev c v,
    fun r => ⟨eventBlock_length r, eventBlock_eq r⟩, by decide, by decide⟩

/-! ### EVENTS (R165) -/

theorem flatMap_eventBlock_length (rs : List EventRecord) : (rs.flatMap eventBlock).length = 10 * rs.length := by
  induction rs with
  | nil => rfl
  | cons r rest ih =>
    rw [List.flatMap_cons, List.length_append, eventBlock_length, ih, List.length_cons]
    omega

/-- Settles O23: the owner's act leaves no hand-off, in any control state. -/
theorem eventsRequest : Obligations.EventsRequest := by
  refine ⟨fun tag s h => ?_, flatMap_eventBlock_length⟩
  have handed : s.heard.answer .events =
      (.done ([byteOf (min 4 s.events.queue.length), byteOf (s.events.queue.length - 4),
          byteOf (bitAt 0 s.events.overrun)] ++ (s.events.queue.take 4).flatMap eventBlock),
        s.heard.setEvents { s.events with queue := s.events.queue.drop 4, overrun := false }) := by
    rw [← List.length_take, ← List.length_drop]
    rfl
  exact request_of_quiet h tag (fun _ => rfl) rfl handed (fun _ e => nomatch e) h.heard.1 h.heard.2

/-! ### The time tag (R163) -/

/-- Four bytes of a value spell it (R162). -/
theorem bytes4_append (v : BitVec 32) : byteOf (v.toNat / 65536 / 256) ++ byteOf (v.toNat / 65536) ++
    byteOf (v.toNat / 256) ++ byteOf v.toNat = v := by
  apply BitVec.eq_of_toNat_eq
  simp only [BitVec.toNat_append, byteOf_toNat]
  rw [← Nat.shiftLeft_add_eq_or_of_lt (by omega), ← Nat.shiftLeft_add_eq_or_of_lt (by omega),
    ← Nat.shiftLeft_add_eq_or_of_lt (by omega)]
  simp only [Nat.shiftLeft_eq]
  omega

/-- A tag below FFFFFFFFh advances by 1 (R163). -/
theorem State.advanceTag_of_ne {s : State} (below : s.events.timeTag ≠ 0xFFFFFFFF#32) : s.advanceTag =
    s.setEvents { s.events with
      timeTag := s.events.timeTag + 1, nextAdvance := s.events.nextAdvance + s.params.p95 } :=
  if_neg below

/-- From FFFFFFFFh the tag rolls over, and the event carries the new one (R163). -/
theorem State.advanceTag_of_full {s : State} (full : s.events.timeTag = 0xFFFFFFFF#32) : s.advanceTag =
    (s.setEvents { s.events with timeTag := 0, nextAdvance := s.events.nextAdvance + s.params.p95 }).logEvent
      .timeRollover .advisory none none := by
  unfold State.advanceTag
  rw [full]
  exact if_pos rfl

/-- Settles O24: the request is its owner's act, and each moment advances the tag by its value. -/
theorem timeLoad : Obligations.TimeLoad := by
  refine ⟨fun tag v s h => ?load, fun s idle due below => ?advance, fun s idle due full => ?rollover⟩
  case load =>
    obtain ⟨ready, started⟩ := h
    have read : readBody isParam .time (bytes4 v.toNat) = .ok (.time v) :=
      congrArg (fun x => Except.ok (Request.time x)) (bytes4_append v)
    exact request_of_quiet ready tag (fun starting => absurd starting started) read rfl (fun _ e => nomatch e)
      ready.heard.1 ready.heard.2
  case advance =>
    show finish (if s.tagDue then s.advanceTag else s) = _
    rw [if_pos (show s.tagDue = true from decide_eq_true due), advanceTag_of_ne below]
    exact finish_of_nil idle
  case rollover =>
    show finish (if s.tagDue ∧ s.events.timeTag = BitVec.allOnes 32 then s.advanceTag else s) = _
    rw [if_pos ⟨decide_eq_true due, full⟩, advanceTag_of_full full]
    exact finish_of_nil ((logEvent_deferred ..).trans idle)

end Sys2Proof.Machine
end


section
/-! The Transmit Queue (O17), the link state (O18) and the SUMMARY (O19). -/

namespace Sys2Proof.Machine

open State

/-! ### The Transmit Queue (R157) -/

theorem Telegram.isNotice_iff (t : Telegram) : t.isNotice = true ↔ t.cls = .notice := decide_eq_true_iff

/-- The oldest notice of a list is its first (R157). -/
theorem dropOldestNotice_append {pre : List Telegram} (older : ∀ x ∈ pre, x.cls ≠ .notice) {n : Telegram}
    (notice : n.cls = .notice) (post : List Telegram) : dropOldestNotice (pre ++ n :: post) = pre ++ post := by
  induction pre with
  | nil => exact if_pos (n.isNotice_iff.mpr notice)
  | cons t rest ih =>
    obtain ⟨first, others⟩ := List.forall_mem_cons.mp older
    exact (if_neg (mt t.isNotice_iff.mp first)).trans (congrArg (t :: ·) (ih others))

/-- A full queue: what R157 finds behind the telegram being sent. -/
theorem State.securePlace_of_full {s : State} {sending : Telegram} {rest : List Telegram}
    (queue : s.link.queue = sending :: rest) (full : 8 ≤ s.link.queue.length) : s.securePlace =
    if rest.any Telegram.isNotice then
      some (s.setLink { s.link with queue := sending :: dropOldestNotice rest, secured := true })
    else none := by
  have packed : ¬(sending :: rest).length < Fixed.transmitPlaces := Nat.not_lt.mpr (queue ▸ full)
  unfold State.securePlace
  rw [queue]
  exact if_neg packed

/-- Where a place cannot be found behind the telegram being sent, none is. -/
theorem State.securePlace_eq_none {s : State} {sending : Telegram} {rest : List Telegram}
    (queue : s.link.queue = sending :: rest) (full : 8 ≤ s.link.queue.length) (replies : ∀ x ∈ rest, x.cls ≠ .notice) :
    s.securePlace = none := by
  rw [securePlace_of_full queue full]
  refine if_neg fun found => ?_
  obtain ⟨x, mem, notice⟩ := List.any_eq_true.mp found
  exact replies x mem (x.isNotice_iff.mp notice)

/-- A telegram heard without a place for its reply has no other effect (R153). -/
theorem State.handle_of_no_place {s : State} (none : s.linkHeard.securePlace = none)
    (kind tag : Byte) (body : List Byte) : s.handle kind tag body = s.linkHeard := by
  unfold State.handle State.carryOut
  dsimp only
  rw [none]
  exact ite_self _

/-- The telegram at the head has been sent, and no restart takes effect by it (R157, R148). -/
theorem State.telegramSent_of_no_restart {s : State} {x : Telegram} {rest : List Telegram}
    (queue : s.link.queue = x :: rest) (stays : x.cls ≠ .restartReply ∨ s.link.restartPending = false) :
    s.telegramSent = s.setLink { s.link with queue := rest } := by
  have head : s.restartAtHead = decide (x.cls = .restartReply) := by
    unfold State.restartAtHead
    rw [queue]
  unfold State.telegramSent
  rw [if_neg, queue]
  · rfl
  · rintro ⟨restart, pending⟩
    rw [head, decide_eq_true_iff] at restart
    exact stays.elim (· restart) (by simp [pending])

/-- Settles O17: the place by the room behind the telegram being sent, and the queue by its head. -/
theorem transmitQueue : Obligations.TransmitQueue := by
  refine ⟨fun s room => securePlace_of_room room, fun s sending n pre post queue full notice older => ?removed,
    fun s sending rest queue full replies up kind tag body => ?declined, fun s x rest queue idle stays => ?sent⟩
  case removed =>
    rw [securePlace_of_full queue full, dropOldestNotice_append older notice]
    exact if_pos (List.any_eq_true.mpr ⟨n, by simp, n.isNotice_iff.mpr notice⟩)
  case declined =>
    have heard := linkHeard_of_up up
    have none : s.linkHeard.securePlace = none := by
      rw [heard]
      exact securePlace_eq_none (s := s.setLink _) queue full replies
    rw [handle_of_no_place none, heard, ← up]
  case sent =>
    show finish s.telegramSent = _
    rw [telegramSent_of_no_restart queue stays]
    exact finish_of_nil idle

/-! ### The link state (R160) -/

/-- An event sets the detected flag of its severity (R166). -/
theorem State.logEvent_detected (s : State) (k : EventKind) (sev : Severity) (c : Option CircuitId) (v : Option Int) :
    (s.logEvent k sev c v).events.detected = s.events.detected ||| (1#4 <<< sev.code) := by
  unfold State.logEvent State.offerNotice capture
  dsimp only
  repeat' split
  all_goals rfl

/-- LINK_LOST when the timeout has passed is the loss of the link (R160). -/
theorem exec_linkLost_of_due {s : State} {m : Nat} (up : s.link.up = true) (valid : s.link.lastValid = some m)
    (due : m + s.params.p90 ≤ s.now) (idle : s.deferred = []) : exec .linkLost s = .next s.loseLink := by
  show finish s.judgeLink = _
  rw [judgeLink, if_pos (s.linkTimedOut_iff.mpr ⟨up, m, valid, due⟩)]
  refine finish_of_nil ?_
  rw [loseLink_eq]
  refine (logEvent_deferred ..).trans ?_
  rw [State.raise, setConditions_deferred]
  exact idle

/-- LINK_LOST before its moment changes nothing. -/
theorem exec_linkLost_of_early {s : State} {m : Nat} (valid : s.link.lastValid = some m)
    (early : s.now < m + s.params.p90) (idle : s.deferred = []) : exec .linkLost s = .next s := by
  have runs : ¬s.linkTimedOut = true := fun timedOut => by
    obtain ⟨_, n, same, due⟩ := s.linkTimedOut_iff.mp timedOut
    rw [valid] at same
    cases same
    omega
  show finish s.judgeLink = _
  rw [judgeLink, if_neg runs]
  exact finish_of_nil idle

/-- What a loss of the link leaves (R160). -/
theorem State.loseLink_leaves (s : State) : s.loseLink.link.up = false ∧ s.loseLink.link.summaryDue = none ∧
    s.loseLink.link.queue = s.link.queue.take 1 ++ (s.link.queue.drop 1).filter (fun x => x.cls ≠ .notice) ∧
    s.loseLink.isActive .linkLost = true ∧ s.loseLink.events.detected.getLsbD 1 = true := by
  rw [loseLink_eq]
  refine ⟨rfl, rfl, rfl, ?active, ?flag⟩
  case active => exact (logEvent_isActive ..).trans (raise_isActive_same ..)
  case flag =>
    rw [setLink_events, logEvent_detected, BitVec.getLsbD_or]
    exact (Bool.or_eq_true_iff).mpr (.inr rfl)

/-- A telegram heard while the link is LOST (R153, R160, R159). -/
theorem State.linkHeard_of_lost {s : State} (lost : s.link.up = false) :
    let heard := s.setLink { s.link with lastValid := some s.now, seen := true, up := true }
    let told := if s.link.seen then (heard.clear .linkLost).logEvent .linkRestored .advisory none none else heard
    s.linkHeard = told.setLink { told.link with
      summaryDue := if s.params.p92 = 0 then none else some (s.now + s.params.p92 * 1000) } := by
  intro heard told
  have ⟨now, params⟩ : told.now = s.now ∧ told.params = s.params := by
    by_cases seen : s.link.seen = true
    · simp [told, seen, heard, State.clear]
    · simp [told, seen, heard]
  unfold State.linkHeard
  rw [lost]
  show told.startSummary = _
  rw [startSummary, now, params]

/-- After any valid telegram the link is UP and has been seen, just now (R153). -/
theorem State.linkHeard_link (s : State) : s.linkHeard.link.up = true ∧ s.linkHeard.link.seen = true ∧
    s.linkHeard.link.lastValid = some s.now := by
  cases up : s.link.up with
  | true =>
    rw [linkHeard_of_up up]
    exact ⟨rfl, rfl, rfl⟩
  | false =>
    rw [linkHeard_of_lost up]
    split <;> simp [State.clear]

/-- A link that is restored clears LINK_LOST (R160). -/
theorem State.linkHeard_inactive {s : State} (lost : s.link.up = false) (seen : s.link.seen = true) :
    s.linkHeard.isActive .linkLost = false := by
  rw [linkHeard_of_lost lost, if_pos seen]
  exact (logEvent_isActive ..).trans (clear_isActive_same ..)

/-- Settles O18: the loss by its moment, and a valid telegram by the state of the link it finds. -/
theorem linkState : Obligations.LinkState := by
  refine ⟨fun s m up valid due idle => ⟨_, exec_linkLost_of_due up valid due idle, s.loseLink_leaves⟩,
    fun s m valid early idle => exec_linkLost_of_early valid early idle, fun s => ?heard,
    fun s m up valid due idle => ?lost, fun s lost => linkHeard_of_lost lost⟩
  case heard =>
    obtain ⟨up, seen, valid⟩ := s.linkHeard_link
    refine ⟨up, seen, valid, fun lost => ?_, linkHeard_inactive, fun up => ?_⟩
    · rw [linkHeard_of_lost lost]
      rfl
    · rw [linkHeard_of_up up, ← up]
  case lost => exact (exec_linkLost_of_due up valid due idle).trans (congrArg _ s.loseLink_eq)

/-! ### The SUMMARY (R159) -/

/-- The summary block with its presence bits and codes written out (R162). -/
theorem State.summaryBlock_eq (s : State) : s.summaryBlock =
    [byteOf ((if (s.channel 5).status = .valid then 1 else 0) + (if (s.channel 6).status = .valid then 2 else 0) +
        (if (s.channel 0).status = .valid then 4 else 0)),
      byteOf s.height.mode.code, (if s.lift.reconciled then byteOf s.lift.state.code else 0xFF#8)] ++
    bytes2 ((s.validValue 5).getD 0) ++ bytes2 ((s.validValue 6).getD 0) ++ bytes2 ((s.validValue 0).getD 0) ++
    [byteOf s.supervisor.control.code, byteOf (s.driver.lamp.state.code + s.events.detected.toNat * 16)] := by
  simp [summaryBlock, bitAt, isValid, liftByte, optional2]

/-- A SUMMARY offered with no place secured (R159, R157). -/
theorem State.offerSummary_of_unsecured {s : State} {m : Nat} (moment : s.link.summaryDue = some m)
    (unsecured : s.link.secured = false) : s.offerSummary = s.setLink { s.link with
      queue := s.link.queue ++ (if s.link.up = true ∧ s.link.queue.length ≤ 6 then
        [⟨.notice, frame 0x51#8 0#8 s.summaryBlock⟩] else [])
      summaryDue := some (m + s.params.p92 * 1000) } := by
  unfold State.offerSummary
  rw [offerNotice_of_unsecured unsecured, moment]
  simp only [Bool.and_eq_true, decide_eq_true_eq]
  rfl

/-- Settles O19: the moment offers the block and advances; the block is read off where its parts stand. -/
theorem summaryMoment : Obligations.SummaryMoment := by
  refine ⟨fun s m moment due idle unsecured => ?_, fun s => ⟨rfl, s.summaryBlock_eq⟩, by decide⟩
  have reached : s.summaryReached = true := by
    unfold State.summaryReached State.reached
    rw [moment]
    exact decide_eq_true due
  show finish (if s.summaryReached then s.offerSummary else s) = _
  rw [if_pos reached, offerSummary_of_unsecured moment unsecured]
  exact finish_of_nil idle

end Sys2Proof.Machine
end


section
/-! The requests refused while STARTING, and the load they abort (O21). -/

namespace Sys2Proof.Machine

open State

/-- An aborted load of this start-up is not aborted again (R155). -/
theorem State.abortLoad_of_aborted {s : State} (aborted : s.startUp.bootCode = some .aborted) : s.abortLoad = s :=
  if_pos aborted

/-- An abort leaves the defaults, the boot code ABORTED, no loader, and the store idle if a loader ran (R155, R175). -/
theorem State.abortLoad_stands {s : State} (running : s.startUp.bootCode ≠ some .aborted) :
    s.abortLoad.LoadStands Params.defaults ⟨s.startUp.resetAt, none, some .aborted, true⟩
      (if s.startUp.loader.isSome then { s.store with busyUntil := none } else s.store) := by
  have core := loadStands_closed Params.defaults ⟨s.startUp.resetAt, none, some .aborted, true⟩
    (if s.startUp.loader.isSome then { s.store with busyUntil := none } else s.store)
  unfold State.abortLoad
  rw [if_neg running]
  refine logLoad_core core _ (core.reconfigure_from _ ⟨rfl, ?_, ?_⟩)
  · split <;> rfl
  · split <;> rfl

/-- What a load leaves stands through the completion of the request that aborted it. -/
theorem completed_loadStands {t : State} {p : Params} {x : StartUp} {y : ProfileStore} (stands : t.LoadStands p x y)
    (k : Kind) (tag : Byte) (a : Answer) : ∃ u, t.completed k tag a = .next u ∧ u.LoadStands p x y :=
  have air := (loadStands_closed p x y).toAirClosed
  ⟨_, rfl, air.settle_closed (air.settle_closed (s := t) stands : (t.settle.replied k tag a).LoadStands p x y)⟩

section
variable {s : State} {k : Kind}

/-- The refusal with STARTING of a kind that aborts the load: REQUEST_REFUSED is noted before the abort (R155). -/
theorem judgeAndCarryOut_starting (starting : s.supervisor.control = .starting) (unserved : k.servedStarting = false)
    (aborts : k.abortsLoad = true) (body : List Byte) : s.heard.judgeAndCarryOut k.code body =
      (.refused .starting, (s.heard.noteRefusal k.code (.refused .starting)).abortLoad.settle) := by
  have control : s.heard.supervisor.control = .starting := starting
  unfold State.judgeAndCarryOut State.judgeRequest State.mustAbortLoad
  simp [kindOf_code, control, unserved, aborts]

/-- Once the load has been aborted the refusal has no other effect (R155). -/
theorem request_starting_of_aborted (h : s.Ready) (starting : s.supervisor.control = .starting)
    (unserved : k.servedStarting = false) (aborts : k.abortsLoad = true)
    (aborted : s.startUp.bootCode = some .aborted) (tag : Byte) (body : List Byte) :
    request k tag body s = s.refusedWith k tag .starting := by
  refine request_of_refused h tag ?_
  have noted : (s.heard.noteRefusal k.code (.refused .starting)).startUp.bootCode = some .aborted :=
    (congrArg StartUp.bootCode (logEvent_startUp ..)).trans aborted
  have quiet : (s.heard.noteRefusal k.code (.refused .starting)).deferred = [] :=
    (logEvent_deferred ..).trans h.heard.1
  rw [judgeAndCarryOut_starting starting unserved aborts, abortLoad_of_aborted noted, settle_of_nil quiet]

/-- Before that the refusal is completed with the abort (R155, R175). -/
theorem request_starting_aborts (h : s.Ready) (starting : s.supervisor.control = .starting)
    (unserved : k.servedStarting = false) (aborts : k.abortsLoad = true) (tag : Byte) (body : List Byte) :
    request k tag body s =
      (s.heard.noteRefusal k.code (.refused .starting)).abortLoad.completed k tag (.refused .starting) := by
  have stays : (s.heard.noteRefusal k.code (.refused .starting)).abortLoad.settle.link.restartPending = false :=
    AirClosed.settle_closed noRestart_closed.toAirClosed
      (noRestart_closed.abortLoad_closed ((logEvent_link_restartPending ..).trans h.heard.2))
  rw [request_of_ready h, judgeAndCarryOut_starting starting unserved aborts]
  dsimp only
  rw [stays]
  rfl

/-- The load aborted by a refusal has ended when the request is completed (R155, R175). -/
theorem completed_abortLoad (running : s.startUp.bootCode ≠ some .aborted) (reason : Reason) (tag : Byte) (a : Answer) :
    ∃ t, (s.heard.noteRefusal k.code (.refused reason)).abortLoad.completed k tag a = .next t ∧
      t.startUp = ⟨s.startUp.resetAt, none, some .aborted, true⟩ ∧ t.params = Params.defaults ∧
      (s.startUp.loader ≠ none → t.store.busyUntil = none) := by
  have startUp : (s.heard.noteRefusal k.code (.refused reason)).startUp = s.startUp := logEvent_startUp ..
  have stands := abortLoad_stands (s := s.heard.noteRefusal k.code (.refused reason)) (by rwa [startUp])
  rw [startUp] at stands
  obtain ⟨t, completed, params, ended, store⟩ := completed_loadStands stands k tag a
  refine ⟨t, completed, ended, params, fun loading => ?_⟩
  rw [store, if_pos (Option.isSome_iff_ne_none.mpr loading)]

end

/-- Settles O21: each row is the request of its kind, and a kind's refusal aborts the load or leaves it. -/
theorem startingRefuses : Obligations.StartingRefuses := by
  intro tag s h starting
  refine ⟨fun b w ch v x listed => ?harmless, fun n value head first index values x listed => ?aborting⟩
  case harmless =>
    simp only [List.mem_cons, List.not_mem_nil, or_false] at listed
    obtain rfl | rfl | rfl | rfl | rfl | rfl | rfl | rfl | rfl | rfl | rfl | rfl | rfl | rfl | rfl | rfl | rfl | rfl :=
      listed
    all_goals exact request_refused_while_starting h starting rfl rfl tag _
  case aborting =>
    have row {k : Kind} {c : Instr} {body : List Byte} (same : exec c s = request k tag body s)
        (unserved : k.servedStarting = false) (aborts : k.abortsLoad = true) :
        (s.startUp.bootCode = some .aborted → exec c s = s.refusedWith k tag .starting) ∧
        (s.startUp.bootCode ≠ some .aborted →
          exec c s = ((s.heard.logEvent .requestRefused .refused none
            (some ((k.code.toNat * 256 + 5 : Nat) : Int))).abortLoad).completed k tag (.refused .starting) ∧
          ∃ t, exec c s = .next t ∧ t.startUp = ⟨s.startUp.resetAt, none, some .aborted, true⟩ ∧
            t.params = Params.defaults ∧ (s.startUp.loader ≠ none → t.store.busyUntil = none)) := by
      rw [same]
      refine ⟨fun aborted => request_starting_of_aborted h starting unserved aborts aborted tag body, fun running => ?_⟩
      rw [request_starting_aborts h starting unserved aborts]
      exact ⟨rfl, completed_abortLoad running .starting tag (.refused .starting)⟩
    simp only [List.mem_cons, List.not_mem_nil, or_false] at listed
    obtain rfl | rfl | rfl | rfl | rfl | rfl := listed
    all_goals exact row rfl rfl rfl

end Sys2Proof.Machine
end

section
/-! A profile that has been ended, and its load (O57). -/

namespace Sys2Proof.Machine

open State

/-! ### Words of the image (R162) -/

theorem wordAt_setWordAt_same (image : Image) {i : Nat} (inside : i < 512) (w : Word) :
    wordAt (setWordAt image i w) i = w := by
  simp [wordAt, setWordAt, inside]

theorem wordAt_setWordAt_of_ne (image : Image) {i j : Nat} (ne : j ≠ i) (w : Word) :
    wordAt (setWordAt image i w) j = wordAt image j := by
  unfold wordAt setWordAt
  by_cases inside : i < 512
  · rw [dif_pos inside]
    split
    · exact Vector.getElem_set_ne _ _ (Ne.symm ne)
    · rfl
  · rw [dif_neg inside]

/-! ### The sum (R162, R174) -/

theorem imageSum_zero (image : Image) : imageSum image 0 = wordAt image 0 := by
  have first : image.toList.take 1 = [wordAt image 0] := by
    rw [List.take_one, List.head?_eq_getElem?]
    simp [wordAt]
  unfold imageSum
  rw [first]
  exact BitVec.zero_add _

theorem imageSum_succ (image : Image) {n : Nat} (inside : n + 1 < 512) :
    imageSum image (n + 1) = imageSum image n + wordAt image (n + 1) := by
  have next : image.toList.take (n + 2) = image.toList.take (n + 1) ++ [wordAt image (n + 1)] := by
    rw [List.take_add_one]
    simp [wordAt, inside]
  unfold imageSum
  rw [next, List.foldl_append]
  rfl

/-- A sum reads the words it is over alone. -/
theorem imageSum_congr {a b : Image} {n : Nat} (inside : n < 512) (same : ∀ k ≤ n, wordAt a k = wordAt b k) :
    imageSum a n = imageSum b n := by
  induction n with
  | zero => rw [imageSum_zero, imageSum_zero, same 0 (Nat.le_refl 0)]
  | succ n ih =>
    rw [imageSum_succ a inside, imageSum_succ b inside, ih (by omega) fun k le => same k (by omega),
      same (n + 1) (Nat.le_refl _)]

/-! ### The words that end a profile (R172) -/

/-- The image PROFILE_END leaves at a write index. -/
def endedImage (image : Image) (i : Nat) : Image := writeWords image i (closingWords image i)

theorem endedImage_eq (image : Image) (i : Nat) : endedImage image i =
    setWordAt (setWordAt image i endMarker) (i + 1) (imageSum (setWordAt image i endMarker) i) := rfl

section
variable {image : Image} {i : Nat}

theorem endedImage_marker (room : i ≤ 510) : wordAt (endedImage image i) i = endMarker := by
  rw [endedImage_eq, wordAt_setWordAt_of_ne _ (by omega), wordAt_setWordAt_same _ (by omega)]

theorem endedImage_of_ne {j : Nat} (marker : j ≠ i) (check : j ≠ i + 1) :
    wordAt (endedImage image i) j = wordAt image j := by
  rw [endedImage_eq, wordAt_setWordAt_of_ne _ check, wordAt_setWordAt_of_ne _ marker]

/-- Up to the marker the ended image is the image with the marker. -/
theorem endedImage_to_marker {j : Nat} (le : j ≤ i) :
    wordAt (endedImage image i) j = wordAt (setWordAt image i endMarker) j := by
  rw [endedImage_eq, wordAt_setWordAt_of_ne _ (by omega)]

/-- The check word is the sum of the words before it. -/
theorem endedImage_check (room : i ≤ 510) :
    wordAt (endedImage image i) (i + 1) = imageSum (endedImage image i) i := by
  rw [imageSum_congr (by omega) fun k le => endedImage_to_marker le, endedImage_eq,
    wordAt_setWordAt_same _ (by omega)]

end

/-! ### The records read (R174) -/

/-- A record's values are those of the words they stand in. -/
theorem takeRecord_congr {a b : Image} (group : Nat) {count i : Nat}
    (same : ∀ k, i ≤ k → k < i + count → wordAt a k = wordAt b k) (index : Nat) (c : Candidate) :
    takeRecord a group count i index c = takeRecord b group count i index c := by
  induction count generalizing i index c with
  | zero => rfl
  | succ count ih =>
    unfold takeRecord
    rw [same i (Nat.le_refl i) (by omega), ih fun k lo hi => same k (by omega) (by omega)]

theorem recordSound_congr {a b : Image} {i : Nat} (head : wordAt a i = wordAt b i)
    (first : wordAt a (i + 1) = wordAt b (i + 1)) : recordSound a i = recordSound b i := by
  unfold recordSound
  rw [head, first]

/-- The marker stands at or behind the word where the reading begins. -/
theorem readRecords_le {image : Image} {fuel i m : Nat} {c d : Candidate}
    (read : readRecords image fuel i c = some (m, d)) : i ≤ m := by
  induction fuel generalizing i c with
  | zero => cases read
  | succ fuel ih =>
    unfold readRecords at read
    split at read
    · cases read
    · split at read
      · cases read
        exact Nat.le_refl _
      · split at read
        · have := ih read
          omega
        · cases read

/-- Records that run to a marker read no word behind it. -/
theorem readRecords_congr {a b : Image} {fuel i m : Nat} {c d : Candidate}
    (read : readRecords a fuel i c = some (m, d)) (same : ∀ k ≤ m, wordAt a k = wordAt b k) :
    readRecords b fuel i c = some (m, d) := by
  induction fuel generalizing i c with
  | zero => cases read
  | succ fuel ih =>
    have start := readRecords_le read
    unfold readRecords at read ⊢
    split at read
    · cases read
    case isFalse inside =>
      rw [if_neg inside, ← same i start]
      split at read
      case isTrue marker => rw [if_pos marker, read]
      case isFalse record =>
        rw [if_neg record]
        split at read
        case isFalse => cases read
        case isTrue sound =>
          have ends := readRecords_le read
          rw [← recordSound_congr (same i start) (same (i + 1) (by omega)), if_pos sound]
          dsimp only at read ⊢
          rw [← same (i + 1) (by omega), ← takeRecord_congr _ fun k lo hi => same k (by omega)]
          exact ih read

/-! ### The load (R174, R175) -/

/-- A load of records that run to a marker followed by their sum is no CHECK, and is LOADED or INCONSISTENT with the ID
words. -/
theorem loadImage_of_sum {image : Image} {m : Nat} {c : Candidate}
    (read : readRecords image 512 2 Candidate.initial = some (m, c)) (sum : wordAt image (m + 1) = imageSum image m) :
    loadImage image = if wordAt image 0 ≠ idWord0 ∨ wordAt image 1 ≠ idWord1 then (.noProfile, Params.defaults)
      else if consistent c.config = true then (.loaded, c.config) else (.inconsistent, c.config) := by
  unfold loadImage
  rw [read]
  dsimp only
  rw [if_neg (not_not_intro sum.symm)]

/-- The load of an ended profile whose records run to the marker. -/
theorem loadImage_endedImage {image : Image} {i : Nat} {c : Candidate} (room : i ≤ 510)
    (read : readRecords (setWordAt image i endMarker) 512 2 Candidate.initial = some (i, c)) :
    loadImage (endedImage image i) =
      if wordAt image 0 ≠ idWord0 ∨ wordAt image 1 ≠ idWord1 then (.noProfile, Params.defaults)
      else if consistent c.config = true then (.loaded, c.config) else (.inconsistent, c.config) := by
  have start := readRecords_le read
  rw [loadImage_of_sum (readRecords_congr read fun k le => (endedImage_to_marker le).symm) (endedImage_check room),
    endedImage_of_ne (by omega) (by omega), endedImage_of_ne (by omega) (by omega)]

/-! ### A profile with no record, and a store never written -/

theorem wordAt_replicate (w : Word) {j : Nat} (inside : j < 512) : wordAt (Vector.replicate 512 w) j = w := by
  simp [wordAt, inside]

theorem beginImage_eq : beginImage = setWordAt (setWordAt (Vector.replicate 512 erased) 0 idWord0) 1 idWord1 := rfl

theorem beginImage_zero : wordAt beginImage 0 = idWord0 := by
  rw [beginImage_eq, wordAt_setWordAt_of_ne _ (by decide), wordAt_setWordAt_same _ (by decide)]

theorem beginImage_one : wordAt beginImage 1 = idWord1 := by
  rw [beginImage_eq, wordAt_setWordAt_same _ (by decide)]

/-- The check word of a profile with no record: 4D31h + 5412h + E0E0h, carries dropped. -/
theorem imageSum_beginImage : imageSum (setWordAt beginImage 2 endMarker) 2 = 0x8223#16 := by
  rw [imageSum_succ _ (by decide), imageSum_succ _ (by decide), imageSum_zero, wordAt_setWordAt_same _ (by decide),
    wordAt_setWordAt_of_ne _ (by decide), wordAt_setWordAt_of_ne _ (by decide), beginImage_zero, beginImage_one]
  rfl

/-- The default tables are read back from the items of the initial candidate, whatever items stand behind them. -/
theorem initial_config : Candidate.initial.config = Params.defaults := rfl

theorem readRecords_marker {image : Image} {i : Nat} (inside : i ≤ 510) (marker : wordAt image i = endMarker)
    (fuel : Nat) (c : Candidate) : readRecords image (fuel + 1) i c = some (i, c) := by
  unfold readRecords
  rw [if_neg (by omega), if_pos marker]

/-- A profile with no record loads the defaults. -/
theorem loadImage_endedImage_beginImage : loadImage (endedImage beginImage 2) = (.loaded, Params.defaults) := by
  have sound : consistent Params.defaults = true := by decide
  rw [loadImage_endedImage (by decide) (readRecords_marker (by decide) (wordAt_setWordAt_same _ (by decide) _) 511 _),
    beginImage_zero, beginImage_one, initial_config, if_neg (by simp), if_pos sound]

/-- A store never written holds no profile. -/
theorem loadImage_unwritten : loadImage (Vector.replicate 512 0xFFFF#16) = (.noProfile, Params.defaults) := by
  have blank : wordAt (Vector.replicate 512 0xFFFF#16) 0 ≠ idWord0 := by
    rw [wordAt_replicate _ (by decide)]
    decide
  exact if_pos (.inl blank)

/-- Settles O57: the two closing words are the marker and the sum, and the loader reads no word behind the marker. -/
theorem writtenProfileLoads : Obligations.WrittenProfileLoads := by
  refine ⟨fun image i room => ⟨endedImage_marker room, endedImage_check room, fun j => endedImage_of_ne⟩,
    loadImage_endedImage_beginImage, loadImage_unwritten, fun image i c room read => ?ended,
    fun image => ⟨imageSum_zero image, fun n => imageSum_succ image⟩, congrArg ([endMarker, ·]) imageSum_beginImage⟩
  have load := loadImage_endedImage room read
  refine ⟨?_, fun id0 id1 => ?_⟩
  · show (loadImage (endedImage image i)).1 ≠ _
    rw [load]
    split
    · exact nofun
    · split <;> exact nofun
  · refine load.trans (if_neg ?_)
    simp [id0, id1, idWord0, idWord1]

end Sys2Proof.Machine
end

section
/-! The Profile Store: the moments of a write (O56), and the PROFILE_* requests (O55). -/

namespace Sys2Proof.Machine

open State

/-! ### Words written and put back (R173) -/

/-- A word written over is the word last written. -/
theorem setWordAt_setWordAt (image : Image) (i : Nat) (v w : Word) :
    setWordAt (setWordAt image i v) i w = setWordAt image i w := by
  unfold setWordAt
  by_cases inside : i < 512 <;> simp [inside]

/-- Writing a word as it stands changes nothing. -/
theorem setWordAt_wordAt (image : Image) (i : Nat) : setWordAt image i (wordAt image i) = image := by
  unfold setWordAt wordAt
  by_cases inside : i < 512 <;> simp [inside]

theorem setWordAt_comm (image : Image) {i j : Nat} (ne : i ≠ j) (v w : Word) :
    setWordAt (setWordAt image i v) j w = setWordAt (setWordAt image j w) i v := by
  unfold setWordAt
  by_cases first : i < 512
  · by_cases second : j < 512
    · simp only [first, second, dif_pos]
      exact Vector.set_comm _ _ ne
    · simp only [second, dif_neg, not_false_iff]
  · simp only [first, dif_neg, not_false_iff]

/-- A word before those of a write may be set before or after it. -/
theorem setWordAt_writeWords (image : Image) {i j : Nat} (before : i < j) (w : Word) (ws : List Word) :
    setWordAt (writeWords image j ws) i w = writeWords (setWordAt image i w) j ws := by
  induction ws generalizing image j with
  | nil => rfl
  | cons x rest ih =>
    show setWordAt (writeWords (setWordAt image j x) (j + 1) rest) i w = _
    rw [ih _ (by omega), setWordAt_comm _ (by omega)]
    rfl

/-- Putting back every word of a write restores the image (R173). -/
theorem putBack_writeWords (image : Image) (i : Nat) (ws : List Word) :
    putBack (writeWords image i ws) (wordsWritten image i ws) = image := by
  induction ws generalizing image i with
  | nil => rfl
  | cons w rest ih =>
    have first : setWordAt (writeWords (setWordAt image i w) (i + 1) rest) i (wordAt image i) =
        writeWords image (i + 1) rest := by
      rw [setWordAt_writeWords _ (Nat.lt_succ_self i), setWordAt_setWordAt, setWordAt_wordAt]
    exact (congrArg (putBack · (wordsWritten image (i + 1) rest)) first).trans (ih image (i + 1))

/-- The words after the first that stands at an index. -/
theorem wordsAfter_append {index : Nat} {xs : List WordWritten} (others : ∀ y ∈ xs, y.index ≠ index)
    {x : WordWritten} (at_ : x.index = index) (ys : List WordWritten) : wordsAfter index (xs ++ x :: ys) = ys := by
  induction xs with
  | nil => exact if_pos at_
  | cons y rest ih =>
    obtain ⟨first, later⟩ := List.forall_mem_cons.mp others
    exact (if_neg first).trans (ih later)

/-! ### The ends of a write, and a store failure (R172, R173) -/

section
variable {s : State} {w : StoreWrite} {m : Nat}

/-- A write whose busy time has been reached is done, as the end of a profile or as another request. -/
theorem State.writeDone_of_reached (write : s.store.write = some w) (busy : s.store.busyUntil = some m)
    (due : m ≤ s.now) (closing : Bool) : s.writeDone closing = (decide (w.request = .finish) == closing) := by
  have now : s.reached s.store.busyUntil = true := by
    rw [busy]
    exact decide_eq_true due
  unfold State.writeDone
  rw [write]
  simp [now]

/-- The busy time of PROFILE_END ends (R172). -/
theorem State.endProfile_eq (s : State) :
    s.endProfile = (s.setStore ⟨s.store.image, none, none, none⟩).logEvent .storeWritten .advisory none
      (s.store.writeIndex.map fun i => ((i + 1 : Nat) : Int)) := by
  unfold State.endProfile
  dsimp only
  rw [Option.map_map]
  rfl

theorem exec_storeWritten (write : s.store.write = some w) (busy : s.store.busyUntil = some m) (due : m ≤ s.now)
    (idle : s.deferred = []) (closing : w.request = .finish) : exec .storeWritten s = .next s.endProfile := by
  have done : s.writeDone true = true := by simp [writeDone_of_reached write busy due, closing]
  show finish (if s.writeDone true then s.endProfile else s) = _
  rw [if_pos done]
  exact finish_of_nil ((logEvent_deferred ..).trans idle)

theorem exec_storeBusyEnd (write : s.store.write = some w) (busy : s.store.busyUntil = some m) (due : m ≤ s.now)
    (idle : s.deferred = []) (unfinished : w.request ≠ .finish) : exec .storeBusyEnd s = .next s.endBusy := by
  have done : s.writeDone false = true := by simp [writeDone_of_reached write busy due, unfinished]
  show finish (if s.writeDone false then s.endBusy else s) = _
  rw [if_pos done]
  exact finish_of_nil idle

/-- A store failure puts back the words of the write after the failing one (R173). -/
theorem State.failStore_of_write {index : Nat} {xs ys : List WordWritten} {x : WordWritten}
    (write : s.store.write = some w) (words : w.words = xs ++ x :: ys) (at_ : x.index = index)
    (others : ∀ y ∈ xs, y.index ≠ index) (found : Word) : s.failStore index found =
      (s.setStore ⟨setWordAt (putBack s.store.image ys) index found, none, none, none⟩).logEvent .storeFailed
        .degraded none (some (index : Int)) := by
  unfold State.failStore
  rw [write, Option.map_some, Option.getD_some, words, wordsAfter_append others at_]

/-- STORE_FAILED at a word of the write in progress that reads back otherwise (R173). -/
theorem exec_storeFailed {i : Fin 512} {x : WordWritten} {found : Word} (write : s.store.write = some w)
    (mem : x ∈ w.words) (at_ : x.index = i.val) (differs : wordAt s.store.image i.val ≠ found)
    (idle : s.deferred = []) : exec (.storeFailed i found) s = .next (s.failStore i.val found) := by
  have written : w.words.any (fun x => x.index = i.val) = true := List.any_eq_true.mpr ⟨x, mem, decide_eq_true at_⟩
  have fails : s.readBackFails i.val found = true := by
    unfold State.readBackFails
    rw [write]
    simp [written, differs]
  show finish (if s.readBackFails i.val found then s.failStore i.val found else s) = _
  rw [if_pos fails]
  exact finish_of_nil ((logEvent_deferred ..).trans idle)

end

/-- Settles O56: each moment is due, and a failure splits the write at the failing word. -/
theorem storeMoments : Obligations.StoreMoments := by
  refine ⟨fun s w m write busy due idle => ⟨fun closing => ?written, exec_storeBusyEnd write busy due idle⟩,
    fun s w xs ys x i found write words at_ others differs idle => ?failed, putBack_writeWords⟩
  case written => rw [exec_storeWritten write busy due idle closing, endProfile_eq]
  case failed =>
    have mem : x ∈ w.words := words ▸ List.mem_append_right xs List.mem_cons_self
    rw [exec_storeFailed write mem at_ differs idle, failStore_of_write write words at_ others]

/-! ### Bodies of the store's requests (R154, R162) -/

theorem wordsOf_bytesOf (ws : List Word) : wordsOf (bytesOf ws) = ws := by
  induction ws with
  | nil => rfl
  | cons w rest ih =>
    show word2 (byteOf (w.toNat / 256)) (byteOf w.toNat) :: wordsOf (bytesOf rest) = _
    rw [word2_wordBytes, ih]

/-- A PUT row whose values are as many as its head counts reads as its request. -/
theorem readBody_profilePut {head : Word} {values : List Word} (counted : values.length = headCount head)
    (first : Word) : readBody isParam .profilePut (wordBytes head ++ wordBytes first ++ bytesOf values) =
      .ok (.profilePut head first values) := by
  have length : (bytesOf values).length = 2 * headCount head := by rw [bytesOf_length, counted]
  refine (if_pos ?_).trans ?_
  · rw [word2_wordBytes]
    exact length
  · rw [word2_wordBytes, word2_wordBytes]
    exact congrArg (fun ws => Except.ok (Request.profilePut head first ws)) (wordsOf_bytesOf values)

theorem readBody_profileRead (index : Word) :
    readBody isParam .profileRead (wordBytes index) = .ok (.profileRead index) :=
  congrArg (fun w => Except.ok (Request.profileRead w)) (word2_wordBytes index)

/-- A sound head: signature Ah, a group of 1 to 4, a count of at most 20 (R162). -/
theorem headSound_iff (head : Word) : headSound head = true ↔
    head.toNat / 4096 = 10 ∧ 1 ≤ head.toNat / 64 % 64 ∧ head.toNat / 64 % 64 ≤ 4 ∧ headCount head ≤ 20 := by
  simp only [headSound, Bool.and_eq_true, decide_eq_true_eq, and_assoc]
  rfl

/-! ### The answers of the store (R172) -/

section
variable {s : State}

theorem State.ifStoreFree_of_busy (busy : s.store.busyUntil ≠ none) (x : Answer × State) :
    s.ifStoreFree x = (.refused .storeBusy, s) :=
  if_pos (Option.isSome_iff_ne_none.mpr busy)

theorem State.ifStoreFree_of_free (free : s.store.busyUntil = none) (x : Answer × State) : s.ifStoreFree x = x := by
  unfold State.ifStoreFree
  rw [free]
  rfl

/-- The requests of the Profile Store (R154). -/
def Request.ofStore : Request → Bool
  | .profileBegin | .profilePut .. | .profileEnd | .profileReload | .profileRead _ => true
  | _ => false

/-- A busy store refuses each of its requests (R172). -/
theorem State.answer_of_busy (busy : s.store.busyUntil ≠ none) {r : Request} (mine : r.ofStore = true) :
    s.answer r = (.refused .storeBusy, s) := by
  cases r
  case profileBegin | profilePut | profileEnd | profileReload | profileRead => exact ifStoreFree_of_busy busy _
  all_goals cases mine

theorem State.answerProfileBegin_of_free (free : s.store.busyUntil = none) : s.answerProfileBegin =
    (.accepted, s.beginWrite .begin beginImage [⟨0, erased⟩, ⟨1, erased⟩] 2 Fixed.storeErase) :=
  ifStoreFree_of_free free _

/-- The requests of a session are refused without one (R172). -/
theorem State.answerProfileEnd_of_closed (free : s.store.busyUntil = none) (closed : s.store.writeIndex = none) :
    s.answerProfileEnd = (.refused .noProfile, s) := by
  unfold State.answerProfileEnd
  rw [ifStoreFree_of_free free, closed]

theorem State.answerProfileEnd_of_open {i : Nat} (free : s.store.busyUntil = none)
    (session : s.store.writeIndex = some i) : s.answerProfileEnd =
      (.accepted, s.beginWrite .finish (writeWords s.store.image i (closingWords s.store.image i))
        (wordsWritten s.store.image i (closingWords s.store.image i)) i 8) := by
  unfold State.answerProfileEnd
  rw [ifStoreFree_of_free free, session]
  rfl

theorem State.answerProfileRead_of_le {index : Word} (free : s.store.busyUntil = none) (inside : index.toNat ≤ 511) :
    s.answerProfileRead index = (.done (bytesOf (readEight s.store.image index.toNat)), s) :=
  (ifStoreFree_of_free free _).trans (if_neg (Nat.not_lt.mpr inside))

theorem State.answerProfileRead_of_gt {index : Word} (free : s.store.busyUntil = none) (beyond : 511 < index.toNat) :
    s.answerProfileRead index = (.refused .badArgument, s) :=
  (ifStoreFree_of_free free _).trans (if_pos beyond)

theorem State.answerProfileReload_of_running (free : s.store.busyUntil = none)
    (running : s.supervisor.control = .running) : s.answerProfileReload = (.refused .notSuspended, s) :=
  (ifStoreFree_of_free free _).trans (if_pos (decide_eq_true running))

section
variable (free : s.store.busyUntil = none) (stopped : s.supervisor.control ≠ .running)
include free stopped

/-- A reload outside RUNNING is judged by the session (R172). -/
theorem State.answerProfileReload_of_stopped : s.answerProfileReload =
    if s.store.writeIndex.isSome then (.refused .storeBusy, s) else (.accepted, s.startReload) :=
  (ifStoreFree_of_free free _).trans (if_neg fun running => stopped (of_decide_eq_true running))

theorem State.answerProfileReload_of_open (session : s.store.writeIndex ≠ none) :
    s.answerProfileReload = (.refused .storeBusy, s) := by
  rw [answerProfileReload_of_stopped free stopped, if_pos (Option.isSome_iff_ne_none.mpr session)]

theorem State.answerProfileReload_of_closed (closed : s.store.writeIndex = none) :
    s.answerProfileReload = (.accepted, s.startReload) := by
  rw [answerProfileReload_of_stopped free stopped, if_neg (by simp [closed])]

end

section
variable (free : s.store.busyUntil = none) (first : Word) (values : List Word)
include free

theorem State.answerProfilePut_of_closed (head : Word) (closed : s.store.writeIndex = none) :
    s.answerProfilePut head first values = (.refused .noProfile, s) := by
  unfold State.answerProfilePut
  rw [ifStoreFree_of_free free, closed]

variable {i : Nat} {head : Word} (session : s.store.writeIndex = some i)
include session

/-- A PUT in a session is judged by its head, then by the room left (R172). -/
theorem State.answerProfilePut_of_open : s.answerProfilePut head first values =
    if !headSound head then (.refused .badArgument, s)
    else if 510 < i + 2 + headCount head then (.refused .storeFull, s)
    else (.accepted, s.beginWrite .put (writeWords s.store.image i (head :: first :: values))
      (wordsWritten s.store.image i (head :: first :: values)) (i + (head :: first :: values).length)
      (4 * (head :: first :: values).length)) := by
  unfold State.answerProfilePut
  rw [ifStoreFree_of_free free, session]
  rfl

theorem State.answerProfilePut_of_unsound (unsound : headSound head = false) :
    s.answerProfilePut head first values = (.refused .badArgument, s) := by
  rw [answerProfilePut_of_open free first values session, if_pos (by rw [unsound]; rfl)]

variable (sound : headSound head = true)
include sound

theorem State.answerProfilePut_of_full (full : 510 < i + 2 + headCount head) :
    s.answerProfilePut head first values = (.refused .storeFull, s) := by
  rw [answerProfilePut_of_open free first values session, if_neg (by simp [sound]), if_pos full]

theorem State.answerProfilePut_of_room (room : i + 2 + headCount head ≤ 510) : s.answerProfilePut head first values =
    (.accepted, s.beginWrite .put (writeWords s.store.image i (head :: first :: values))
      (wordsWritten s.store.image i (head :: first :: values)) (i + (head :: first :: values).length)
      (4 * (head :: first :: values).length)) := by
  rw [answerProfilePut_of_open free first values session, if_neg (by simp [sound]), if_neg (Nat.not_lt.mpr room)]

end
end

/-! ### The requests of the store (R172) -/

section
variable {s : State} (h : s.Serving) {k : Kind} {body : List Byte} {r : Request} (tag : Byte)
include h

/-- A request its owner takes after STARTING with an act that leaves the Link Port and the hand-offs alone: the act,
and the reply. -/
theorem request_taken_apart {t : State} {a : Answer} (read : readBody isParam k body = .ok r)
    (answered : s.heard.answer r = (a, t)) (taken : ∀ reason, a ≠ .refused reason) (link : t.link = s.heard.link)
    (deferred : t.deferred = s.heard.deferred) : request k tag body s = .next (t.replied k tag a) := by
  obtain ⟨idle, stays⟩ := h.1.heard
  exact request_of_quiet h.1 tag (fun starting => absurd starting h.2) read answered taken (deferred.trans idle)
    ((congrArg LinkPort.restartPending link).trans stays)

/-- A busy store refuses each of its requests with STORE_BUSY. -/
theorem request_refused_while_busy (busy : s.store.busyUntil ≠ none) (mine : r.ofStore = true)
    (read : readBody isParam k body = .ok r) : request k tag body s = s.refusedWith k tag .storeBusy :=
  request_refused_by_owner h tag read (answer_of_busy (s := s.heard) busy mine)

/-- A PUT row that the store refuses. -/
theorem exec_profilePut_refused {head first : Word} {values : List Word} {reason : Reason}
    (counted : values.length = headCount head)
    (answered : s.heard.answerProfilePut head first values = (.refused reason, s.heard)) :
    exec (.profilePut tag head first values) s = s.refusedWith .profilePut tag reason :=
  request_refused_by_owner h tag (readBody_profilePut counted first) answered

end

/-- Settles O55: each row reads as its request, whose answer goes by the store it meets. -/
theorem storeRequests : Obligations.StoreRequests := by
  refine ⟨fun tag s h busy => ?busy, fun tag s h free =>
    ⟨?begin, fun closed => ?endClosed, fun i session => ?endOpen, fun i inside => ?read, fun i beyond => ?readBeyond,
      fun running => ?reloadRunning, fun stopped session => ?reloadOpen, fun stopped closed => ?reload,
      fun head first values counted => ⟨fun closed => ?putClosed, fun i session unsound => ?putUnsound,
        fun i session sound full => ?putFull, fun i session sound room => ?put⟩⟩⟩
  case busy =>
    exact ⟨request_refused_while_busy h tag busy (r := .profileBegin) rfl rfl,
      request_refused_while_busy h tag busy (r := .profileEnd) rfl rfl,
      request_refused_while_busy h tag busy (r := .profileReload) rfl rfl,
      fun i => request_refused_while_busy h tag busy rfl (readBody_profileRead i),
      fun _ first _ counted => request_refused_while_busy h tag busy rfl (readBody_profilePut counted first)⟩
  case begin =>
    exact request_taken_apart h tag rfl (answerProfileBegin_of_free (s := s.heard) free) nofun rfl rfl
  case endClosed => exact request_refused_by_owner h tag rfl (answerProfileEnd_of_closed (s := s.heard) free closed)
  case endOpen =>
    exact request_taken_apart h tag rfl (answerProfileEnd_of_open (s := s.heard) free session) nofun rfl rfl
  case read =>
    exact request_taken_apart h tag (readBody_profileRead i) (answerProfileRead_of_le (s := s.heard) free inside) nofun
      rfl rfl
  case readBeyond =>
    exact request_refused_by_owner h tag (readBody_profileRead i) (answerProfileRead_of_gt (s := s.heard) free beyond)
  case reloadRunning =>
    exact request_refused_by_owner h tag rfl (answerProfileReload_of_running (s := s.heard) free running)
  case reloadOpen =>
    exact request_refused_by_owner h tag rfl (answerProfileReload_of_open (s := s.heard) free stopped session)
  case reload =>
    exact request_taken_apart h tag rfl (answerProfileReload_of_closed (s := s.heard) free stopped closed) nofun rfl rfl
  case putClosed =>
    exact exec_profilePut_refused h tag counted
      (answerProfilePut_of_closed (s := s.heard) free first values head closed)
  case putUnsound =>
    have rejected : headSound head = false := Bool.eq_false_iff.mpr (mt (headSound_iff head).mp unsound)
    exact exec_profilePut_refused h tag counted
      (answerProfilePut_of_unsound (s := s.heard) free first values session rejected)
  case putFull =>
    exact exec_profilePut_refused h tag counted
      (answerProfilePut_of_full (s := s.heard) free first values session ((headSound_iff head).mpr sound) full)
  case put =>
    exact request_taken_apart h tag (readBody_profilePut counted first)
      (answerProfilePut_of_room (s := s.heard) free first values session ((headSound_iff head).mpr sound) room) nofun
      rfl rfl

end Sys2Proof.Machine
end

section
/-! The two branches of a step: the command at the front of the queue (O1), and the millisecond that passes on an
empty queue (O2). -/

namespace Sys2Proof.Machine

theorem step_of_pending_cons {s : State} {c : Instr} {rest : List Instr} (front : s.pending = c :: rest) :
    step s = exec c (s.setPending rest) := by
  rw [step, front]

theorem step_of_pending_nil {s : State} (idle : s.pending = []) : step s = .next s.tick := by
  rw [step, idle]

/-- A tick keeps what waits and appends what falls due; with nothing waiting the queue is what falls due. -/
theorem State.tick_of_pending_nil {s : State} (idle : s.pending = []) :
    s.tick = (s.setNow (s.now + 1)).setPending (s.setNow (s.now + 1)).dueCommands := by
  rw [tick, setNow_pending, idle, List.nil_append]

/-- Settles O1: the branch of a step on a queue that is not empty. -/
theorem stepRunsFrontCommand : Obligations.StepRunsFrontCommand :=
  fun _ _ _ front => step_of_pending_cons front

/-- Settles O2: an idle step is a tick, and the tick finds nothing waiting before the commands then due. -/
theorem idleStepIsOneTick : Obligations.IdleStepIsOneTick := by
  intro s idle
  rw [step_of_pending_nil idle, State.tick_of_pending_nil idle]

end Sys2Proof.Machine
end
